-- ==== Sys2Proof/Word.lean ====
section
/-! DEFINITION. The words the VT8400 model is written in: bytes, register words, cycle numbers and identities
(spec/00_scope.md, R3, R4, Table SC-3). -/

namespace Sys2Proof

/-- One byte of a frame or a memory. -/
abbrev Byte := BitVec 8

/-- One 32-bit register word (R6). -/
abbrev Word := BitVec 32

/-- A cycle number: 48 bits, wrapping (Table SC-3, R11). -/
abbrev CN := BitVec 48

/-- A factory identity: 64 bits (Table SC-3). -/
abbrev Uid := BitVec 64

/-- One audio sample, Q8.24 (spec/03_line_cycle.md). -/
abbrev Sample := BitVec 32

end Sys2Proof
end

