-- ==== Sys2Proof/Syntax.lean ====
section
/-! DEFINITION. The commands of the VT8400: one constructor per row of spec/opcode_table.json, with the row's
operands, and the operand types. -/

namespace Sys2Proof

/-- A g register of a Milnak engine (Table MK-1). -/
abbrev GReg := Fin 32

/-- A v register of a V-engine (Table MK-1). -/
abbrev VReg := Fin 16

/-- What issues a Milnak instruction: the engine, and whether its fetch or its memory read meets an uncorrectable
error (Table MK-14, MEMERR). -/
structure Issue where
  engine : Fin 32
  memErr : Bool
  deriving DecidableEq, Repr


/-- What is wrong with a received frame: the checks of Table LC-18, and what the port counts beside them (LP_CNT). -/
inductive RxViolation where
  /-- the preamble starts outside every window -/
  | outsideWindow
  /-- TYPE and INDEX are not permitted at the position -/
  | notPermitted
  /-- the frame has not ended when its window closes -/
  | tooLong
  /-- something is received outside windows -/
  | noWindow
  /-- the frame ended with an error control block (R45) -/
  | aborted
  /-- an invalid sync header -/
  | badHeader
  deriving DecidableEq, Repr

/-- A CAN frame on the bus (R373): for a remote frame only the DLC counts. -/
structure CanFrame where
  ide : Bool := false
  id : BitVec 29 := 0#29
  fdf : Bool := false
  brs : Bool := false
  esi : Bool := false
  rtr : Bool := false
  dlc : BitVec 4 := 0#4
  data : List Byte := []
  deriving DecidableEq, Repr

/-- How the reception of a CAN frame ends. -/
inductive CanRx where
  /-- good CRC and no error -/
  | good
  /-- an error the receiver detects -/
  | error
  /-- an error, and a dominant bit follows the receiver's error flag -/
  | dominantAfterFlag
  deriving DecidableEq, Repr

/-- How an attempt to send a CAN frame ends. -/
inductive CanTx where
  | sent
  | lostArbitration
  | noAck
  | error
  deriving DecidableEq, Repr

/-- What a local boundary takes from outside the node: the raw egress stamps of the node's own cycle start frames on
channels A and B, the identities of an epoch that takes effect in number order (log entry 11), the ticks of the slow
counter since the last boundary, the die temperatures in °C + 64, the errors each die corrected, the voltage PW_STAT
shows, and the load-switch currents in mA. -/
structure BoundaryIn where
  egress : List (BitVec 40) := []
  ids : List (BitVec 64) := []
  slowTicks : BitVec 16 := 0#16
  temps : List (BitVec 8) := []
  ces : List (BitVec 8) := []
  vhold : BitVec 8 := 0#8
  ma : List (BitVec 16) := []
  deriving DecidableEq, Repr

/-- A command: one row of spec/opcode_table.json. -/
inductive Instr where
  /-- LOCAL_BOUNDARY (R17): The time base reaches the start of a cycle and the node runs the boundary sequence of Table AC-4. -/
  | localBoundary (b : BoundaryIn)
  /-- IMAGE_HOLD_EXPIRY (R26): HOLD has been 1 for 64 boundaries, so the node clears it, sets HOLDEXP and records a class G event. -/
  | imageHoldExpiry
  /-- DIE_FAILURE (R31): A die fails and the node stops using it, with the effects of Table AC-7. -/
  | dieFailure (die : Fin 8) (cause : Fin 7) (other : Option (Fin 7))
  /-- CX_HEARTBEAT_STOP (R76): The CX heartbeat stops: the line dies keep the last REPORT with CXLOST, stop DREQ and DRSP, and send null in owned lanes and slots. -/
  | cxHeartbeatStop
  /-- LOAD_SWITCH_CX_LOSS (R446): Two cycles after the CX heartbeat stops, PX turns off the load-switch channels that are not under limp-home. -/
  | loadSwitchCxLoss
  /-- RESERVED_ADDRESS_ACCESS (R7): A read of a reserved address returns 0 and a write to one, or to the SF view, has no effect; either records a class G event with the address. -/
  | reservedAddressAccess (iface : Fin 2) (addr : BitVec 32) (write : Bool)
  /-- REGISTER_WRITE (R8): A host writes a register that has no row of its own, with the effect of its access type. -/
  | registerWrite (iface : Fin 2) (addr value : BitVec 32)
  /-- RC_READ (R10): A read of an RC register returns the value and clears it; an event counted in the same clock restarts the counter at 1. -/
  | rcRead (iface : Fin 2) (addr : BitVec 32)
  /-- PLL_LOCKED (R38): The port PLL locks, so the port sends one wake tone when WAKEFIRST = 1 and enters DETECT. -/
  | pllLocked (p : Fin 5)
  /-- PARTNER_ENERGY_DETECT (R38): Partner training energy has been present for 100 µs outside a re-entry hold, so the port counts an attempt and enters ANNOUNCE. -/
  | partnerEnergyDetect (p : Fin 5)
  /-- RATES_AGREED (R40): The partners have exchanged capabilities, so the port selects its rate and enters TRAIN. -/
  | ratesAgreed (p : Fin 5) (partner10 partner1 : Bool)
  /-- TRAINING_CONVERGED (R38): The echo canceller and equaliser have converged, so the port enters CHECK. -/
  | trainingConverged (p : Fin 5)
  /-- BLOCK_LOCK_ACQUIRED (R38): 4,096 consecutive valid sync headers have arrived, so the port enters IDENT. -/
  | blockLockAcquired (p : Fin 5)
  /-- IDENTITIES_EXCHANGED (R41): The identity exchange completes, so the port writes LP_PARTNERID and LP_PARTNERPORT, applies the link-up checks and enters UP. -/
  | identitiesExchanged (p : Fin 5) (partner : Uid) (vt6100 : Bool) (partnerChan : Fin 2) (side : Fin 4)
  /-- TRAINING_STEP_FAILURE (R44): A training step exceeds its limit or there is no common rate, so the port counts a failure, sets its cause and enters BACKOFF. -/
  | trainingStepFailure (p : Fin 5) (noCommonRate : Bool)
  /-- BACKOFF_EXPIRY (R38): The randomised back-off ends and the port returns to DETECT. -/
  | backoffExpiry (p : Fin 5)
  /-- LINK_LOSS (R42): The signal energy or sync headers fail, so the port leaves UP, sets DOWN and starts the re-entry hold. -/
  | linkLoss (p : Fin 5) (midFrame : Bool)
  /-- LINK_DROP_RECEIVED (R43): A link-drop ordered set arrives, so the port sets DOWN and DROP, starts the re-entry hold and enters DETECT. -/
  | linkDropReceived (p : Fin 5) (midFrame : Bool)
  /-- REENTRY_HOLD_EXPIRY (R43): The 10 ms re-entry hold ends, so the port again sends training energy and accepts an attempt. -/
  | reentryHoldExpiry (p : Fin 4)
  /-- WAKE_TONE_DETECT (R50): A port's detector reports a wake tone; the detection is recorded, and when the node is PARKED or DOZE the tone is relayed. -/
  | wakeToneDetect (p : Fin 4)
  /-- WAKE_BLANKING_EXPIRY (R51): The 10 ms blanking ends and the detectors are heard again. -/
  | wakeBlankingExpiry
  /-- ORIGINATOR_SLOT_TRANSMIT (R61): The originator sends a container, mini-slot or other frame of the cycle at its offset. -/
  | originatorSlotTransmit (c : Fin 2) (pos : Fin 198) (queue : Fin 1048576) (dest : BitVec 16) (stream : BitVec 32)
  /-- CSF_RECEIVED (R62): A node receives a CSF, checks it and derives the slot windows of that pass from it. -/
  | csfReceived (p : Fin 4) (frame : List Byte) (ingress egress : BitVec 40)
  /-- CSF_FLYWHEEL (R62): A pass has no valid CSF in a cycle, so the node continues the windows and increments FLYWHEEL. -/
  | csfFlywheel (c : Fin 2) (ret : Bool)
  /-- UPSTREAM_LOSS (R62): Two consecutive cycles pass without a valid outbound CSF, so the node sets UPLOSS and reports it to the redundancy logic. -/
  | upstreamLoss (c : Fin 2)
  /-- AUDIO_CONTAINER_OUTBOUND (R70): An audio container passes on the outbound pass and the node applies its lane modes to it. -/
  | audioContainerOutbound (c : Fin 2) (frame : List Byte)
  /-- AUDIO_CONTAINER_RETURN (R73): A node reads an audio container on the return pass and delivers its lanes to AX. -/
  | audioContainerReturn (c : Fin 2) (frame : List Byte)
  /-- DATA_SLOT_OUTBOUND (R74): A data container passes on the outbound pass; the owner writes a frame or a null frame, or counts a collision. -/
  | dataSlotOutbound (c : Fin 2) (frame : List Byte) (queue : Fin 1048576) (dest : BitVec 16) (stream : BitVec 32) (sink : Fin 1048576)
  /-- ROSTER_SLOT_OUTBOUND (R76): The line die writes the node's roster lane into a passing roster container. -/
  | rosterSlotOutbound (c : Fin 2) (frame : List Byte)
  /-- ROSTER_SLOT_RETURN (R124): The leader reads the roster lanes and selects changed reports for the commit lists. -/
  | rosterSlotReturn (c : Fin 2) (frame : List Byte)
  /-- ROSTER_ABSENT_EXPIRY (R124): A node's roster lane has been unusable for ABSENT cycles, so the leader queues an ABSENT entry. -/
  | rosterAbsentExpiry (node : Fin 512)
  /-- SEQUENCER_RECEIVED (R122): A node reads a commit list in the sequencer container and keeps it for its commit cycle. -/
  | sequencerReceived (c : Fin 2) (frame : List Byte)
  /-- SERVICE_SLOT_OUTBOUND (R78): Service slot 7 passes outbound and the writers put in the time service, arbitration and safety records. -/
  | serviceSlotOutbound (c : Fin 2) (frame : List Byte)
  /-- SERVICE_SLOT_RETURN (R78): A node reads the records of service slot 7 on the return pass. -/
  | serviceSlotReturn (c : Fin 2) (frame : List Byte)
  /-- MINISLOT_CLAIM (R80): A node with a queued message claims a mini-slot that arrives as MS_EMPTY. -/
  | minislotClaim (c : Fin 2) (frame : List Byte) (queue : Fin 1048576) (dest : BitVec 16) (stream : BitVec 32)
  /-- MINISLOT_MESSAGE_RECEIVED (R266): A line message is received and pushed into its destination queue, or dropped there. -/
  | minislotMessageReceived (c : Fin 2) (frame : List Byte) (queue : Fin 1048576)
  /-- STARVED_SET (R83): A class M or L message has waited STARVEW cycles, or two chains were abandoned, so the node sets STARVED. -/
  | starvedSet (c : Fin 2)
  /-- DREQ_TRANSMIT (R85): The node sends a DREQ and a DRSP on each forwarding port in the NIT. -/
  | dreqTransmit (p : Fin 4) (dreqEgress drspEgress : BitVec 40)
  /-- DREQ_RECEIVED (R85): A DREQ arrives, and its ingress stamp is kept for the DRSP. -/
  | dreqReceived (p : Fin 4) (frame : List Byte) (ingress : BitVec 40)
  /-- DRSP_RECEIVED (R136): A DRSP arrives, and a valid exchange yields the link delay, rate and offset. -/
  | drspReceived (p : Fin 4) (frame : List Byte) (ingress : BitVec 40) (rawTicks : Nat)
  /-- RECEIVED_FRAME_VIOLATION (R89): A received frame violates its window or position, so the sluice drops or cuts it and counts the violation. -/
  | receivedFrameViolation (p : Fin 4) (kind : RxViolation)
  /-- QUARANTINE_EXPIRY (R90): QTIME cycles pass and the quarantine ends. -/
  | quarantineExpiry (p : Fin 4)
  /-- QUARANTINE_CLEAR_WRITE (R90): Host software writes 1 to QUARF or QUARR, and the quarantine ends at the next boundary. -/
  | quarantineClearWrite (p : Fin 4)
  /-- PREVIOUS_KEY_EXPIRY (R88): 64 cycles after the commit cycle, the node discards the previous epoch's train key. -/
  | previousKeyExpiry
  /-- LINK_WAIT_EXPIRY (R96): The 160 ms link wait ends, so a qualified end node starts beacons and enters CONTEND. -/
  | linkWaitExpiry
  /-- FALLBACK_WAIT_EXPIRY (R96): 200 ms after the link wait pass with no CSF, so an end node without CSCAP sets FALLBACK and contends. -/
  | fallbackWaitExpiry
  /-- BEACON_SEND (R98): A contender sends a BEACON on every forwarding port once per 1 ms. -/
  | beaconSend
  /-- BEACON_RECEIVED (R99): A BEACON is received, forwarded or absorbed, and compared with the node's own. -/
  | beaconReceived (p : Fin 4) (frame : List Byte)
  /-- BEACON_WINDOW_EXPIRY (R96): 10 ms of beacons pass unopposed, so the node becomes leader of epoch 0 and forms TDOM. -/
  | beaconWindowExpiry
  /-- FORMWAIT_EXPIRY (R103): The cold-start win has lasted FORMWAIT cycles, so the leader starts an inauguration. -/
  | formwaitExpiry
  /-- PREPARE_SEND (R103): The leader sends PREPARE on both channels in a class C mini-slot. -/
  | prepareSend (slotA slotB : Fin 118)
  /-- PREPARE_RECEIVED (R103): A node updates a passing PREPARE: it takes its number and orientation, adds its link delay, and the tail completes it. -/
  | prepareReceived (c : Fin 2) (frame : List Byte)
  /-- SEGMENT_HEAD_PREPARE_COPY (R104): A segment head originates a copy of the PREPARE or COMMIT in its own segment. -/
  | segmentHeadPrepareCopy (c : Fin 2) (slot : Fin 118)
  /-- RING_B_COPY_COMPLETE (R480): The ring-B origin completes the channel B copy as a tail and sends it on in its next mini-slot. -/
  | ringBCopyComplete (slot : Fin 118)
  /-- PREPARE_RETURNED (R106): The ENDTAIL copy returns to the leader, which computes N, L, D and COMMITCN or abandons the inauguration. -/
  | prepareReturned (c : Fin 2) (frame : List Byte)
  /-- PREPARE_RETURN_TIMEOUT (R105): The ENDTAIL copy has not returned within Lm + 1 cycles, so the leader abandons the inauguration. -/
  | prepareReturnTimeout
  /-- COMMIT_SEND (R106): The leader sends COMMIT with COMMITCN on both channels. -/
  | commitSend (slotA slotB : Fin 118)
  /-- COMMIT_RECEIVED (R106): A node reads a passing COMMIT and increments ACKS. -/
  | commitReceived (c : Fin 2) (frame : List Byte)
  /-- ADMISSION_RECORD_SEND (R112): A port held with HOLDRSN 1 sends an admission record every 125 µs. -/
  | admissionRecordSend (p : Fin 4)
  /-- ADMISSION_RECORD_RECEIVED (R112): An admission record is received, then used or rejected. -/
  | admissionRecordReceived (p : Fin 4) (record : List Byte)
  /-- COUPLE_SEND (R114): After two records are used, X and Y each send COUPLE to their leader. -/
  | coupleSend (p : Fin 4)
  /-- COUPLE_RECEIVED (R114): A leader receives COUPLE and decides the winner of the merge. -/
  | coupleReceived (c : Fin 2) (frame : List Byte)
  /-- MERGE_PREPARE_SEND (R115): The winner's leader sends a PREPARE with MERGE and COMMITCN MERGEAHEAD cycles ahead. -/
  | mergePrepareSend (slotA slotB : Fin 118)
  /-- PLAN_RECEIVED (R115): The yielding leader receives the PLAN and runs its own PREPARE and COMMIT. -/
  | planReceived (c : Fin 2) (frame : List Byte)
  /-- PROPOSAL_SUBMIT (R120): A write of IN_PROPCTL.GO = 1 submits a proposal. -/
  | proposalSubmit (value : BitVec 32)
  /-- PROPOSAL_RECEIVED (R121): The leader absorbs a proposal and orders or discards it. -/
  | proposalReceived (c : Fin 2) (frame : List Byte)
  /-- COMMIT_LIST_PUBLISH (R123): The leader publishes a commit list in service slot 6. -/
  | commitListPublish
  /-- PROPOSAL_TIMEOUT (R126): No entry has been committed for a proposal within PTMO × 16 cycles, so the proposer resubmits it or gives up. -/
  | proposalTimeout (pseq : BitVec 16)
  /-- RESYNC_SEND (R128): A STALE node sends an MS_INAUG RESYNC to the leader. -/
  | resyncSend
  /-- RESYNC_RECEIVED (R128): The leader receives RESYNC and chooses the snapshot cycle s. -/
  | resyncReceived (c : Fin 2) (frame : List Byte)
  /-- SNAP_CHAIN_SEND (R128): The leader sends up to 4 SNAP chains per cycle in cycles s + 1 to s + 8. -/
  | snapChainSend (slotA slotB : Fin 118)
  /-- SNAP_RECEIVED (R128): A recovering node stores a SNAP chain and, with the whole image, applies its kept lists and clears STALE. -/
  | snapReceived (c : Fin 2) (frame : List Byte)
  /-- SNAP_MISSED (R128): The image is not complete by s + Lc + 10, or a list was missed, so the node sends RESYNC again. -/
  | snapMissed
  /-- HOLDOVER_ENTRY (R145): No candidate has carried a valid exchange for 2 cycles, so the node holds INCR and enters HOLDOVER. -/
  | holdoverEntry
  /-- NS_WRAP (R149): NS wraps, so the node increments TB_WRAPCNT, latches the CN and sets WRAP. -/
  | nsWrap
  /-- TOUT_ARM (R154): A write of ARM = 1 arms a pulse pin, or is refused with BADCFG. -/
  | toutArm (i : Fin 4) (periodic activeLow : Bool)
  /-- TOUT_DISARM (R154): A write of ARM = 0 ends the schedule after any pulse in progress. -/
  | toutDisarm (i : Fin 4)
  /-- TOUT_PULSE_START (R154): A pulse instant arrives and the pin goes active. -/
  | toutPulseStart (i : Fin 4)
  /-- TOUT_PULSE_END (R154): The width elapses, so the pin goes inactive and a one-shot sets DONE. -/
  | toutPulseEnd (i : Fin 4)
  /-- TCAP_EDGE (R156): A selected edge on a TCAP pin is captured, or refused with CLOSE or OVF. -/
  | tcapEdge (i : Fin 4) (rise : Bool) (ns : BitVec 32)
  /-- TCAP_HI_READ (R156): A read of TB_TCAP_HI latches the oldest captured entry. -/
  | tcapHiRead (i : Fin 4)
  /-- TCAP_LO_READ (R156): A read of TB_TCAP_LO returns NS and removes the entry. -/
  | tcapLoRead (i : Fin 4)
  /-- INCR_LO_READ (R131): A read of TB_INCR_LO latches TB_INCR_HI. -/
  | incrLoRead
  /-- NOW_NS_READ (R133): A read of TB_NOW_NS latches both CN registers at the same tick. -/
  | nowNsRead
  /-- RETURN_LOSS (R159): An outer port carries no return CSF and no delay exchange for 2 cycles, so the node quarantines it and sets RETLOSS. -/
  | returnLoss (p : Fin 4)
  /-- MOVE_QUERY (R163): A write of DU_MOVEQ selects a source lane and its read fields show the target. -/
  | moveQuery (value : BitVec 32)
  /-- PAIR_FORM_TIMEOUT (R172): The pair is not formed 16 cycles after the member gets a number, so the member acts as active. -/
  | pairFormTimeout
  /-- NEIGHBOUR_SIGNAL_SEND (R175): A node sends its pair record and a relay record in the inter-frame gap after the last static slot. -/
  | neighbourSignalSend (p : Fin 5)
  /-- NEIGHBOUR_SIGNAL_RECEIVED (R176): A neighbour signal is received and its records are checked and kept for relay. -/
  | neighbourSignalReceived (p : Fin 4) (signal : List Byte)
  /-- PAIR_RECORD_RECEIVED (R178): A pair record arrives on the pair port and counts as the partner's heartbeat. -/
  | pairRecordReceived (record : List Byte)
  /-- GRANT_RECEIVED (R180): A standby receives a GRANT naming it and takes the token, or flags a conflict. -/
  | grantReceived
  /-- NO_ARBITER_TAKEOVER (R181): Without an arbiter, the active member's heartbeat has been missing for 16 cycles, so the standby takes the token. -/
  | noArbiterTakeover
  /-- CHECKPOINT_SEND (R182): The active member sends the checkpoint of the previous cycle over the pair port. -/
  | checkpointSend
  /-- CHECKPOINT_RECEIVED (R183): The standby writes the checkpoint regions and updates SYNC. -/
  | checkpointReceived (checkpoint : List Byte)
  /-- REVDLY_EXPIRY (R186): REVDLY seconds pass with SYNC held, so a preferred fit standby writes a REQUEST. -/
  | revdlyExpiry
  /-- HANDBACK_REQUEST (R186): A write of DU_PAIRCTL.REQUEST makes the standby write a hand-back REQUEST. -/
  | handbackRequest
  /-- HANDBACK_REQUEST_REPEAT (R186): 64 cycles pass without a HANDOVER or DECLINE, so the standby repeats the REQUEST. -/
  | handbackRequestRepeat
  /-- ARB_REQUEST_RECEIVED (R186): The arbiter reads a REQUEST and writes HANDOVER with s, or DECLINE. -/
  | arbRequestReceived
  /-- DECLINE_RECEIVED (R186): The requesting member reads DECLINE and stops repeating its request. -/
  | declineReceived
  /-- HANDOVER_RECEIVED (R187): The returning member reads HANDOVER, enters RUN and prepares the shadow run of cycle s. -/
  | handoverReceived
  /-- PAIR_RETRY (R188): A write of DU_PAIRCTL.RETRY clears REVFAIL and the disagreement count. -/
  | pairRetry
  /-- LINE_PATH_BIST (R189): A standby runs the line-path BIST on a line die once per 8,192 cycles. -/
  | linePathBist (c : Fin 2) (failed : Bool)
  /-- DRAM_SCRUB (R189): The node scrubs 64 KiB of DRAM per cycle. -/
  | dramScrub (ce0 ce1 : BitVec 8) (uncorrectable : Bool)
  /-- STANDBY_MILNAK_SELFTEST (R189): A standby runs the self-test on one C-engine per 1,024 cycles. -/
  | standbyMilnakSelftest
  /-- CYCLE_PROGRAM_START (R209): A cycle program starts at 400 + PHASE ns, or when the engine frees. -/
  | cycleProgramStart (k : Fin 512)
  /-- EVENT_PROGRAM_START (R217): A free engine starts the pending event program that fits before its next cycle program. -/
  | eventProgramStart (e : Fin 32)
  /-- OVERRUN (R211): A run uses BOUND clocks without reaching END or WAITC and traps with OVERRUN. -/
  | mkOverrun (e : Fin 32)
  /-- PROGRAM_RESTART (R221): A write of MK_PROGCMD.RESTART clears FAULT and the context, and restarts the program at the next boundary. -/
  | programRestart (k : Fin 512)
  /-- EVENT_POST (R215): A write of MK_EVTPOST.GO fires a software event with MK_EVTDATA. -/
  | eventPost (num : Fin 256)
  /-- SELFTEST_REQUEST (R227): A write of MK_STCTL.GO runs the self-test on an idle engine, or refuses it. -/
  | selftestRequest (e : Fin 32)
  /-- ILLEGAL_INSTRUCTION (R197): An undefined or malformed encoding traps with ILLEGAL. -/
  | mkIllegal (i : Issue) (word : BitVec 32)
  /-- ADD (R198): rd = rs + rt, wrapping. -/
  | mkAdd (i : Issue) (rd rs rt : GReg)
  /-- SUB (R198): rd = rs − rt, wrapping. -/
  | mkSub (i : Issue) (rd rs rt : GReg)
  /-- AND (R198): Bitwise AND. -/
  | mkAnd (i : Issue) (rd rs rt : GReg)
  /-- OR (R198): Bitwise OR. -/
  | mkOr (i : Issue) (rd rs rt : GReg)
  /-- XOR (R198): Bitwise XOR. -/
  | mkXor (i : Issue) (rd rs rt : GReg)
  /-- SLL (R198): Shift left by rt. -/
  | mkSll (i : Issue) (rd rs rt : GReg)
  /-- SRL (R198): Logical shift right by rt. -/
  | mkSrl (i : Issue) (rd rs rt : GReg)
  /-- SRA (R198): Arithmetic shift right by rt. -/
  | mkSra (i : Issue) (rd rs rt : GReg)
  /-- SLT (R198): Signed set-less-than. -/
  | mkSlt (i : Issue) (rd rs rt : GReg)
  /-- SLTU (R198): Unsigned set-less-than. -/
  | mkSltu (i : Issue) (rd rs rt : GReg)
  /-- MUL (R198): Low 32 bits of the product. -/
  | mkMul (i : Issue) (rd rs rt : GReg)
  /-- MULH (R198): High 32 bits of the signed product. -/
  | mkMulh (i : Issue) (rd rs rt : GReg)
  /-- MULHU (R198): High 32 bits of the unsigned product. -/
  | mkMulhu (i : Issue) (rd rs rt : GReg)
  /-- ADDS (R198): Signed saturating add. -/
  | mkAdds (i : Issue) (rd rs rt : GReg)
  /-- SUBS (R198): Signed saturating subtract. -/
  | mkSubs (i : Issue) (rd rs rt : GReg)
  /-- MIN (R198): Signed minimum. -/
  | mkMin (i : Issue) (rd rs rt : GReg)
  /-- MAX (R198): Signed maximum. -/
  | mkMax (i : Issue) (rd rs rt : GReg)
  /-- CLZ (R198): Count the leading zeros of rs. -/
  | mkClz (i : Issue) (rd rs : GReg)
  /-- DIVU (R198): Unsigned quotient; division by 0 gives 0 and sets dz. -/
  | mkDivu (i : Issue) (rd rs rt : GReg)
  /-- REMU (R198): Unsigned remainder; division by 0 gives 0 and sets dz. -/
  | mkRemu (i : Issue) (rd rs rt : GReg)
  /-- SLLI (R198): Shift left by an immediate. -/
  | mkSlli (i : Issue) (rd rs : GReg) (sh : Fin 32)
  /-- SRLI (R198): Logical shift right by an immediate. -/
  | mkSrli (i : Issue) (rd rs : GReg) (sh : Fin 32)
  /-- SRAI (R198): Arithmetic shift right by an immediate. -/
  | mkSrai (i : Issue) (rd rs : GReg) (sh : Fin 32)
  /-- MULQ (R198): Saturating Q8.24 product. -/
  | mkMulq (i : Issue) (rd rs rt : GReg)
  /-- ADDI (R198): Add a sign-extended immediate. -/
  | mkAddi (i : Issue) (rd rs : GReg) (imm : BitVec 16)
  /-- ANDI (R198): AND with a zero-extended immediate. -/
  | mkAndi (i : Issue) (rd rs : GReg) (imm : BitVec 16)
  /-- ORI (R198): OR with a zero-extended immediate. -/
  | mkOri (i : Issue) (rd rs : GReg) (imm : BitVec 16)
  /-- XORI (R198): XOR with a zero-extended immediate. -/
  | mkXori (i : Issue) (rd rs : GReg) (imm : BitVec 16)
  /-- SLTI (R198): Set-less-than a signed immediate. -/
  | mkSlti (i : Issue) (rd rs : GReg) (imm : BitVec 16)
  /-- SLTIU (R198): Set-less-than a zero-extended immediate, unsigned. -/
  | mkSltiu (i : Issue) (rd rs : GReg) (imm : BitVec 16)
  /-- LUI (R198): rd = imm16 << 16. -/
  | mkLui (i : Issue) (rd : GReg) (imm : BitVec 16)
  /-- LW (R199): Load a word, checked against grants and alignment. -/
  | mkLw (i : Issue) (rd rs : GReg) (off : BitVec 16)
  /-- LH (R199): Load a sign-extended halfword. -/
  | mkLh (i : Issue) (rd rs : GReg) (off : BitVec 16)
  /-- LHU (R199): Load a zero-extended halfword. -/
  | mkLhu (i : Issue) (rd rs : GReg) (off : BitVec 16)
  /-- LB (R198): Load a sign-extended byte. -/
  | mkLb (i : Issue) (rd rs : GReg) (off : BitVec 16)
  /-- LBU (R198): Load a zero-extended byte. -/
  | mkLbu (i : Issue) (rd rs : GReg) (off : BitVec 16)
  /-- SW (R195): Store a word; a store to the register window is buffered. -/
  | mkSw (i : Issue) (rt rs : GReg) (off : BitVec 16)
  /-- SH (R199): Store a halfword. -/
  | mkSh (i : Issue) (rt rs : GReg) (off : BitVec 16)
  /-- SB (R198): Store a byte. -/
  | mkSb (i : Issue) (rt rs : GReg) (off : BitVec 16)
  /-- BEQ (R198): Forward branch if rs equals rt. -/
  | mkBeq (i : Issue) (rs rt : GReg) (off : BitVec 16)
  /-- BNE (R198): Forward branch if rs is not equal to rt. -/
  | mkBne (i : Issue) (rs rt : GReg) (off : BitVec 16)
  /-- BLT (R198): Forward branch if rs < rt, signed. -/
  | mkBlt (i : Issue) (rs rt : GReg) (off : BitVec 16)
  /-- BGE (R198): Forward branch if rs ≥ rt, signed. -/
  | mkBge (i : Issue) (rs rt : GReg) (off : BitVec 16)
  /-- BLTU (R198): Forward branch if rs < rt, unsigned. -/
  | mkBltu (i : Issue) (rs rt : GReg) (off : BitVec 16)
  /-- BGEU (R198): Forward branch if rs ≥ rt, unsigned. -/
  | mkBgeu (i : Issue) (rs rt : GReg) (off : BitVec 16)
  /-- JAL (R198): Link and jump by an immediate. -/
  | mkJal (i : Issue) (rd : GReg) (imm : BitVec 16)
  /-- JALR (R198): Link and jump to rs. -/
  | mkJalr (i : Issue) (rd rs : GReg)
  /-- LOOP (R200): Run the body rc times, trapping when rc exceeds the bound or the nesting exceeds 4. -/
  | mkLoop (i : Issue) (rc : GReg) (bound len : Nat)
  /-- QPUSH (R201): Copy a cell to the tail of a queue, or drop it. -/
  | mkQpush (i : Issue) (rd rs rt : GReg)
  /-- QPOP (R201): Copy and remove the head cell of a queue, or report it empty. -/
  | mkQpop (i : Issue) (rd rs rt : GReg)
  /-- QLEN (R201): Return the cells held in a queue. -/
  | mkQlen (i : Issue) (rd rs : GReg)
  /-- WAITC (R222): End the run and save the context; the next run resumes after this instruction. -/
  | mkWaitc (i : Issue)
  /-- END (R222): End the run and save the context; the next run starts at ENTRY. -/
  | mkEnd (i : Issue)
  /-- RDT (R201): Read NS now, or the run's CN. -/
  | mkRdt (i : Issue) (rd : GReg) (imm : BitVec 11)
  /-- RAISE (R201): Post a software event with data. -/
  | mkRaise (i : Issue) (rs : GReg) (imm : BitVec 11)
  /-- LOG (R201): Record an event of class LCLASS with code 0x8000 + imm. -/
  | mkLog (i : Issue) (rs : GReg) (imm : BitVec 11)
  /-- PROPOSE (R202): Submit a proposal from a descriptor, or refuse it with a reason. -/
  | mkPropose (i : Issue) (rd rs : GReg)
  /-- PRSTAT (R202): Return the state of a program proposal. -/
  | mkPrstat (i : Issue) (rd rs : GReg)
  /-- CSRR (R201): Read a CSR. -/
  | mkCsrr (i : Issue) (rd : GReg) (imm : BitVec 11)
  /-- CSRW (R201): Write a CSR; a read-only CSR traps with ILLEGAL. -/
  | mkCsrw (i : Issue) (rs : GReg) (imm : BitVec 11)
  /-- FENCE (R201): Wait until earlier DRAM stores have completed. -/
  | mkFence (i : Issue)
  /-- BRK (R201): Trap with BREAK. -/
  | mkBrk (i : Issue)
  /-- VADD (R203): Masked wrapping vector add. -/
  | mkVadd (i : Issue) (vd va vb : VReg)
  /-- VSUB (R203): Masked wrapping vector subtract. -/
  | mkVsub (i : Issue) (vd va vb : VReg)
  /-- VADDS (R203): Masked saturating vector add. -/
  | mkVadds (i : Issue) (vd va vb : VReg)
  /-- VSUBS (R203): Masked saturating vector subtract. -/
  | mkVsubs (i : Issue) (vd va vb : VReg)
  /-- VMULQ (R203): Masked saturating Q8.24 vector product. -/
  | mkVmulq (i : Issue) (vd va vb : VReg)
  /-- VMIN (R203): Masked signed vector minimum. -/
  | mkVmin (i : Issue) (vd va vb : VReg)
  /-- VMAX (R203): Masked signed vector maximum. -/
  | mkVmax (i : Issue) (vd va vb : VReg)
  /-- VABS (R203): Masked saturating absolute value. -/
  | mkVabs (i : Issue) (vd va : VReg)
  /-- VAND (R203): Masked bitwise AND. -/
  | mkVand (i : Issue) (vd va vb : VReg)
  /-- VOR (R203): Masked bitwise OR. -/
  | mkVor (i : Issue) (vd va vb : VReg)
  /-- VXOR (R203): Masked bitwise XOR. -/
  | mkVxor (i : Issue) (vd va vb : VReg)
  /-- VSLLI (R203): Masked shift left by imm5. -/
  | mkVslli (i : Issue) (vd va : VReg) (imm : Fin 32)
  /-- VSRAI (R203): Masked arithmetic shift right by imm5. -/
  | mkVsrai (i : Issue) (vd va : VReg) (imm : Fin 32)
  /-- VBCAST (R203): Masked broadcast of rs. -/
  | mkVbcast (i : Issue) (vd : VReg) (rs : GReg)
  /-- VEXT (R203): Extract one vector lane into rd. -/
  | mkVext (i : Issue) (rd : GReg) (va : VReg) (imm : Fin 32)
  /-- VINS (R203): Insert rs into one vector lane. -/
  | mkVins (i : Issue) (vd : VReg) (rs : GReg) (imm : Fin 32)
  /-- VMAC (R203): Masked multiply-accumulate into a0. -/
  | mkVmac (i : Issue) (va vb : VReg)
  /-- VMAC2 (R203): Two masked multiply-accumulates into a0 and a1. -/
  | mkVmac2 (i : Issue) (va vb : VReg)
  /-- VCLRA (R203): Clear the accumulators. -/
  | mkVclra (i : Issue)
  /-- VRDA (R203): Read the rounded, shifted, saturated accumulator sum. -/
  | mkVrda (i : Issue) (vd : VReg) (imm : Fin 32)
  /-- VSUM (R203): Saturating sum of the masked lanes. -/
  | mkVsum (i : Issue) (rd : GReg) (va : VReg)
  /-- VLD (R203): Masked 32-byte vector load. -/
  | mkVld (i : Issue) (vd : VReg) (rs : GReg) (off : BitVec 16)
  /-- VST (R203): Masked 32-byte vector store. -/
  | mkVst (i : Issue) (vs : VReg) (rs : GReg) (off : BitVec 16)
  /-- LRD (R205): Read the lane block of production cycle c − D + 2 with its state and cycle. -/
  | mkLrd (i : Issue) (vd : VReg) (rs : GReg)
  /-- LOUT (R206): Contribute to the node's own block of a lane for production cycle c. -/
  | mkLout (i : Issue) (vs : VReg) (rs : GReg)
  /-- MIXER_PASS (R230): At 112,500 ns the AX mixer pass mixes zones and runs cancellers, players, lane transmissions and ambient measurement. -/
  | mixerPass
  /-- TDM_FRAME_START (R254): A TDM frame starts at its phase, sending one sample of each output slot and capturing the inputs. -/
  | tdmFrameStart (port : Fin 8) (frame : Fin 6) (inputs : List (BitVec 32))
  /-- CONVERTER_FRAME_START (R256): An analogue input or output frame starts at its phase. -/
  | converterFrameStart (outputs : Bool) (frame : Fin 6) (inputs : List (BitVec 32))
  /-- LIBRARY_SCAN (R251): A write of AU_LIBCMD.SCAN starts a scan of the library directory. -/
  | libraryScan
  /-- LIBRARY_SCAN_COMPLETE (R251): The scan ends, and the valid entries wait for the next boundary. -/
  | libraryScanComplete
  /-- PLAYER_GO (R252): A write of AU_PLAYCTL.GO requests a manual start. -/
  | playerGo (j : Fin 16)
  /-- PLAYER_STOP (R253): A write of AU_PLAYCTL.STOP stops the player after one faded block. -/
  | playerStop (j : Fin 16)
  /-- QSEL_READ (R260): QM_QSEL READ copies a descriptor into QM_QDATA. -/
  | qselRead (q : Fin 1048576)
  /-- QSEL_WRITE (R260): QM_QSEL WRITE sets a descriptor from QM_QDATA, subject to the refusals. -/
  | qselWrite (q : Fin 1048576)
  /-- QSEL_FLUSH (R270): QM_QSEL FLUSH sets HEAD = TAIL, and is refused for reserved queues. -/
  | qselFlush (q : Fin 1048576)
  /-- QSEL_PUSH (R265): QM_QSEL PUSH adds the cell in QM_CELL, or drops it. -/
  | qselPush (q : Fin 1048576)
  /-- QSEL_POP (R262): QM_QSEL POP moves the head into QM_CELL and charges the weir. -/
  | qselPop (q : Fin 1048576)
  /-- QSEL_LEN (R268): QM_QSEL LEN writes the fill into QM_QLEN. -/
  | qselLen (q : Fin 1048576)
  /-- QSEL_ADVANCE (R261): QM_QSEL ADVANCE removes the head entry without copying it. -/
  | qselAdvance (q : Fin 1048576)
  /-- QSEL_RESERVED_OP (R260): QM_QSEL OP 0 is refused with RESULT 6 and REFUSED. -/
  | qselReservedOp (q : Fin 1048576)
  /-- WSEL_READ (R267): QM_WSEL READ copies RATE, BURST and TOK. -/
  | wselRead (w : Fin 65536)
  /-- WSEL_WRITE (R269): QM_WSEL WRITE sets RATE and BURST, applied at a boundary. -/
  | wselWrite (w : Fin 65536)
  /-- WSEL_FORGIVE (R269): QM_WSEL FORGIVE sets TOK to max(TOK, 0) at the next boundary. -/
  | wselForgive (w : Fin 65536)
  /-- WSEL_RESERVED_OP (R269): QM_WSEL OP 0 does nothing and sets REFUSED. -/
  | wselReservedOp (w : Fin 65536)
  /-- DESCRIPTOR_TABLE_WRITE (R260): A write into the descriptor table through DRAM is ignored, counted and reported. -/
  | descriptorTableWrite (addr : BitVec 32)
  /-- SAFETY_RECORD_PERSIST (R275): A class S record is written into the caddy safety area and becomes visible. -/
  | safetyRecordPersist
  /-- SAFETY_RECORD_DELIVER (R275): A queue path has room and takes the next class S record from its delivery pointer. -/
  | safetyRecordDeliver (line : Bool)
  /-- HISTORY_BATCH_WRITE (R276): Records of classes D, N, A and G are written to the caddy history ring in a batch. -/
  | historyBatchWrite
  /-- SUMMARY_RECORD_EMIT (R277): A path has room again and emits its summary records before any newer record. -/
  | summaryRecordEmit (k : Fin 8)
  /-- MS_LOG_RECEIVED (R278): The collector pushes the line log records it receives into queue 21. -/
  | msLogReceived (c : Fin 2) (frame : List Byte)
  /-- STAGE (R288): CF_CMD STAGE copies a blend from DRAM into the previous slot and verifies it. -/
  | blendStage (role : Fin 5) (bad : Bool)
  /-- STAGE_COMPLETE (R288): The staging copy and checks end, and the slot becomes STAGED or INVALID. -/
  | stageComplete (bad differs : Bool)
  /-- COMMIT (R289): CF_CMD COMMIT makes the staged blend current, at the next boot or live. -/
  | blendCommit (role : Fin 5) (live bad : Bool)
  /-- ROLLBACK (R291): CF_CMD ROLLBACK swaps back to the previous valid blend, or cancels a pending activation. -/
  | blendRollback (role : Fin 5) (live bad : Bool)
  /-- ABORT (R288): CF_CMD ABORT empties a STAGED slot. -/
  | blendAbort (role : Fin 5) (bad : Bool)
  /-- VERIFY (R286): CF_CMD VERIFY checks both slots without change. -/
  | blendVerify (role : Fin 5)
  /-- CF_RESERVED_OP (R287): A reserved CF_CMD OP gives RESULT 4. -/
  | cfReservedOp (role : Fin 5) (op : Fin 8)
  /-- SAFETY_BLOCK_SETPEND (R300): A write of CF_SPCMD.SETPEND in a SAFETY session makes a block pending and shows its check value. -/
  | safetyBlockSetpend (role : Fin 5)
  /-- SAFETY_BLOCK_EXPIRY (R301): 600 s pass without confirmation, so the pending block is discarded. -/
  | safetyBlockExpiry
  /-- PARTIAL_WRITE (R303): A BAR0 write with partial byte enables has no effect and is counted. -/
  | partialWrite (addr : BitVec 32) (enables : BitVec 4)
  /-- DRAM_APERTURE_ACCESS (R304): A host access through the aperture reaches DRAM at HB_DWIN.BASE. -/
  | dramApertureAccess (iface : Fin 2) (off : BitVec 28) (len : Fin 4097) (data : Option (List Byte))
  /-- FUNCTION_LEVEL_RESET (R305): A PCI Express function level reset flushes rings 0 to 5, closes sessions and resets the host registers. -/
  | functionLevelReset
  /-- PERST_ASSERT (R305): PCIE_PERST_N is asserted, with the function-level-reset effects, and the link is held down. -/
  | perstAssert
  /-- QSPI_READ (R308): A QSPI READ transaction returns status and words, or holds a late word. -/
  | qspiRead (addr : BitVec 32) (words : Fin 257) (late : Bool)
  /-- QSPI_WRITE (R307): A QSPI WRITE transaction writes words. -/
  | qspiWrite (addr : BitVec 32) (words : List (BitVec 32))
  /-- QSPI_STATUS (R306): A QSPI STATUS transaction returns the status of the last WRITE. -/
  | qspiStatus
  /-- IRQ_ACK (R318): A write to HB_IRQACK re-arms vectors. -/
  | irqAck (v : BitVec 16)
  /-- CMD_DOORBELL (R312): A write of HB_CMDDB pushes the new command frames, or stops the ring on an invalid advance. -/
  | cmdDoorbell (iface : Fin 2) (k : Fin 8) (tail : BitVec 24)
  /-- RSP_DOORBELL (R312): A write of HB_RSPDB removes the consumed response frames. -/
  | rspDoorbell (iface : Fin 2) (k : Fin 8) (head : BitVec 24)
  /-- RING_FLUSH (R313): A write of HB_RINGCTL.FLUSH empties both queues of a ring and clears ERR. -/
  | ringFlush (k : Fin 8)
  /-- COMMAND_START (R313): The command engine starts a ring's head command once the response ring has room. -/
  | commandStart (k : Fin 8)
  /-- NOP (R314): The NOP command returns its parameters. -/
  | cmdNop (k : Fin 8)
  /-- SUMMARY (R317): The SUMMARY command returns the block captured at the next boundary. -/
  | cmdSummary (k : Fin 8)
  /-- REGREAD (R314): The REGREAD command reads consecutive words, local or remote. -/
  | cmdRegread (k : Fin 8)
  /-- REGWRITE (R315): The REGWRITE command writes consecutive words within a session. -/
  | cmdRegwrite (k : Fin 8)
  /-- REGMODIFY (R314): The REGMODIFY command performs an atomic masked read-modify-write. -/
  | cmdRegmodify (k : Fin 8)
  /-- IMAGEREAD (R314): The IMAGEREAD command reads the held image view. -/
  | cmdImageread (k : Fin 8)
  /-- LOGREAD (R314): The LOGREAD command reads records from the safety area or the history ring. -/
  | cmdLogread (k : Fin 8)
  /-- PROPOSE_COMMAND (R314): The PROPOSE command submits a proposal and answers when it is committed, rejected or timed out. -/
  | proposeCommand (k : Fin 8)
  /-- PROTECTED_WRITE (R315): A direct write to a protected or locked register has no effect and is counted. -/
  | protectedWrite (iface : Fin 2) (addr : BitVec 32)
  /-- CONSOLE_LOGIN (R336): The console login prompts for a password and opens a session, or refuses it. -/
  | consoleLogin (role : Fin 5) (password : List Byte)
  /-- CONSOLE_LOGOUT (R310): The console logout closes the console session. -/
  | consoleLogout
  /-- CONSOLE_SUMMARY (R310): The console summary prints the SUMMARY block. -/
  | consoleSummary
  /-- CONSOLE_READ (R310): The console read runs a REGREAD. -/
  | consoleRead (addr : BitVec 32) (words : Fin 65)
  /-- CONSOLE_WRITE (R310): The console write runs a REGWRITE. -/
  | consoleWrite (addr value : BitVec 32)
  /-- CONSOLE_LOG (R310): The console log runs a LOGREAD. -/
  | consoleLog (area : Fin 2) (first num : BitVec 16)
  /-- CONSOLE_CONFIRM (R433): The console confirm compares an entry with a pending safety block check value, then with the reset code. -/
  | consoleConfirm (entry : BitVec 32) (bad : Bool)
  /-- CONSOLE_RETIRE (R310): The console retire runs RETIRE. -/
  | consoleRetire
  /-- REMOTE_WINDOW_READ (R321): A host read of a remote window returns fetched data, or 0xFFFF_FFFF and starts a fetch. -/
  | remoteWindowRead (iface : Fin 2) (addr : BitVec 32)
  /-- REMOTE_WINDOW_WRITE (R323): A host write of a remote window is posted to the write buffer, or dropped. -/
  | remoteWindowWrite (iface : Fin 2) (addr value : BitVec 32)
  /-- BRIDGE_REQUEST_SEND (R320): The bridge sends its requests as records in an MS_MESSAGE mini-slot. -/
  | bridgeRequestSend (slotA slotB : Fin 118)
  /-- BRIDGE_READ_RECEIVED (R324): A target receives a READ record and performs it, refuses it, or answers BUSY. -/
  | bridgeReadReceived (c : Fin 2) (frame : List Byte)
  /-- BRIDGE_WRITE_RECEIVED (R324): A target receives a WRITE record and performs it, refuses it, or answers BUSY. -/
  | bridgeWriteReceived (c : Fin 2) (frame : List Byte)
  /-- BRIDGE_POLL_RECEIVED (R326): A target receives a POLL record and answers with HB_IRQSTAT and the word. -/
  | bridgePollReceived (c : Fin 2) (frame : List Byte)
  /-- BRIDGE_RESPONSE_SEND (R324): The target sends its response in the first free mini-slot. -/
  | bridgeResponseSend (slotA slotB : Fin 118)
  /-- BRIDGE_READ_RESPONSE (R322): A READ response fills the fetch entry with data or an error. -/
  | bridgeReadResponse (c : Fin 2) (frame : List Byte)
  /-- BRIDGE_WRITE_RESPONSE (R323): A WRITE response frees the write-buffer entry, or sets RWERR. -/
  | bridgeWriteResponse (c : Fin 2) (frame : List Byte)
  /-- BRIDGE_POLL_RESPONSE (R326): A POLL response updates the mirrors and resets HB_RPAGE. -/
  | bridgePollResponse (c : Fin 2) (frame : List Byte)
  /-- FETCH_TIMEOUT (R322): A fetch has no response after TMO cycles and ends in timeout. -/
  | fetchTimeout
  /-- FETCH_ENTRY_EXPIRY (R322): A fetch entry is freed 64 cycles after its response or timeout. -/
  | fetchEntryExpiry
  /-- BUSY_RETRY (R325): After 2^b cycles the requester repeats a request that was answered BUSY. -/
  | busyRetry
  /-- POLL_SEND (R326): The bridge sends POLL records for the enabled HB_RPCFG entries. -/
  | pollSend (slotA slotB : Fin 118)
  /-- POLL_STALE (R326): HB_RPAGE reaches TMO, so RPSTALE is set. -/
  | pollStale (k : Fin 6)
  /-- OPEN (R331): The OPEN command creates a pending session entry with a challenge, or refuses it. -/
  | sessionOpen (k : Fin 8)
  /-- PROVE (R332): The PROVE command checks the proof and opens the session, or counts a failure. -/
  | sessionProve (k : Fin 8)
  /-- CLOSE (R335): The CLOSE command closes its session. -/
  | sessionClose (k : Fin 8)
  /-- KEYSET (R328): The KEYSET command unwraps and installs a key, or erases it. -/
  | cmdKeyset (k : Fin 8)
  /-- RETIRE (R341): The RETIRE command returns a receipt, closes sessions and erases the key area. -/
  | cmdRetire (k : Fin 8)
  /-- SESSION_PENDING_EXPIRY (R331): A pending session entry expires 2 s after OPEN. -/
  | sessionPendingExpiry
  /-- SESSION_IDLE_CLOSE (R335): A session idle for IDLE or CONIDLE seconds is closed. -/
  | sessionIdleClose
  /-- LOCKOUT_EXPIRY (R337): The refusal period of an interface ends. -/
  | lockoutExpiry (i : Fin 3) (secs : BitVec 16)
  /-- LOCKOUT_LEVEL_RESET (R337): 24 h without a failure return LEVEL to 0. -/
  | lockoutLevelReset (i : Fin 3) (secs : BitVec 32)
  /-- BRANCH_LINK_TRAINED (R349): A branch link trains and the node starts sending SYNC with HELD. -/
  | branchLinkTrained (b : Fin 16)
  /-- SYNC_SEND (R345): The node sends SYNC on each branch at boundary + PHASE. -/
  | syncSend (b : Fin 16) (egress : BitVec 32)
  /-- STATUS_RECEIVED (R348): A STATUS frame is checked and LOOPDLY is measured. -/
  | statusReceived (b : Fin 16) (frame : List Byte) (ingress : BitVec 32)
  /-- STATUS_LOST (R349): No good STATUS arrives in LOSTN cycles, so an ACTIVE branch returns to SYNC. -/
  | statusLost (b : Fin 16)
  /-- BRANCH_LINK_LOSS (R349): A branch link is lost, so the branch keeps its EUID and returns to TRAIN. -/
  | branchLinkLoss (b : Fin 16)
  /-- STAR_VIOLATION (R356): An uplink reception violates Table ST-7 and is dropped and counted. -/
  | starViolation (b : Fin 16)
  /-- DISCONNECT_EXPIRY (R349): DISCTIME seconds end DISC and the branch retrains. -/
  | disconnectExpiry (b : Fin 16)
  /-- BRANCH_ADMIT (R350): A write of ST_BRCTL.ADMIT moves a HELD branch to ACTIVE. -/
  | branchAdmit (b : Fin 16)
  /-- BRANCH_RECONNECT (R349): A write of ST_BRCTL.RECONNECT ends DISC. -/
  | branchReconnect (b : Fin 16)
  /-- DOWNLINK_SLOT_SEND (R352): The node sends a downlink slot frame with lane blocks or message fragments. -/
  | downlinkSlotSend (b : Fin 16) (slot : Fin 8)
  /-- UPLINK_AUDIO_RECEIVED (R354): An uplink AUDIO frame contributes its blocks to own lanes. -/
  | uplinkAudioReceived (b : Fin 16) (frame : List Byte)
  /-- UPLINK_MESSAGE_RECEIVED (R355): Uplink fragments are joined and pushed into the uplink queue. -/
  | uplinkMessageReceived (b : Fin 16) (frame : List Byte) (ingress : BitVec 32)
  /-- EM_FRAME_RECEIVED (R361): An Ethernet frame is filtered, stamped and pushed into its receive queue. -/
  | emFrameReceived (m : Fin 6) (frame : List Byte) (codeErr : Bool) (reasm : Bool) (preemptable : Bool) (ingress : BitVec 32)
  /-- EM_FRAME_TRANSMIT (R364): A MAC sends, or removes, the head frame of a transmit queue. -/
  | emFrameTransmit (m : Fin 6) (egress : BitVec 32) (fragments : BitVec 8)
  /-- EM_TX_DOORBELL (R363): A write of EM_TXDB pushes transmit frames, or stops the queue. -/
  | emTxDoorbell (m : Fin 6) (k : Fin 2) (tail : BitVec 24)
  /-- EM_RX_DOORBELL (R363): A write of EM_RXDB frees receive entries. -/
  | emRxDoorbell (m : Fin 6) (k : Fin 4) (head : BitVec 24)
  /-- EM_QUEUE_FLUSH (R363): A write of EM_QCTL flushes a queue and clears QERR. -/
  | emQueueFlush (m : Fin 6) (flush : BitVec 6)
  /-- EM_LINK_UP (R366): A MAC link comes up and starts preemption verification. -/
  | emLinkUp (m : Fin 6) (speed : Fin 8)
  /-- EM_LINK_DOWN (R364): A MAC link goes down, so frames at the head are removed. -/
  | emLinkDown (m : Fin 6)
  /-- VERIFY_FRAME_SEND (R366): The MAC sends a verify frame every VERIFYMS ms. -/
  | verifyFrameSend (m : Fin 6)
  /-- VERIFY_RESPONSE_RECEIVED (R366): A response frame arrives, so verification succeeds. -/
  | verifyResponseReceived (m : Fin 6)
  /-- VERIFY_FAIL (R366): The third interval passes without response, so VERIFYFAIL is set. -/
  | verifyFail (m : Fin 6)
  /-- VERIFY_FRAME_RECEIVED (R366): The MAC answers the partner's verify frame. -/
  | verifyFrameReceived (m : Fin 6)
  /-- PAUSE_RECEIVED (R367): A pause frame stops the transmitter for pause_time. -/
  | pauseReceived (m : Fin 6) (quanta : BitVec 16)
  /-- PAUSE_EXPIRY (R367): The pause time ends and transmission resumes. -/
  | pauseExpiry (m : Fin 6)
  /-- CONTROL_FRAME_RECEIVED (R368): A non-pause control frame is consumed and counted. -/
  | controlFrameReceived (m : Fin 6)
  /-- WAKE_PATTERN_MATCH (R372): A frame in DOZE matches a wake pattern, latches EM_WAKESTAT and wakes the node. -/
  | wakePatternMatch (frames : List (Fin 6 × List Byte))
  /-- CAN_FRAME_RECEIVED (R380): A CAN frame is stored into an object and/or CB_RXQ. -/
  | canFrameReceived (c : Fin 4) (f : CanFrame) (how : CanRx) (ts : BitVec 32)
  /-- PROTOCOL_EXCEPTION (R374): A protocol exception stops reception until 11 recessive bits. -/
  | protocolException (c : Fin 4)
  /-- CAN_FRAME_TRANSMIT (R385): The controller starts sending the head frame of its transmit queues. -/
  | canFrameTransmit (c : Fin 4) (ts : BitVec 32) (delay : BitVec 8)
  /-- CAN_TRANSMIT_COMPLETE (R386): A transmission ends, and a completion record is written when required. -/
  | canTransmitComplete (c : Fin 4) (how : CanTx)
  /-- BUSOFF_RECOVERY_COMPLETE (R378): 128 occurrences of 11 recessive bits end bus-off. -/
  | busoffRecoveryComplete (c : Fin 4)
  /-- CAN_RECOVER (R378): A write of CB_CTL.RECOVER starts bus-off recovery. -/
  | canRecover (c : Fin 4)
  /-- CAN_ABORT (R387): A write of CB_CTL.ABORT removes the frame after its current attempt. -/
  | canAbort (c : Fin 4)
  /-- CAN_SLEEP (R390): A write of CB_CTL.SLEEP puts the controller into SLEEP. -/
  | canSleep (c : Fin 4)
  /-- CAN_WAKE (R390): A write of CB_CTL.WAKE takes the controller out of SLEEP. -/
  | canWake (c : Fin 4)
  /-- CAN_DOMINANT_WAKE (R390): A long enough dominant level ends SLEEP, or wakes a parked node. -/
  | canDominantWake (c : Fin 4) (us : BitVec 8)
  /-- CAN_WAKE_FRAME (R391): A frame in DOZE matches a wake filter, latches CB_WAKESTAT and wakes the node. -/
  | canWakeFrame (frames : List (Fin 4 × CanFrame))
  /-- OBJECT_LOCK (R382): A read of word 0 of an object locks it. -/
  | objectLock (c : Fin 4) (o : Fin 2048)
  /-- OBJECT_RELEASE (R382): A read of word 19 of the locked object releases it and clears VALID and LOST. -/
  | objectRelease (c : Fin 4) (o : Fin 2048)
  /-- OBJECT_LOCK_TIMEOUT (R382): A lock not released within 64 µs ends with LOCKTMO. -/
  | objectLockTimeout (c : Fin 4)
  /-- CAN_TX_DOORBELL (R385): A write of CB_TXDB pushes transmit frames. -/
  | canTxDoorbell (c : Fin 4) (k : Fin 2) (tail : BitVec 24)
  /-- CAN_RX_DOORBELL (R385): A write of CB_RXDB frees receive entries. -/
  | canRxDoorbell (c : Fin 4) (head : BitVec 24)
  /-- TT_REFERENCE_SEND (R392): A potential master sends the reference message at boundary + TTPHASE. -/
  | ttReferenceSend (c : Fin 4) (ts : BitVec 32)
  /-- TT_REFERENCE_RECEIVED (R392): A reference message is received, which updates CURPRIO and clears TTSTOP. -/
  | ttReferenceReceived (c : Fin 4) (prio : Fin 8) (k : Byte) (ts : BitVec 32)
  /-- TT_COLUMN_OPEN (R393): A column opens and its schedule type governs sending. -/
  | ttColumnOpen (c : Fin 4) (j : Fin 64) (ts : BitVec 32) (delay : BitVec 8)
  /-- TT_REFERENCE_MISSED (R394): No reference message arrives within 5 µs, and a second miss sets TTSTOP. -/
  | ttReferenceMissed (c : Fin 4)
  /-- WAKE_EVENT (R398): An armed wake source fires in PARKED or DOZE and the node wakes. -/
  | wakeEvent (src : Fin 10)
  /-- ISLAND_RESET (R416): The island supply rises from below 2.0 V, so the island resets and BKLOST is set. -/
  | islandReset
  /-- ISLAND_SUPPLY_LOSS (R416): Both supplies are below 2.0 V for 10 µs, so the node is OFF. -/
  | islandSupplyLoss
  /-- RESET_PIN (R400): RESET_N is held low for 1 µs, so the node resets and reboots. -/
  | resetPin
  /-- SOFTWARE_RESET (R421): A write of PW_CTL.RESET makes a SOFTWARE reset after the response. -/
  | softwareReset (role : Fin 5)
  /-- WATCHDOG_EXPIRY (R401): The CX heartbeat has stopped for WDTIME cycles, so PX makes a WATCHDOG reset or sets WDSTOP. -/
  | watchdogExpiry (ticks : BitVec 16)
  /-- THERMAL_RESET (R402): A die reaches 140 °C for 1 ms, so PX holds the node in reset. -/
  | thermalReset
  /-- THERMAL_RELEASE (R402): Every die is below 115 °C, so the thermal reset is released. -/
  | thermalRelease
  /-- RAIL_RESET (R464): A rail is out of range for 10 µs and causes a RAIL reset. -/
  | railReset
  /-- BOOT_START (R404): VBAT has been high enough for 10 ms, so the boot starts. -/
  | bootStart (waited bad : Bool)
  /-- TARGET_PARKED (R397): PW_CTL.TARGET = PARKED parks a node with no port in UP, or is refused. -/
  | targetParked (role : Fin 5)
  /-- TARGET_DOZE (R397): PW_CTL.TARGET = DOZE puts a node with no port in UP into DOZE, or is refused. -/
  | targetDoze (role : Fin 5)
  /-- TARGET_LINE_ONLY (R396): PW_CTL.TARGET = LINE-ONLY moves the node from RUN to LINE-ONLY. -/
  | targetLineOnly (role : Fin 5)
  /-- TARGET_RUN (R396): PW_CTL.TARGET = RUN moves the node from LINE-ONLY to RUN when a blend is loaded. -/
  | targetRun (role : Fin 5)
  /-- ROUND_WRITE (R406): A write of PW_CTL.ROUND under AUTH starts a standing round request. -/
  | roundWrite (role : Fin 5)
  /-- ROUND_CANCEL (R406): A write of PW_CTL.CANCEL withdraws the standing request. -/
  | roundCancel (role : Fin 5)
  /-- ROUND_TIMER_EXPIRY (R406): TMR minutes pass without a U condition and the node requests a round. -/
  | roundTimerExpiry
  /-- ROUND_RETRY_EXPIRY (R406): RETRY seconds after a failed round, the node repeats its request. -/
  | roundRetryExpiry
  /-- ROUND_REQUEST_RECEIVED (R407): The leader receives an MS_ROUND REQUEST and holds a standing request. -/
  | roundRequestReceived (c : Fin 2) (frame : List Byte)
  /-- CONSENT_RECEIVED (R409): A node applies its vote to a passing CONSENT token. -/
  | consentReceived (c : Fin 2) (frame : List Byte)
  /-- CONSENT_TIMEOUT (R410): The token has not returned within Lm + 1 cycles, so the round fails with RESULT 4. -/
  | consentTimeout
  /-- PARK_RECEIVED (R411): A node increments ACKS, sets PARKPEND and shows PARKCN. -/
  | parkReceived (c : Fin 2) (frame : List Byte)
  /-- PARK_RETURNED (R411): The leader reads the returned PARK and sends CANCEL on a shortfall. -/
  | parkReturned (c : Fin 2) (frame : List Byte)
  /-- ROUND_ABORT_SEND (R412): A node that acquires a U condition after PARK sends ABORT. -/
  | roundAbortSend
  /-- ROUND_ABORT_RECEIVED (R412): The leader reads ABORT in time and treats it as a shortfall. -/
  | roundAbortReceived (c : Fin 2) (frame : List Byte)
  /-- CANCEL_RECEIVED (R411): A node reads CANCEL, clears PARKPEND and sets CANCELLED. -/
  | cancelReceived (c : Fin 2) (frame : List Byte)
  /-- PARK_VETO_WAKE (R413): A node with a U condition at PARKCN originates a wake tone once no port has been in UP for 20 ms. -/
  | parkVetoWake
  /-- ALONE_EXPIRY (R415): No port has been in UP for ALONE seconds, so the node parks. -/
  | aloneExpiry
  /-- POWER_FAILURE (R417): VBAT is below VPF for 50 µs, so PX signals power failure and runs the hold-up sequence. -/
  | powerFailure
  /-- GASP_RECEIVED (R419): A node reads a good GASP, sets GASPRX and records an event. -/
  | gaspReceived (c : Fin 2) (frame : List Byte)
  /-- HOLDUP_LOW (R420): VHOLD falls below 32 V without a power failure, so HOLDOK clears and HOLDLOW is set. -/
  | holdupLow
  /-- SLOW_LO_READ (R416): A read of PW_SLOW_LO latches PW_SLOW_HI. -/
  | slowLoRead (ticks : BitVec 16)
  /-- RECENT_READ (R274): A read of QM_RECENT[0] latches all 16 recent records. -/
  | recentRead (k : Fin 128)
  /-- SAFETY_INPUT_SAMPLE (R422): Every 10 µs PX samples the inputs and evaluates filters, pairs, outputs and read-backs. -/
  | safetyInputSample (vbat : BitVec 16) (contacts : List (BitVec 16)) (r0 : BitVec 16) (r1 : BitVec 16)
  /-- TEST_PULSE (R423): A test-pulse output pulses low for 200 µs, and fed contacts are checked. -/
  | testPulse (o : Fin 2) (rest : BitVec 16)
  /-- DISCREPANCY_EXPIRY (R425): The discrepancy time expires in ONE or RETURN, so the channel locks out with DISC. -/
  | discrepancyExpiry (k : Fin 8)
  /-- DARK_TEST (R427): An energised output is switched off for up to 500 µs and checked. -/
  | darkTest (k : Fin 2) (high : Bool)
  /-- STARTUP_TEST (R430): The start-up test runs before outputs may be energised. -/
  | startupTest (contacts : BitVec 16) (high : BitVec 2) (diag : Fin 8)
  /-- VBAT_RECOVERY (R430): VBAT is back at 4.5 V for 10 ms, so UVLO ends and the start-up test begins. -/
  | vbatRecovery (vbat : BitVec 16)
  /-- SRESET_RELEASE (R432): A rising edge of SRESET_N after 0.5 s to 2.0 s low requests a clearing. -/
  | sresetRelease (low : BitVec 32) (counted : Bool)
  /-- SFRST_REQUEST (R433): A write of CF_SFRST.REQ in a SAFETY session shows a reset code. -/
  | sfrstRequest (role : Fin 5)
  /-- RESET_CODE_EXPIRY (R433): 600 s pass without the code, so the reset request is discarded. -/
  | resetCodeExpiry
  /-- SAFETY_NODE_TIMEOUT (R438): No record of a monitored node has been accepted for 160 cycles, so it times out. -/
  | safetyNodeTimeout (k : Fin 513)
  /-- PERIODIC_DIAGNOSTIC (R441): A periodic diagnostic of Table SF-6 runs, and a failure locks out. -/
  | periodicDiagnostic (test : Fin 8) (pass : Bool)
  /-- SWIN_CHANGE (R446): A SWIN_n edge changes a pin-driven channel's demand. -/
  | swinChange (k : Fin 12) (high : Bool)
  /-- LIMP_HOME_START (R448): LHOME_N falls, so masked channels follow SWIN_n and LHON is set. -/
  | limpHomeStart
  /-- LIMP_HOME_END (R448): LHOME_N has been high for 1 ms, so limp-home ends and LHOFF is set. -/
  | limpHomeEnd
  /-- CHANNEL_FAILURE (R450): Current limit for 100 µs or 175 °C turns a channel off and starts a pause or latches it. -/
  | channelFailure (k : Fin 12)
  /-- RETRY_PAUSE_EXPIRY (R450): The pause ends and the channel follows its demand again. -/
  | retryPauseExpiry (k : Fin 12)
  /-- LATCH_CLEAR (R451): A write of LS_CTL.CLR clears a latch or shed and F. -/
  | latchClear (clr : BitVec 12)
  /-- FAILURE_COUNT_RESET (R452): 2 s without a failure after a pause set F to 0. -/
  | failureCountReset (k : Fin 12)
  /-- OVERLOAD_SHED (R453): The sum of the currents exceeds 8 A for 100 ms, so PX sheds the highest channel that is on, and repeats every 10 ms. -/
  | overloadShed
  /-- VSW_UNDERVOLTAGE (R454): VSW falls below 4.5 V, so every channel turns off and VSWUV is set. -/
  | vswUndervoltage
  /-- VSW_RESTORED (R454): VSW has been at or above 4.5 V for 1 ms, so the channels follow their demand. -/
  | vswRestored
  /-- OPEN_LOAD_COMPARE (R456): The pulled-up output of an off channel is compared every 10 µs and OPEN is set or cleared. -/
  | openLoadCompare (k : Fin 12) (above : Bool)
  /-- GROUND_LOSS (R458): The part loses ground, so every channel turns off within 100 µs. -/
  | groundLoss (lost : Bool)
  /-- REVERSE_SUPPLY (R459): VSW reverses, so each channel's output stage is held on without protection. -/
  | reverseSupply (reversed : Bool)
  /-- PERST_RELEASE (R305): PCIE_PERST_N is released, so the node stops holding the PCI Express link down and the link may train again. -/
  | perstRelease (link : Option (Fin 3 × Fin 3))
  /-- HOLDUP_CHARGED (R420): VHOLD reaches 32.0 V while PX charges the hold-up capacitor, so HOLDOK becomes 1 and a later power failure takes the with-hold-up course. -/
  | holdupCharged
  deriving DecidableEq, Repr

end Sys2Proof
end

