-- ==== Sys2Proof/Decode.lean ====
section
/-! DEFINITION. Decoding of table words.  The rows of spec/opcode_table.json give a command no bits (their `fields` are
empty): commands reach the block as register accesses, frames, pin events and evaluations, not as encoded words.  So no
word spells a command. -/

namespace Sys2Proof

/-- The command that the word `w` of `nbits` bits spells: none, since no row of the table gives bits. -/
def decodeTableWord (_nbits _w : Nat) : Option Instr := none

end Sys2Proof
end

