-- ==== Sys2Proof/Config.lean ====
section
/-! DEFINITION. What one part fixes, and the values the spec leaves open: opaque constants, so that no proof can
see a value of them. -/

namespace Sys2Proof

/-- Free values (log entry 2): the `i`-th value the machine takes where the spec leaves a value open. -/
opaque Config.freeWord : Nat → BitVec 64

/-- The number behind the factory identity of the part (R33, log entry 4). -/
opaque Config.rawId : BitVec 64

/-- The factory identity: never all zeros or all ones (R33). -/
def Config.factoryId : Uid :=
  if Config.rawId = 0#64 ∨ Config.rawId = BitVec.allOnes 64 then 1#64 else Config.rawId

/-- ROMVER, the version of the CX boot ROM (AC_REVID, log entry 4). -/
opaque Config.romVer : BitVec 8

/-- Byte `i` of the preamble and start delimiter of a DLP frame, whose content the spec does not give (log entry 8). -/
opaque Config.preambleByte : Nat → Byte

/-- AES-256-CMAC under a key (R87): the 16 bytes over a message (log entry 9). -/
opaque Config.aesCmac : List Byte → List Byte → List Byte

/-- The keyed hash `hmac` of spec/12_security.md: key, message, 32 bytes (log entry 9). -/
opaque Config.hmac : List Byte → List Byte → List Byte

/-- The password hash of console logins (R336): password, salt, iterations (log entry 9). -/
opaque Config.pbkdf2 : List Byte → List Byte → Nat → List Byte

/-- AES-256-GMAC of a checked command (R333): key, nonce, message (log entry 9). -/
opaque Config.gmac : List Byte → List Byte → List Byte → List Byte

/-- Verification of a blend's signature (R285): public key, message, signature (log entry 9). -/
opaque Config.verifySignature : List Byte → List Byte → List Byte → Bool

/-- Key unwrapping (R328): wrapping key, wrapped bytes; none where the check fails (log entry 9). -/
opaque Config.unwrapKey : List Byte → List Byte → Option (List Byte)

/-- What the loader takes the access of the memory instruction at an index of a program's code to reach (R212): 0 own
SRAM, 1 across the die-to-die link, 2 DRAM, 3 the register window (log entry 21). -/
opaque Config.accessClass : List (BitVec 32) → Nat → Nat

/-- Whether a division whose rounding the spec does not state is rounded up: numerator and denominator (log entry 19). -/
opaque Config.roundUp : Int → Nat → Bool

/-- The Q8.24 linear factor of a gain in 2^-16 of 1/256 dB, before the bound of R246 (log entry 20). -/
opaque Config.gainFactor : Int → Nat

/-- The section index that check 3 shows for a blend without a NODEPARAM section, which has no index (log entry 2). -/
opaque Config.noSection : BitVec 16

/-- The DIGEST of a checkpoint (Table DU-4): CRC-32C over the outputs of a cycle in an arrangement the spec does not
give; cycle, and the outputs in the model's arrangement (log entry 27). -/
opaque Config.digest : Nat → List Byte → BitVec 32

end Sys2Proof
end

