-- ==== Sys2Proof/Machine/Sparse.lean ====
section
/-! DEFINITION. Sparse stores: a list of (key, value) pairs in one canonical form, keys strictly rising and no
entry equal to what an unlisted key reads as.  Register files, memories and every numbered family of the model
(ports, engines, programs, queues) are held this way. -/

namespace Sys2Proof.Machine

/-- A store by number.  What an unlisted number reads as is said by the operation that reads it. -/
abbrev Sparse (α : Type) := List (Nat × α)

/-- What the store holds under key `k`; `d` where it lists nothing. -/
def look {α : Type} (d : α) : Sparse α → Nat → α
  | [], _ => d
  | (k', v) :: m, k => if k' = k then v else look d m k

/-- The store without key `k`. -/
def dropKey {α : Type} (m : Sparse α) (k : Nat) : Sparse α := m.filter (fun e => e.1 != k)

/-- Put a pair in its place by key. -/
def insertKey {α : Type} (k : Nat) (v : α) : Sparse α → Sparse α
  | [] => [(k, v)]
  | (k', v') :: m => if k < k' then (k, v) :: (k', v') :: m else (k', v') :: insertKey k v m

/-- Store `v` under `k`; storing what an unlisted key reads as removes the entry. -/
def put {α : Type} [DecidableEq α] (d : α) (m : Sparse α) (k : Nat) (v : α) : Sparse α :=
  if v = d then dropKey m k else insertKey k v (dropKey m k)

/-- Change the value under `k`. -/
def adjust {α : Type} [DecidableEq α] (d : α) (m : Sparse α) (k : Nat) (f : α → α) : Sparse α :=
  put d m k (f (look d m k))

/-- Keys strictly rising. -/
def rising {α : Type} : Sparse α → Bool
  | [] => true
  | [_] => true
  | (k, _) :: (k', v') :: m => decide (k < k') && rising ((k', v') :: m)

/-- The canonical form of a store whose unlisted keys read as `d k`. -/
def canonical {α : Type} [DecidableEq α] (d : Nat → α) (m : Sparse α) : Bool :=
  rising m && m.all (fun e => decide (e.2 ≠ d e.1))

end Sys2Proof.Machine
end

