-- ==== Sys2Proof/Machine/Bytes.lean ====
section
/-! DEFINITION. Byte orders (R3), bit fields, saturation and byte memories: the helpers every chapter uses. -/

namespace Sys2Proof.Machine

/-- Bits `lo + width - 1 : lo` of a number. -/
def bits (v lo width : Nat) : Nat := (v / 2 ^ lo) % 2 ^ width

/-- Bit `i` of a number, as a truth value. -/
def bitOf (v i : Nat) : Bool := bits v i 1 == 1

/-- 1 for true, 0 for false. -/
def b2n (b : Bool) : Nat := if b then 1 else 0

/-- The `n` bytes of `v`, least significant first (memory, R3). -/
def leBytes : Nat → Nat → List Byte
  | 0, _ => []
  | n + 1, v => BitVec.ofNat 8 v :: leBytes n (v / 256)

/-- The `n` bytes of `v`, most significant first (the line, R3). -/
def beBytes (n v : Nat) : List Byte := (leBytes n v).reverse

/-- The number some bytes spell, least significant first. -/
def leVal : List Byte → Nat
  | [] => 0
  | b :: bs => b.toNat + 256 * leVal bs

/-- The number some bytes spell, most significant first. -/
def beVal (bs : List Byte) : Nat := leVal bs.reverse

/-- `n` bytes of a frame from offset `off`; bytes past its end read 0. -/
def cut (b : List Byte) (off n : Nat) : List Byte :=
  let c := (b.drop off).take n
  c ++ List.replicate (n - c.length) 0#8

/-- The `n`-byte big-endian field at `off` of a frame. -/
def be (b : List Byte) (off n : Nat) : Nat := beVal (cut b off n)

/-- The `n`-byte little-endian field at `off` of a record. -/
def le (b : List Byte) (off n : Nat) : Nat := leVal (cut b off n)

/-- Bytes with the bytes `x` written over them from offset `off`. -/
def overlay (b : List Byte) (off : Nat) (x : List Byte) : List Byte :=
  cut b 0 off ++ x ++ b.drop (off + x.length)

/-- The signed value of the low `w` bits of `v`. -/
def signed (w v : Nat) : Int :=
  let u := v % 2 ^ w
  if 2 * u < 2 ^ w then (u : Int) else (u : Int) - (2 ^ w : Nat)

/-- The `w`-bit two's complement code of an integer. -/
def unsigned (w : Nat) (x : Int) : Nat := (x % ((2 ^ w : Nat) : Int)).toNat

/-- `x` held between `lo` and `hi`. -/
def clampInt (lo hi x : Int) : Int := max lo (min hi x)

/-- `x` held to the signed `w`-bit range. -/
def saturate (w : Nat) (x : Int) : Int := clampInt (-((2 ^ (w - 1) : Nat) : Int)) (((2 ^ (w - 1) : Nat) : Int) - 1) x

/-- The difference of two numbers modulo 2^w. -/
def subMod (w a b : Nat) : Nat :=
  if b % 2 ^ w ≤ a % 2 ^ w then a % 2 ^ w - b % 2 ^ w else 2 ^ w - b % 2 ^ w + a % 2 ^ w

/-- Smallest multiple count: `a / b` rounded up. -/
def ceilDiv (a b : Nat) : Nat := if a % b = 0 then a / b else a / b + 1

/-- Read `n` bytes of a byte store from address `a`; an unlisted byte reads 0 (log entry 1). -/
def readBytes (m : Sparse Byte) (a : Nat) : Nat → List Byte
  | 0 => []
  | n + 1 => look 0#8 m a :: readBytes m (a + 1) n

/-- Write bytes to a byte store from address `a`. -/
def writeBytes (m : Sparse Byte) (a : Nat) : List Byte → Sparse Byte
  | [] => m
  | b :: bs => writeBytes (put 0#8 m a b) (a + 1) bs

/-- The little-endian word of `n` bytes at `a`. -/
def readLe (m : Sparse Byte) (a n : Nat) : Nat := leVal (readBytes m a n)

/-- The bytes of an ASCII text. -/
def ascii (t : String) : List Byte := t.toList.map (fun c => BitVec.ofNat 8 c.toNat)

/-- Numbers `0 .. n - 1` of a family for which `p` holds. -/
def which (n : Nat) (p : Nat → Bool) : List Nat := (List.range n).filter p

/-- Replace the element at index `i` of a list, if there is one. -/
def setAt {α : Type} : List α → Nat → α → List α
  | [], _, _ => []
  | _ :: xs, 0, v => v :: xs
  | x :: xs, i + 1, v => x :: setAt xs i v

end Sys2Proof.Machine
end

