-- ==== Sys2Proof/Machine/Regs.lean ====
section
/-! DEFINITION. The register addresses and register fields of the VT8400 (Table SC-5 and the register
sections of spec/01_architecture.md to spec/18_load_switches.md), under the spec's own names.
`R.<NAME>` is an address (its index arguments in the order of the spec's brackets, `c` the line channel of an
LC register, `m` a MAC, `c` a CAN controller) and `F.<NAME>_<FIELD>` is a field of that register. -/

namespace Sys2Proof.Machine

/-- A field of a 32-bit register: its least significant bit and its width, as a field table gives them. -/
structure Field where
  lo : Nat
  width : Nat
  deriving DecidableEq, Repr

/-- PB(p) of chapter 02, "LP registers": the offset of port p's registers. -/
def portBase (p : Nat) : Nat := 0x80000 * (p / 2) + 0x1000 * (p % 2)


/-! ### AC registers (spec/01_architecture.md) -/

namespace R

def AC_PARTID : Nat := 0x0
def AC_REVID : Nat := 0x4
def AC_UID_LO : Nat := 0x8
def AC_UID_HI : Nat := 0xC
def AC_SHADOWSTAT : Nat := 0x40
def AC_IMGCTL : Nat := 0x50
def AC_IMGSTAT : Nat := 0x54
def AC_HEALTHSUM : Nat := 0x80
def AC_DIEHEALTH (n : Nat) : Nat := 0x100 + 0x4 * n

end R

namespace F

def AC_PARTID_VENDOR : Field := ⟨16, 16⟩
def AC_PARTID_PART : Field := ⟨0, 16⟩
def AC_REVID_ROMVER : Field := ⟨16, 8⟩
def AC_REVID_PKG : Field := ⟨8, 8⟩
def AC_REVID_REV : Field := ⟨0, 8⟩
def AC_UID_LO_UID : Field := ⟨0, 32⟩
def AC_UID_HI_UID : Field := ⟨0, 32⟩
def AC_SHADOWSTAT_LATE : Field := ⟨31, 1⟩
def AC_SHADOWSTAT_PEND : Field := ⟨0, 18⟩
def AC_IMGCTL_HOLD : Field := ⟨0, 1⟩
def AC_IMGSTAT_CNLO : Field := ⟨16, 16⟩
def AC_IMGSTAT_HOLDEXP : Field := ⟨3, 1⟩
def AC_IMGSTAT_HELD : Field := ⟨2, 1⟩
def AC_IMGSTAT_STALE : Field := ⟨1, 1⟩
def AC_IMGSTAT_VALID : Field := ⟨0, 1⟩
def AC_HEALTHSUM_CHG : Field := ⟨16, 8⟩
def AC_HEALTHSUM_DEGR : Field := ⟨8, 8⟩
def AC_HEALTHSUM_FAIL : Field := ⟨0, 8⟩
def AC_DIEHEALTH_DETAIL : Field := ⟨24, 8⟩
def AC_DIEHEALTH_TEMP : Field := ⟨16, 8⟩
def AC_DIEHEALTH_CECNT : Field := ⟨8, 8⟩
def AC_DIEHEALTH_CAUSE : Field := ⟨4, 4⟩
def AC_DIEHEALTH_STATE : Field := ⟨0, 4⟩

end F

/-! ### TB registers (spec/05_time_base.md) -/

namespace R

def TB_CFG : Nat := 0x100000
def TB_STAT : Nat := 0x100004
def TB_EVT : Nat := 0x100008
def TB_ROOTADJ : Nat := 0x10000C
def TB_INCR_LO : Nat := 0x100010
def TB_INCR_HI : Nat := 0x100014
def TB_OFFSET : Nat := 0x100018
def TB_RATIO : Nat := 0x10001C
def TB_NOW_NS : Nat := 0x100020
def TB_NOW_CNLO : Nat := 0x100024
def TB_NOW_CNHI : Nat := 0x100028
def TB_WRAPCNT : Nat := 0x100040
def TB_WRAPCN_LO : Nat := 0x100044
def TB_WRAPCN_HI : Nat := 0x100048
def TB_LINKDLY (p : Nat) : Nat := 0x100080 + 0x4 * p
def TB_TRIGPH (k : Nat) : Nat := 0x100100 + 0x4 * k
def TB_CNT (k : Nat) : Nat := 0x100180 + 0x4 * k
def TB_TOUTCTL (i : Nat) : Nat := 0x100200 + 0x20 * i
def TB_TOUTCN_LO (i : Nat) : Nat := 0x100204 + 0x20 * i
def TB_TOUTCN_HI (i : Nat) : Nat := 0x100208 + 0x20 * i
def TB_TOUTOFF (i : Nat) : Nat := 0x10020C + 0x20 * i
def TB_TOUTPER (i : Nat) : Nat := 0x100210 + 0x20 * i
def TB_TOUTWID (i : Nat) : Nat := 0x100214 + 0x20 * i
def TB_TOUTSTAT (i : Nat) : Nat := 0x100218 + 0x20 * i
def TB_TCAPCFG (i : Nat) : Nat := 0x100300 + 0x10 * i
def TB_TCAPSTAT (i : Nat) : Nat := 0x100304 + 0x10 * i
def TB_TCAP_HI (i : Nat) : Nat := 0x100308 + 0x10 * i
def TB_TCAP_LO (i : Nat) : Nat := 0x10030C + 0x10 * i

end R

namespace F

def TB_CFG_MAXPPM : Field := ⟨16, 10⟩
def TB_CFG_SLEWPPM : Field := ⟨8, 8⟩
def TB_CFG_KSHIFT : Field := ⟨4, 4⟩
def TB_CFG_EXTREF : Field := ⟨2, 1⟩
def TB_CFG_SRCSEL : Field := ⟨0, 2⟩
def TB_STAT_CLAMP : Field := ⟨11, 1⟩
def TB_STAT_STEPPED : Field := ⟨10, 1⟩
def TB_STAT_OFFVALID : Field := ⟨9, 1⟩
def TB_STAT_ALIGNED : Field := ⟨8, 1⟩
def TB_STAT_SRCVALID : Field := ⟨6, 1⟩
def TB_STAT_SRCPORT : Field := ⟨4, 2⟩
def TB_STAT_STATE : Field := ⟨0, 3⟩
def TB_EVT_TCAP : Field := ⟨9, 1⟩
def TB_EVT_TOUT : Field := ⟨8, 1⟩
def TB_EVT_TDOMMIS : Field := ⟨7, 1⟩
def TB_EVT_CLAMP : Field := ⟨6, 1⟩
def TB_EVT_ALIGNED : Field := ⟨5, 1⟩
def TB_EVT_ALIGNLOSS : Field := ⟨4, 1⟩
def TB_EVT_HOLDOVER : Field := ⟨3, 1⟩
def TB_EVT_SRCCHG : Field := ⟨2, 1⟩
def TB_EVT_STEP : Field := ⟨1, 1⟩
def TB_EVT_WRAP : Field := ⟨0, 1⟩
def TB_ROOTADJ_ADJ : Field := ⟨0, 32⟩
def TB_INCR_LO_INCR : Field := ⟨0, 32⟩
def TB_INCR_HI_INCR : Field := ⟨0, 32⟩
def TB_OFFSET_OFF : Field := ⟨0, 32⟩
def TB_RATIO_RATIO : Field := ⟨0, 32⟩
def TB_NOW_NS_VALUE : Field := ⟨0, 32⟩
def TB_NOW_CNLO_VALUE : Field := ⟨0, 32⟩
def TB_NOW_CNHI_VALUE : Field := ⟨0, 32⟩
def TB_WRAPCNT_COUNT : Field := ⟨0, 32⟩
def TB_WRAPCN_LO_CN : Field := ⟨0, 32⟩
def TB_WRAPCN_HI_CN : Field := ⟨0, 32⟩
def TB_LINKDLY_VALID : Field := ⟨31, 1⟩
def TB_LINKDLY_NS : Field := ⟨8, 23⟩
def TB_LINKDLY_FRAC : Field := ⟨0, 8⟩
def TB_TRIGPH_PHASE : Field := ⟨0, 17⟩
def TB_CNT_COUNT : Field := ⟨0, 32⟩
def TB_TOUTCTL_POL : Field := ⟨2, 1⟩
def TB_TOUTCTL_MODE : Field := ⟨1, 1⟩
def TB_TOUTCTL_ARM : Field := ⟨0, 1⟩
def TB_TOUTCN_LO_CN : Field := ⟨0, 32⟩
def TB_TOUTCN_HI_CN : Field := ⟨0, 16⟩
def TB_TOUTOFF_NS : Field := ⟨0, 32⟩
def TB_TOUTPER_NS : Field := ⟨0, 32⟩
def TB_TOUTWID_NS : Field := ⟨0, 32⟩
def TB_TOUTSTAT_PULSES : Field := ⟨16, 16⟩
def TB_TOUTSTAT_BADCFG : Field := ⟨3, 1⟩
def TB_TOUTSTAT_LATE : Field := ⟨2, 1⟩
def TB_TOUTSTAT_MISSED : Field := ⟨1, 1⟩
def TB_TOUTSTAT_DONE : Field := ⟨0, 1⟩
def TB_TCAPCFG_EDGE : Field := ⟨1, 2⟩
def TB_TCAPCFG_EN : Field := ⟨0, 1⟩
def TB_TCAPSTAT_LOST : Field := ⟨16, 8⟩
def TB_TCAPSTAT_CLOSE : Field := ⟨9, 1⟩
def TB_TCAPSTAT_OVF : Field := ⟨8, 1⟩
def TB_TCAPSTAT_FILL : Field := ⟨0, 5⟩
def TB_TCAP_HI_ENTRY : Field := ⟨0, 32⟩
def TB_TCAP_LO_ENTRY : Field := ⟨0, 32⟩

end F

/-! ### LP registers (spec/02_line_ports.md) -/

namespace R

def LP_PORTCFG (p : Nat) : Nat := 0x200000 + portBase p
def LP_PORTSTAT (p : Nat) : Nat := 0x200004 + portBase p
def LP_PORTEVT (p : Nat) : Nat := 0x200008 + portBase p
def LP_PARTNERID_LO (p : Nat) : Nat := 0x200010 + portBase p
def LP_PARTNERID_HI (p : Nat) : Nat := 0x200014 + portBase p
def LP_PARTNERPORT (p : Nat) : Nat := 0x200018 + portBase p
def LP_CNT (p k : Nat) : Nat := 0x200040 + portBase p + 0x4 * k
def LP_ASYMTX (p : Nat) : Nat := 0x200080 + portBase p
def LP_ASYMRX (p : Nat) : Nat := 0x200084 + portBase p
def LP_CSFIN_NS (p : Nat) : Nat := 0x2000C0 + portBase p
def LP_CSFOUT_NS (p : Nat) : Nat := 0x2000C8 + portBase p
def LP_CSFIN_EXT (p : Nat) : Nat := 0x2000C4 + portBase p
def LP_CSFOUT_EXT (p : Nat) : Nat := 0x2000CC + portBase p
def LP_WAKECFG : Nat := 0x20F000
def LP_WAKESTAT : Nat := 0x20F004

end R

namespace F

def LP_PORTCFG_WAKEFIRST : Field := ⟨3, 1⟩
def LP_PORTCFG_RATE : Field := ⟨1, 2⟩
def LP_PORTCFG_EN : Field := ⟨0, 1⟩
def LP_PORTSTAT_FAILCAUSE : Field := ⟨28, 4⟩
def LP_PORTSTAT_FAILCNT : Field := ⟨24, 4⟩
def LP_PORTSTAT_HELDQ : Field := ⟨16, 1⟩
def LP_PORTSTAT_HOLDRSN : Field := ⟨12, 3⟩
def LP_PORTSTAT_LINEEND : Field := ⟨9, 1⟩
def LP_PORTSTAT_FWD : Field := ⟨8, 1⟩
def LP_PORTSTAT_RATE : Field := ⟨4, 2⟩
def LP_PORTSTAT_STATE : Field := ⟨0, 4⟩
def LP_PORTEVT_LOOP : Field := ⟨9, 1⟩
def LP_PORTEVT_ABORT : Field := ⟨8, 1⟩
def LP_PORTEVT_DROP : Field := ⟨7, 1⟩
def LP_PORTEVT_WAKEDET : Field := ⟨6, 1⟩
def LP_PORTEVT_RATEMIS : Field := ⟨5, 1⟩
def LP_PORTEVT_SELF : Field := ⟨4, 1⟩
def LP_PORTEVT_CROSS : Field := ⟨3, 1⟩
def LP_PORTEVT_TRAINFAIL : Field := ⟨2, 1⟩
def LP_PORTEVT_DOWN : Field := ⟨1, 1⟩
def LP_PORTEVT_UP : Field := ⟨0, 1⟩
def LP_PARTNERID_LO_UID : Field := ⟨0, 32⟩
def LP_PARTNERID_HI_UID : Field := ⟨0, 32⟩
def LP_PARTNERPORT_VALID : Field := ⟨31, 1⟩
def LP_PARTNERPORT_KIND : Field := ⟨4, 1⟩
def LP_PARTNERPORT_CHAN : Field := ⟨2, 1⟩
def LP_PARTNERPORT_SIDE : Field := ⟨0, 2⟩
def LP_CNT_COUNT : Field := ⟨0, 32⟩
def LP_ASYMTX_ASYM : Field := ⟨0, 24⟩
def LP_ASYMRX_ASYM : Field := ⟨0, 24⟩
def LP_CSFIN_NS_NS : Field := ⟨0, 32⟩
def LP_CSFOUT_NS_NS : Field := ⟨0, 32⟩
def LP_CSFIN_EXT_CNLO : Field := ⟨16, 16⟩
def LP_CSFIN_EXT_VALID : Field := ⟨8, 1⟩
def LP_CSFIN_EXT_FRAC : Field := ⟨0, 8⟩
def LP_CSFOUT_EXT_CNLO : Field := ⟨16, 16⟩
def LP_CSFOUT_EXT_VALID : Field := ⟨8, 1⟩
def LP_CSFOUT_EXT_FRAC : Field := ⟨0, 8⟩
def LP_WAKECFG_DETEN : Field := ⟨4, 4⟩
def LP_WAKECFG_RELAY : Field := ⟨0, 4⟩
def LP_WAKESTAT_FVALID : Field := ⟨7, 1⟩
def LP_WAKESTAT_RELAYED : Field := ⟨4, 1⟩
def LP_WAKESTAT_FIRST : Field := ⟨2, 2⟩

end F

/-! ### LC registers (spec/03_line_cycle.md) -/

namespace R

def LC_CFG (c : Nat) : Nat := 0x300000 + 0x80000 * c
def LC_STAT (c : Nat) : Nat := 0x300004 + 0x80000 * c
def LC_PRES (c : Nat) : Nat := 0x300008 + 0x80000 * c
def LC_LAP (c : Nat) : Nat := 0x30000C + 0x80000 * c
def LC_ROSTERTX0 (c : Nat) : Nat := 0x300010 + 0x80000 * c
def LC_ROSTERTX1 (c : Nat) : Nat := 0x300014 + 0x80000 * c
def LC_SLUICECFG (c : Nat) : Nat := 0x300020 + 0x80000 * c
def LC_SLUICESTAT (c : Nat) : Nat := 0x300024 + 0x80000 * c
def LC_EVT (c : Nat) : Nat := 0x300028 + 0x80000 * c
def LC_SLOTCFG (c s : Nat) : Nat := 0x300100 + 0x80000 * c + 0x4 * s
def LC_LANEMODE (c s w : Nat) : Nat := 0x301080 + 0x80000 * c + 0x10 * (s - 8) + 0x4 * w
def LC_CNT (c k : Nat) : Nat := 0x300400 + 0x80000 * c + 0x4 * k

end R

namespace F

def LC_CFG_GUARD : Field := ⟨16, 6⟩
def LC_CFG_LOGQ : Field := ⟨8, 4⟩
def LC_CFG_STARVEW : Field := ⟨4, 4⟩
def LC_CFG_MSQUOTA : Field := ⟨0, 4⟩
def LC_STAT_INNER : Field := ⟨24, 1⟩
def LC_STAT_EPOCHLO : Field := ⟨16, 8⟩
def LC_STAT_UPLOSS : Field := ⟨12, 1⟩
def LC_STAT_FLYWHEEL : Field := ⟨9, 3⟩
def LC_STAT_CSFVALID : Field := ⟨8, 1⟩
def LC_STAT_MODE : Field := ⟨4, 2⟩
def LC_STAT_ROLE : Field := ⟨0, 3⟩
def LC_PRES_DMIN : Field := ⟨8, 8⟩
def LC_PRES_D : Field := ⟨0, 8⟩
def LC_LAP_LAPNS : Field := ⟨0, 32⟩
def LC_ROSTERTX0_REPORT : Field := ⟨0, 32⟩
def LC_ROSTERTX1_REPORT : Field := ⟨8, 24⟩
def LC_SLUICECFG_QTIME : Field := ⟨16, 16⟩
def LC_SLUICECFG_VLIM : Field := ⟨0, 4⟩
def LC_SLUICESTAT_VCNTR : Field := ⟨16, 7⟩
def LC_SLUICESTAT_VCNTF : Field := ⟨8, 7⟩
def LC_SLUICESTAT_QUARR : Field := ⟨1, 1⟩
def LC_SLUICESTAT_QUARF : Field := ⟨0, 1⟩
def LC_EVT_DCHG : Field := ⟨11, 1⟩
def LC_EVT_CNMIS : Field := ⟨10, 1⟩
def LC_EVT_STARVED : Field := ⟨9, 1⟩
def LC_EVT_OVERWRITE : Field := ⟨8, 1⟩
def LC_EVT_COLLIDE : Field := ⟨7, 1⟩
def LC_EVT_UPLOSS : Field := ⟨6, 1⟩
def LC_EVT_FLYWHEEL : Field := ⟨5, 1⟩
def LC_EVT_QUAR : Field := ⟨4, 1⟩
def LC_EVT_LOCALVIOL : Field := ⟨3, 1⟩
def LC_EVT_RXVIOL : Field := ⟨2, 1⟩
def LC_EVT_TAGFAIL : Field := ⟨1, 1⟩
def LC_EVT_CLIP : Field := ⟨0, 1⟩
def LC_SLOTCFG_OWN : Field := ⟨4, 1⟩
def LC_SLOTCFG_KIND : Field := ⟨0, 2⟩
def LC_LANEMODE_MODES : Field := ⟨0, 32⟩
def LC_CNT_COUNT : Field := ⟨0, 32⟩

end F

/-! ### IN registers (spec/04_inauguration.md) -/

namespace R

def IN_CFG : Nat := 0x400000
def IN_LOCAL : Nat := 0x400004
def IN_STAT : Nat := 0x400008
def IN_EPOCH : Nat := 0x40000C
def IN_TDOM_LO : Nat := 0x400010
def IN_TDOM_HI : Nat := 0x400014
def IN_EPOCHCN_LO : Nat := 0x400018
def IN_EPOCHCN_HI : Nat := 0x40001C
def IN_EVT : Nat := 0x400020
def IN_SEQCFG : Nat := 0x400024
def IN_PROPCTL : Nat := 0x400040
def IN_PROPSTAT : Nat := 0x400044
def IN_PROPDATA (k : Nat) : Nat := 0x400080 + 0x4 * k
def IN_CNT (k : Nat) : Nat := 0x400100 + 0x4 * k

end R

namespace F

def IN_CFG_HOLDOFF : Field := ⟨16, 16⟩
def IN_CFG_ABSENT : Field := ⟨8, 8⟩
def IN_CFG_PTMO : Field := ⟨4, 4⟩
def IN_LOCAL_CSCAP : Field := ⟨1, 1⟩
def IN_LOCAL_ACTCAB : Field := ⟨0, 1⟩
def IN_STAT_NODES : Field := ⟨16, 16⟩
def IN_STAT_ORIENT : Field := ⟨10, 1⟩
def IN_STAT_FALLBACK : Field := ⟨9, 1⟩
def IN_STAT_MERGE : Field := ⟨8, 1⟩
def IN_STAT_INAUG : Field := ⟨7, 1⟩
def IN_STAT_STALE : Field := ⟨6, 1⟩
def IN_STAT_JOINING : Field := ⟨5, 1⟩
def IN_STAT_LEADER : Field := ⟨4, 1⟩
def IN_STAT_STATE : Field := ⟨0, 3⟩
def IN_EPOCH_EPOCH : Field := ⟨16, 16⟩
def IN_EPOCH_NODE : Field := ⟨0, 16⟩
def IN_TDOM_LO_TDOM : Field := ⟨0, 32⟩
def IN_TDOM_HI_TDOM : Field := ⟨0, 32⟩
def IN_EPOCHCN_LO_CN : Field := ⟨0, 32⟩
def IN_EPOCHCN_HI_CN : Field := ⟨0, 32⟩
def IN_EVT_ADMITFAIL : Field := ⟨8, 1⟩
def IN_EVT_PROPDONE : Field := ⟨7, 1⟩
def IN_EVT_RESTART : Field := ⟨6, 1⟩
def IN_EVT_REJOIN : Field := ⟨5, 1⟩
def IN_EVT_MERGE : Field := ⟨4, 1⟩
def IN_EVT_RESYNC : Field := ⟨3, 1⟩
def IN_EVT_STALE : Field := ⟨2, 1⟩
def IN_EVT_LEADER : Field := ⟨1, 1⟩
def IN_EVT_EPOCH : Field := ⟨0, 1⟩
def IN_SEQCFG_MERGEAHEAD : Field := ⟨16, 8⟩
def IN_SEQCFG_FORMWAIT : Field := ⟨8, 8⟩
def IN_SEQCFG_MARGIN : Field := ⟨0, 4⟩
def IN_PROPCTL_GO : Field := ⟨31, 1⟩
def IN_PROPCTL_BLEN : Field := ⟨25, 6⟩
def IN_PROPCTL_BOFF : Field := ⟨20, 5⟩
def IN_PROPCTL_INDEX : Field := ⟨9, 11⟩
def IN_PROPCTL_SECTION : Field := ⟨4, 3⟩
def IN_PROPCTL_OP : Field := ⟨0, 2⟩
def IN_PROPSTAT_PSEQ : Field := ⟨16, 16⟩
def IN_PROPSTAT_REASON : Field := ⟨4, 4⟩
def IN_PROPSTAT_RESULT : Field := ⟨0, 4⟩
def IN_PROPDATA_DATA : Field := ⟨0, 32⟩
def IN_CNT_COUNT : Field := ⟨0, 32⟩

end F

/-! ### DU registers (spec/06_redundancy.md) -/

namespace R

def DU_CFG : Nat := 0x500000
def DU_STAT : Nat := 0x500004
def DU_EVT : Nat := 0x500008
def DU_MOVECRC : Nat := 0x50000C
def DU_MOVEQ : Nat := 0x500010
def DU_PAIRCFG : Nat := 0x500100
def DU_PAIRID_LO : Nat := 0x500104
def DU_PAIRID_HI : Nat := 0x500108
def DU_ARBID_LO : Nat := 0x50010C
def DU_ARBID_HI : Nat := 0x500110
def DU_PAIRCTL : Nat := 0x500114
def DU_PAIRSTAT : Nat := 0x500118
def DU_HEALTH : Nat := 0x500120
def DU_PPSTAT : Nat := 0x500124
def DU_CKBASE (k : Nat) : Nat := 0x500200 + 0x8 * k
def DU_CKLEN (k : Nat) : Nat := 0x500204 + 0x8 * k
def DU_CNT (k : Nat) : Nat := 0x500300 + 0x4 * k
def DU_LANECLS (c s w : Nat) : Nat := 0x504000 + 0x1000 * c + 0x20 * (s - 8) + 0x4 * w

end R

namespace F

def DU_CFG_MIRROR : Field := ⟨4, 1⟩
def DU_CFG_MODE : Field := ⟨0, 2⟩
def DU_STAT_PREFMIS : Field := ⟨12, 1⟩
def DU_STAT_BREAKB : Field := ⟨11, 1⟩
def DU_STAT_BREAKA : Field := ⟨10, 1⟩
def DU_STAT_HEADB : Field := ⟨9, 1⟩
def DU_STAT_HEADA : Field := ⟨8, 1⟩
def DU_STAT_FARB : Field := ⟨7, 1⟩
def DU_STAT_FARA : Field := ⟨6, 1⟩
def DU_STAT_BRIDGEB : Field := ⟨5, 1⟩
def DU_STAT_BRIDGEA : Field := ⟨4, 1⟩
def DU_STAT_MOVEMIS : Field := ⟨2, 1⟩
def DU_STAT_SHORT : Field := ⟨1, 1⟩
def DU_STAT_MODEMIS : Field := ⟨0, 1⟩
def DU_EVT_PREFMIS : Field := ⟨14, 1⟩
def DU_EVT_NOARB : Field := ⟨13, 1⟩
def DU_EVT_HEALTH : Field := ⟨12, 1⟩
def DU_EVT_SYNCLOST : Field := ⟨11, 1⟩
def DU_EVT_REVFAIL : Field := ⟨10, 1⟩
def DU_EVT_DISAGREE : Field := ⟨9, 1⟩
def DU_EVT_CONFLICT : Field := ⟨8, 1⟩
def DU_EVT_RELEASE : Field := ⟨7, 1⟩
def DU_EVT_TAKEOVER : Field := ⟨6, 1⟩
def DU_EVT_BRIDGE : Field := ⟨5, 1⟩
def DU_EVT_SEGHEAD : Field := ⟨4, 1⟩
def DU_EVT_RETLOSS : Field := ⟨3, 1⟩
def DU_EVT_MOVEMIS : Field := ⟨2, 1⟩
def DU_EVT_SHORT : Field := ⟨1, 1⟩
def DU_EVT_MODEMIS : Field := ⟨0, 1⟩
def DU_MOVECRC_CRC : Field := ⟨0, 32⟩
def DU_MOVEQ_VALID : Field := ⟨31, 1⟩
def DU_MOVEQ_TSLOT : Field := ⟨24, 7⟩
def DU_MOVEQ_TLANE : Field := ⟨18, 6⟩
def DU_MOVEQ_CHAN : Field := ⟨16, 1⟩
def DU_MOVEQ_SLOT : Field := ⟨9, 7⟩
def DU_MOVEQ_LANE : Field := ⟨3, 6⟩
def DU_PAIRCFG_REVDLY : Field := ⟨8, 8⟩
def DU_PAIRCFG_SUBARB : Field := ⟨3, 1⟩
def DU_PAIRCFG_ARBSEL : Field := ⟨2, 1⟩
def DU_PAIRCFG_PREF : Field := ⟨1, 1⟩
def DU_PAIRCFG_EN : Field := ⟨0, 1⟩
def DU_PAIRID_LO_UID : Field := ⟨0, 32⟩
def DU_PAIRID_HI_UID : Field := ⟨0, 32⟩
def DU_ARBID_LO_UID : Field := ⟨0, 32⟩
def DU_ARBID_HI_UID : Field := ⟨0, 32⟩
def DU_PAIRCTL_REQUEST : Field := ⟨1, 1⟩
def DU_PAIRCTL_RETRY : Field := ⟨0, 1⟩
def DU_PAIRSTAT_ARBFOR : Field := ⟨22, 10⟩
def DU_PAIRSTAT_ARBNODE : Field := ⟨12, 10⟩
def DU_PAIRSTAT_GRANT : Field := ⟨10, 2⟩
def DU_PAIRSTAT_ARBVALID : Field := ⟨9, 1⟩
def DU_PAIRSTAT_SUBACT : Field := ⟨8, 1⟩
def DU_PAIRSTAT_DISAGREE : Field := ⟨5, 2⟩
def DU_PAIRSTAT_REVFAIL : Field := ⟨4, 1⟩
def DU_PAIRSTAT_TOKEN : Field := ⟨3, 1⟩
def DU_PAIRSTAT_FORMED : Field := ⟨2, 1⟩
def DU_PAIRSTAT_ROLE : Field := ⟨0, 2⟩
def DU_HEALTH_CKAGE : Field := ⟨24, 8⟩
def DU_HEALTH_FIT : Field := ⟨15, 1⟩
def DU_HEALTH_SYNC : Field := ⟨14, 1⟩
def DU_HEALTH_MIRROR : Field := ⟨13, 1⟩
def DU_HEALTH_BISTFAIL : Field := ⟨7, 1⟩
def DU_HEALTH_SCRUBERR : Field := ⟨6, 1⟩
def DU_HEALTH_CKCRCERR : Field := ⟨5, 1⟩
def DU_HEALTH_MKFAIL : Field := ⟨4, 1⟩
def DU_HEALTH_MKENG : Field := ⟨0, 4⟩
def DU_PPSTAT_CKRX : Field := ⟨9, 1⟩
def DU_PPSTAT_IDOK : Field := ⟨8, 1⟩
def DU_PPSTAT_STATE : Field := ⟨0, 4⟩
def DU_CKBASE_SPACE : Field := ⟨30, 2⟩
def DU_CKBASE_UNITS : Field := ⟨0, 26⟩
def DU_CKLEN_SPACE : Field := ⟨30, 2⟩
def DU_CKLEN_UNITS : Field := ⟨0, 26⟩
def DU_CNT_COUNT : Field := ⟨0, 32⟩
def DU_LANECLS_CLS : Field := ⟨0, 32⟩

end F

/-! ### MK registers (spec/07_milnak.md) -/

namespace R

def MK_EVT : Nat := 0x600008
def MK_PROGCMD : Nat := 0x600010
def MK_EVTPOST : Nat := 0x600014
def MK_EVTDATA : Nat := 0x600018
def MK_TRAP_INFO : Nat := 0x600020
def MK_TRAP_PC : Nat := 0x600024
def MK_TRAP_ADDR : Nat := 0x600028
def MK_TRAP_CN : Nat := 0x60002C
def MK_STCTL : Nat := 0x600030
def MK_STSTAT : Nat := 0x600034
def MK_CNT (k : Nat) : Nat := 0x600080 + 0x4 * k
def MK_ENGCFG (e : Nat) : Nat := 0x600100 + 0x4 * e
def MK_ENGSTAT (e : Nat) : Nat := 0x600200 + 0x4 * e
def MK_ENGHWM (e : Nat) : Nat := 0x600300 + 0x4 * e
def MK_SCHED (e : Nat) : Nat := 0x600400 + 0x4 * e
def MK_PROGCFG (k : Nat) : Nat := 0x601000 + 0x4 * k
def MK_PROGSTAT (k : Nat) : Nat := 0x601800 + 0x4 * k

end R

namespace F

def MK_EVT_STFAIL : Field := ⟨6, 1⟩
def MK_EVT_STPASS : Field := ⟨5, 1⟩
def MK_EVT_EVDROP : Field := ⟨4, 1⟩
def MK_EVT_BADPHASE : Field := ⟨3, 1⟩
def MK_EVT_FAULT : Field := ⟨2, 1⟩
def MK_EVT_OVERRUN : Field := ⟨1, 1⟩
def MK_EVT_TRAP : Field := ⟨0, 1⟩
def MK_PROGCMD_RESTART : Field := ⟨12, 1⟩
def MK_PROGCMD_PROG : Field := ⟨0, 9⟩
def MK_EVTPOST_GO : Field := ⟨31, 1⟩
def MK_EVTPOST_NUM : Field := ⟨0, 8⟩
def MK_EVTDATA_DATA : Field := ⟨0, 32⟩
def MK_TRAP_INFO_VALID : Field := ⟨31, 1⟩
def MK_TRAP_INFO_CAUSE : Field := ⟨24, 4⟩
def MK_TRAP_INFO_PROG : Field := ⟨0, 9⟩
def MK_TRAP_PC_VALUE : Field := ⟨0, 32⟩
def MK_TRAP_ADDR_VALUE : Field := ⟨0, 32⟩
def MK_TRAP_CN_VALUE : Field := ⟨0, 32⟩
def MK_STCTL_GO : Field := ⟨31, 1⟩
def MK_STCTL_ENG : Field := ⟨0, 5⟩
def MK_STSTAT_CAUSE : Field := ⟨16, 4⟩
def MK_STSTAT_ENG : Field := ⟨8, 5⟩
def MK_STSTAT_RESULT : Field := ⟨0, 2⟩
def MK_CNT_COUNT : Field := ⟨0, 32⟩
def MK_ENGCFG_HALT : Field := ⟨8, 1⟩
def MK_ENGCFG_DWBASE : Field := ⟨0, 2⟩
def MK_ENGSTAT_EVRUN : Field := ⟨8, 1⟩
def MK_ENGSTAT_SLOT : Field := ⟨4, 4⟩
def MK_ENGSTAT_STATE : Field := ⟨0, 3⟩
def MK_ENGHWM_BUSY : Field := ⟨0, 24⟩
def MK_SCHED_GAP : Field := ⟨16, 16⟩
def MK_SCHED_FEND : Field := ⟨0, 16⟩
def MK_PROGCFG_ENABLE : Field := ⟨31, 1⟩
def MK_PROGCFG_PHASE : Field := ⟨0, 17⟩
def MK_PROGSTAT_EVPEND : Field := ⟨24, 8⟩
def MK_PROGSTAT_KIND : Field := ⟨22, 2⟩
def MK_PROGSTAT_LASTCAUSE : Field := ⟨16, 4⟩
def MK_PROGSTAT_TRAPS : Field := ⟨8, 8⟩
def MK_PROGSTAT_STATE : Field := ⟨0, 3⟩

end F

/-! ### AU registers (spec/08_audio.md) -/

namespace R

def AU_CFG : Nat := 0x700000
def AU_CFG2 : Nat := 0x700004
def AU_STAT : Nat := 0x700008
def AU_EVT : Nat := 0x70000C
def AU_LIBBASE : Nat := 0x700010
def AU_LIBSIZE : Nat := 0x700014
def AU_LIBCMD : Nat := 0x700018
def AU_LIBSTAT : Nat := 0x70001C
def AU_CLSGAIN (k : Nat) : Nat := 0x700040 + 0x4 * k
def AU_CNT (k : Nat) : Nat := 0x700080 + 0x4 * k
def AU_ZONECFG (z : Nat) : Nat := 0x700100 + 0x4 * z
def AU_ZONEAMB (z : Nat) : Nat := 0x700140 + 0x4 * z
def AU_ZONEMIC (z m : Nat) : Nat := 0x700180 + 0x8 * z + 0x4 * m
def AU_ZONESTAT (z : Nat) : Nat := 0x700200 + 0x4 * z
def AU_MIXSRC (z i : Nat) : Nat := 0x700400 + 0x40 * z + 0x4 * i
def AU_MIXCFG (z i : Nat) : Nat := 0x700800 + 0x40 * z + 0x4 * i
def AU_OUTSRC (u : Nat) : Nat := 0x701000 + 0x4 * u
def AU_LANETX (i : Nat) : Nat := 0x701400 + 0x8 * i
def AU_LANETXSRC (i : Nat) : Nat := 0x701404 + 0x8 * i
def AU_LANERX (c s w : Nat) : Nat := 0x702000 + 0x400 * c + 0x8 * (s - 8) + 0x4 * w
def AU_LANE16 (c s w : Nat) : Nat := 0x702800 + 0x400 * c + 0x8 * (s - 8) + 0x4 * w
def AU_TDMCFG (k : Nat) : Nat := 0x703000 + 0x4 * k
def AU_ANACFG (k : Nat) : Nat := 0x703040 + 0x4 * k
def AU_ECCFG (h : Nat) : Nat := 0x704000 + 0x10 * h
def AU_ECMIC (h : Nat) : Nat := 0x704004 + 0x10 * h
def AU_ECSTAT (h : Nat) : Nat := 0x704008 + 0x10 * h
def AU_PLAYCTL (j : Nat) : Nat := 0x705000 + 0x10 * j
def AU_PLAYITEM (j : Nat) : Nat := 0x705004 + 0x10 * j
def AU_PLAYCN_LO (j : Nat) : Nat := 0x705008 + 0x10 * j
def AU_PLAYCN_HI (j : Nat) : Nat := 0x70500C + 0x10 * j
def AU_PLAYSTAT (j : Nat) : Nat := 0x705100 + 0x4 * j

end R

namespace F

def AU_CFG_DUCKMS : Field := ⟨12, 10⟩
def AU_CFG_DUCKDB : Field := ⟨0, 7⟩
def AU_CFG2_RELMS : Field := ⟨16, 13⟩
def AU_CFG2_SETRATE : Field := ⟨0, 16⟩
def AU_STAT_RXLANES : Field := ⟨16, 16⟩
def AU_STAT_LIBBUSY : Field := ⟨8, 1⟩
def AU_STAT_PMUTE : Field := ⟨0, 3⟩
def AU_EVT_LATESTORE : Field := ⟨13, 1⟩
def AU_EVT_DREPEAT : Field := ⟨12, 1⟩
def AU_EVT_UNMUTE : Field := ⟨11, 1⟩
def AU_EVT_MUTE : Field := ⟨10, 1⟩
def AU_EVT_ECDIV : Field := ⟨9, 1⟩
def AU_EVT_RXLIM : Field := ⟨8, 1⟩
def AU_EVT_LIBDONE : Field := ⟨7, 1⟩
def AU_EVT_LIBERR : Field := ⟨6, 1⟩
def AU_EVT_NOPLAYER : Field := ⟨5, 1⟩
def AU_EVT_NOAUTO : Field := ⟨4, 1⟩
def AU_EVT_ZSAT : Field := ⟨3, 1⟩
def AU_EVT_CLIPOUT : Field := ⟨2, 1⟩
def AU_EVT_OUTMISS : Field := ⟨1, 1⟩
def AU_EVT_CONCEAL : Field := ⟨0, 1⟩
def AU_LIBBASE_UNITS : Field := ⟨0, 16⟩
def AU_LIBSIZE_UNITS : Field := ⟨0, 16⟩
def AU_LIBCMD_SCAN : Field := ⟨0, 1⟩
def AU_LIBSTAT_BUSY : Field := ⟨31, 1⟩
def AU_LIBSTAT_VALID : Field := ⟨16, 13⟩
def AU_LIBSTAT_BAD : Field := ⟨0, 13⟩
def AU_CLSGAIN_GAIN : Field := ⟨0, 16⟩
def AU_CNT_COUNT : Field := ⟨0, 32⟩
def AU_ZONECFG_EN : Field := ⟨31, 1⟩
def AU_ZONECFG_MUTE : Field := ⟨30, 1⟩
def AU_ZONECFG_AMBEN : Field := ⟨29, 1⟩
def AU_ZONECFG_AMBCLS : Field := ⟨16, 7⟩
def AU_ZONECFG_LEVEL : Field := ⟨0, 16⟩
def AU_ZONEAMB_AMBDLY : Field := ⟨24, 8⟩
def AU_ZONEAMB_NREF : Field := ⟨16, 8⟩
def AU_ZONEAMB_AMBMAX : Field := ⟨12, 4⟩
def AU_ZONEAMB_AMBGATE : Field := ⟨5, 7⟩
def AU_ZONEAMB_SLOPE : Field := ⟨0, 5⟩
def AU_ZONEMIC_SRC : Field := ⟨0, 32⟩
def AU_ZONESTAT_NOISE : Field := ⟨24, 8⟩
def AU_ZONESTAT_AMBGAIN : Field := ⟨16, 8⟩
def AU_ZONESTAT_IMGVALID : Field := ⟨15, 1⟩
def AU_ZONESTAT_HELD : Field := ⟨14, 1⟩
def AU_ZONESTAT_MUTED : Field := ⟨13, 1⟩
def AU_ZONESTAT_TOPCLS : Field := ⟨10, 3⟩
def AU_ZONESTAT_IMGIDX : Field := ⟨0, 10⟩
def AU_MIXSRC_SEL : Field := ⟨0, 32⟩
def AU_MIXCFG_EN : Field := ⟨31, 1⟩
def AU_MIXCFG_ACTSRC : Field := ⟨29, 2⟩
def AU_MIXCFG_ACT : Field := ⟨28, 1⟩
def AU_MIXCFG_CLASS : Field := ⟨24, 3⟩
def AU_MIXCFG_GAIN : Field := ⟨0, 16⟩
def AU_OUTSRC_SRC : Field := ⟨0, 32⟩
def AU_LANETX_EN : Field := ⟨31, 1⟩
def AU_LANETX_STREAM : Field := ⟨16, 2⟩
def AU_LANETX_LANE : Field := ⟨0, 16⟩
def AU_LANETXSRC_SEL : Field := ⟨0, 32⟩
def AU_LANERX_LANES : Field := ⟨0, 32⟩
def AU_LANE16_LANES : Field := ⟨0, 32⟩
def AU_TDMCFG_EN : Field := ⟨31, 1⟩
def AU_TDMCFG_DELAY1 : Field := ⟨11, 1⟩
def AU_TDMCFG_EDGE : Field := ⟨10, 1⟩
def AU_TDMCFG_FSPOL : Field := ⟨9, 1⟩
def AU_TDMCFG_FSW : Field := ⟨8, 1⟩
def AU_TDMCFG_DATW : Field := ⟨5, 1⟩
def AU_TDMCFG_SLOTW : Field := ⟨4, 1⟩
def AU_TDMCFG_SLOTS : Field := ⟨0, 3⟩
def AU_ANACFG_EN : Field := ⟨31, 1⟩
def AU_ANACFG_HPF : Field := ⟨4, 1⟩
def AU_ANACFG_PGA : Field := ⟨0, 3⟩
def AU_ECCFG_EN : Field := ⟨31, 1⟩
def AU_ECCFG_NLP : Field := ⟨30, 1⟩
def AU_ECCFG_CNG : Field := ⟨29, 1⟩
def AU_ECCFG_FREEZE : Field := ⟨28, 1⟩
def AU_ECCFG_TAIL : Field := ⟨16, 5⟩
def AU_ECCFG_BULK : Field := ⟨0, 10⟩
def AU_ECMIC_SEL : Field := ⟨0, 32⟩
def AU_ECSTAT_ERLE : Field := ⟨24, 8⟩
def AU_ECSTAT_DIVERGE : Field := ⟨2, 1⟩
def AU_ECSTAT_DT : Field := ⟨1, 1⟩
def AU_ECSTAT_CONV : Field := ⟨0, 1⟩
def AU_PLAYCTL_GO : Field := ⟨31, 1⟩
def AU_PLAYCTL_STOP : Field := ⟨30, 1⟩
def AU_PLAYCTL_AUTO : Field := ⟨29, 1⟩
def AU_PLAYITEM_VALUE : Field := ⟨0, 32⟩
def AU_PLAYCN_LO_VALUE : Field := ⟨0, 32⟩
def AU_PLAYCN_HI_VALUE : Field := ⟨0, 16⟩
def AU_PLAYSTAT_ANN : Field := ⟨8, 8⟩
def AU_PLAYSTAT_AUTOUSE : Field := ⟨3, 1⟩
def AU_PLAYSTAT_STATE : Field := ⟨0, 3⟩

end F

/-! ### QM registers (spec/09_queues.md) -/

namespace R

def QM_POOLCFG : Nat := 0x800000
def QM_EVT : Nat := 0x800008
def QM_QSEL : Nat := 0x800010
def QM_QDATA (k : Nat) : Nat := 0x800020 + 0x4 * k
def QM_QLEN : Nat := 0x800030
def QM_WSEL : Nat := 0x800040
def QM_WRATE : Nat := 0x800044
def QM_WBURST : Nat := 0x800048
def QM_WTOK : Nat := 0x80004C
def QM_LOGCFG : Nat := 0x800200
def QM_LOGDEST_LO : Nat := 0x800204
def QM_LOGDEST_HI : Nat := 0x800208
def QM_LOGSTAT : Nat := 0x800210
def QM_LSEQ : Nat := 0x800214
def QM_CELL (k : Nat) : Nat := 0x800100 + 0x4 * k
def QM_CNT (k : Nat) : Nat := 0x800300 + 0x4 * k
def QM_RECENT (k : Nat) : Nat := 0x800400 + 0x4 * k

end R

namespace F

def QM_POOLCFG_TABBASE : Field := ⟨16, 8⟩
def QM_POOLCFG_POOLBASE : Field := ⟨8, 8⟩
def QM_POOLCFG_POOLSIZE : Field := ⟨0, 8⟩
def QM_EVT_TRUNC : Field := ⟨8, 1⟩
def QM_EVT_REFUSED : Field := ⟨7, 1⟩
def QM_EVT_TABWR : Field := ⟨6, 1⟩
def QM_EVT_UNPERS : Field := ⟨5, 1⟩
def QM_EVT_SOVW : Field := ⟨4, 1⟩
def QM_EVT_SUMMARY : Field := ⟨3, 1⟩
def QM_EVT_SUPPR : Field := ⟨2, 1⟩
def QM_EVT_WSAT : Field := ⟨1, 1⟩
def QM_EVT_DROP : Field := ⟨0, 1⟩
def QM_QSEL_GO : Field := ⟨31, 1⟩
def QM_QSEL_RESULT : Field := ⟨28, 3⟩
def QM_QSEL_OP : Field := ⟨24, 3⟩
def QM_QSEL_QNUM : Field := ⟨0, 20⟩
def QM_QDATA_WORD : Field := ⟨0, 32⟩
def QM_QLEN_FILL : Field := ⟨0, 24⟩
def QM_WSEL_GO : Field := ⟨31, 1⟩
def QM_WSEL_OP : Field := ⟨24, 2⟩
def QM_WSEL_WNUM : Field := ⟨0, 16⟩
def QM_WRATE_RATE : Field := ⟨0, 32⟩
def QM_WBURST_BURST : Field := ⟨0, 24⟩
def QM_WTOK_TOK : Field := ⟨0, 32⟩
def QM_LOGCFG_RXEN : Field := ⟨9, 1⟩
def QM_LOGCFG_DESTSEL : Field := ⟨8, 1⟩
def QM_LOGCFG_LINECLS : Field := ⟨0, 5⟩
def QM_LOGDEST_LO_UID : Field := ⟨0, 32⟩
def QM_LOGDEST_HI_UID : Field := ⟨0, 32⟩
def QM_LOGSTAT_SUPP : Field := ⟨25, 7⟩
def QM_LOGSTAT_UNPERS : Field := ⟨16, 9⟩
def QM_LOGSTAT_SPEND : Field := ⟨0, 13⟩
def QM_LSEQ_LSEQ : Field := ⟨0, 16⟩
def QM_CELL_DATA : Field := ⟨0, 32⟩
def QM_CNT_COUNT : Field := ⟨0, 32⟩
def QM_RECENT_WORD : Field := ⟨0, 32⟩

end F

/-! ### CF registers (spec/10_configuration.md); CF_SFRST is in spec/17_safety.md -/

namespace R

def CF_STAT : Nat := 0x900000
def CF_EVT : Nat := 0x900004
def CF_CURVER : Nat := 0x900008
def CF_PREVVER : Nat := 0x90000C
def CF_CMD : Nat := 0x900010
def CF_ERR : Nat := 0x900014
def CF_SRCOFF : Nat := 0x900018
def CF_SRCLEN : Nat := 0x90001C
def CF_ACTCN_LO : Nat := 0x900020
def CF_ACTCN_HI : Nat := 0x900024
def CF_JSEQ : Nat := 0x900028
def CF_SPCMD : Nat := 0x900040
def CF_SPSTAT : Nat := 0x900044
def CF_SPCHK : Nat := 0x900048
def CF_SPCUR : Nat := 0x90004C
def CF_SPDATA (k : Nat) : Nat := 0x900080 + 0x4 * k
def CF_CNT (k : Nat) : Nat := 0x900100 + 0x4 * k
def CF_SFRST : Nat := 0x900050

end R

namespace F

def CF_STAT_BUSY : Field := ⟨31, 1⟩
def CF_STAT_ACTPEND : Field := ⟨30, 1⟩
def CF_STAT_FALLBACK : Field := ⟨29, 1⟩
def CF_STAT_NOBLEND : Field := ⟨28, 1⟩
def CF_STAT_NOKEY : Field := ⟨27, 1⟩
def CF_STAT_SPVALID : Field := ⟨26, 1⟩
def CF_STAT_PARAMPEND : Field := ⟨25, 1⟩
def CF_STAT_CURSLOT : Field := ⟨8, 1⟩
def CF_STAT_PREVSTATE : Field := ⟨4, 3⟩
def CF_STAT_CURSTATE : Field := ⟨0, 3⟩
def CF_EVT_ACTLATE : Field := ⟨9, 1⟩
def CF_EVT_SPREJ : Field := ⟨8, 1⟩
def CF_EVT_SPCONF : Field := ⟨7, 1⟩
def CF_EVT_SPPEND : Field := ⟨6, 1⟩
def CF_EVT_FALLBACK : Field := ⟨5, 1⟩
def CF_EVT_ACTIVATED : Field := ⟨4, 1⟩
def CF_EVT_ROLLBACK : Field := ⟨3, 1⟩
def CF_EVT_COMMIT : Field := ⟨2, 1⟩
def CF_EVT_STAGEFAIL : Field := ⟨1, 1⟩
def CF_EVT_STAGED : Field := ⟨0, 1⟩
def CF_CURVER_VERSION : Field := ⟨0, 32⟩
def CF_PREVVER_VERSION : Field := ⟨0, 32⟩
def CF_CMD_GO : Field := ⟨31, 1⟩
def CF_CMD_RESULT : Field := ⟨28, 3⟩
def CF_CMD_MODE : Field := ⟨8, 1⟩
def CF_CMD_OP : Field := ⟨0, 3⟩
def CF_ERR_CHECK : Field := ⟨24, 8⟩
def CF_ERR_MKCHECK : Field := ⟨16, 8⟩
def CF_ERR_DETAIL : Field := ⟨0, 16⟩
def CF_SRCOFF_VALUE : Field := ⟨0, 32⟩
def CF_SRCLEN_VALUE : Field := ⟨0, 32⟩
def CF_ACTCN_LO_CN : Field := ⟨0, 32⟩
def CF_ACTCN_HI_CN : Field := ⟨0, 16⟩
def CF_JSEQ_JSEQ : Field := ⟨0, 32⟩
def CF_SPCMD_SETPEND : Field := ⟨0, 1⟩
def CF_SPSTAT_REMAIN : Field := ⟨16, 16⟩
def CF_SPSTAT_TRIES : Field := ⟨4, 2⟩
def CF_SPSTAT_STATE : Field := ⟨0, 2⟩
def CF_SPCHK_CHECK : Field := ⟨0, 32⟩
def CF_SPCUR_CHECK : Field := ⟨0, 32⟩
def CF_SPDATA_DATA : Field := ⟨0, 32⟩
def CF_CNT_COUNT : Field := ⟨0, 32⟩
def CF_SFRST_REQ : Field := ⟨0, 1⟩

end F

/-! ### HB registers (spec/11_host_bridge.md) -/

namespace R

def HB_CFG : Nat := 0xA00000
def HB_STAT : Nat := 0xA00004
def HB_EVT : Nat := 0xA00008
def HB_DWIN : Nat := 0xA00010
def HB_IRQSTAT : Nat := 0xA00020
def HB_IRQEN : Nat := 0xA00024
def HB_IRQACK : Nat := 0xA00028
def HB_IRQMAP (i : Nat) : Nat := 0xA00030 + 0x4 * i
def HB_QSPICFG : Nat := 0xA00040
def HB_CONCFG : Nat := 0xA00044
def HB_CMDDB (k : Nat) : Nat := 0xA00100 + 0x10 * k
def HB_RSPDB (k : Nat) : Nat := 0xA00104 + 0x10 * k
def HB_RINGSTAT (k : Nat) : Nat := 0xA00108 + 0x10 * k
def HB_RINGCTL (k : Nat) : Nat := 0xA0010C + 0x10 * k
def HB_RACFG : Nat := 0xA00200
def HB_RASTAT : Nat := 0xA00204
def HB_RALAST : Nat := 0xA00208
def HB_RALASTADDR : Nat := 0xA0020C
def HB_RAWERR : Nat := 0xA00210
def HB_RPCFG (k : Nat) : Nat := 0xA00300 + 0x20 * k
def HB_RPADDR (k : Nat) : Nat := 0xA00304 + 0x20 * k
def HB_RPMIRIRQ (k : Nat) : Nat := 0xA00308 + 0x20 * k
def HB_RPMIRST (k : Nat) : Nat := 0xA0030C + 0x20 * k
def HB_RPAGE (k : Nat) : Nat := 0xA00310 + 0x20 * k
def HB_RWCFG (w : Nat) : Nat := 0xA04000 + 0x10 * w
def HB_RWID_LO (w : Nat) : Nat := 0xA04004 + 0x10 * w
def HB_RWID_HI (w : Nat) : Nat := 0xA04008 + 0x10 * w
def HB_CNT (k : Nat) : Nat := 0xA00400 + 0x4 * k

end R

namespace F

def HB_CFG_TGTWR : Field := ⟨2, 1⟩
def HB_CFG_TGTEN : Field := ⟨1, 1⟩
def HB_CFG_WLOCK : Field := ⟨0, 1⟩
def HB_STAT_CONSESS : Field := ⟨8, 1⟩
def HB_STAT_QSPIACT : Field := ⟨7, 1⟩
def HB_STAT_WIDTH : Field := ⟨4, 3⟩
def HB_STAT_SPEED : Field := ⟨2, 2⟩
def HB_STAT_LINKUP : Field := ⟨0, 1⟩
def HB_EVT_FLR : Field := ⟨8, 1⟩
def HB_EVT_PROTWR : Field := ⟨7, 1⟩
def HB_EVT_HELDLOST : Field := ⟨6, 1⟩
def HB_EVT_RPSTALE : Field := ⟨5, 1⟩
def HB_EVT_RWERR : Field := ⟨4, 1⟩
def HB_EVT_RWDROP : Field := ⟨3, 1⟩
def HB_EVT_RTMO : Field := ⟨2, 1⟩
def HB_EVT_RREFUSED : Field := ⟨1, 1⟩
def HB_EVT_RINGERR : Field := ⟨0, 1⟩
def HB_DWIN_BASE : Field := ⟨0, 12⟩
def HB_IRQSTAT_SRC : Field := ⟨0, 20⟩
def HB_IRQEN_SRC : Field := ⟨0, 20⟩
def HB_IRQACK_VEC : Field := ⟨0, 16⟩
def HB_IRQMAP_VECS : Field := ⟨0, 32⟩
def HB_QSPICFG_QUAD : Field := ⟨8, 1⟩
def HB_QSPICFG_DUMMY : Field := ⟨0, 8⟩
def HB_CONCFG_BAUD : Field := ⟨0, 3⟩
def HB_CMDDB_COUNT : Field := ⟨0, 24⟩
def HB_RSPDB_COUNT : Field := ⟨0, 24⟩
def HB_RINGSTAT_ERR : Field := ⟨31, 1⟩
def HB_RINGSTAT_BUSY : Field := ⟨30, 1⟩
def HB_RINGSTAT_DONE : Field := ⟨0, 16⟩
def HB_RINGCTL_FLUSH : Field := ⟨0, 1⟩
def HB_RACFG_TMO : Field := ⟨0, 8⟩
def HB_RASTAT_WFILL : Field := ⟨16, 7⟩
def HB_RASTAT_INBOUND : Field := ⟨8, 5⟩
def HB_RASTAT_FETCH : Field := ⟨0, 6⟩
def HB_RALAST_RESULT : Field := ⟨0, 3⟩
def HB_RALASTADDR_ADDR : Field := ⟨0, 32⟩
def HB_RAWERR_WERR : Field := ⟨0, 32⟩
def HB_RPCFG_EN : Field := ⟨31, 1⟩
def HB_RPCFG_NODE : Field := ⟨0, 10⟩
def HB_RPADDR_ADDR : Field := ⟨0, 32⟩
def HB_RPMIRIRQ_SRC : Field := ⟨0, 32⟩
def HB_RPMIRST_VALUE : Field := ⟨0, 32⟩
def HB_RPAGE_AGE : Field := ⟨0, 32⟩
def HB_RWCFG_EN : Field := ⟨31, 1⟩
def HB_RWCFG_SEL : Field := ⟨30, 1⟩
def HB_RWCFG_RBASE : Field := ⟨16, 6⟩
def HB_RWCFG_NODE : Field := ⟨0, 10⟩
def HB_RWID_LO_UID : Field := ⟨0, 32⟩
def HB_RWID_HI_UID : Field := ⟨0, 32⟩
def HB_CNT_COUNT : Field := ⟨0, 32⟩

end F

/-! ### SE registers (spec/12_security.md) -/

namespace R

def SE_STAT : Nat := 0xB00000
def SE_EVT : Nat := 0xB00004
def SE_CFG : Nat := 0xB00008
def SE_TKSTAT : Nat := 0xB0000C
def SE_LOCK (i : Nat) : Nat := 0xB00010 + 0x4 * i
def SE_CNT (k : Nat) : Nat := 0xB00080 + 0x4 * k
def SE_KEYVER (n : Nat) : Nat := 0xB00100 + 0x4 * n

end R

namespace F

def SE_STAT_SESS : Field := ⟨24, 4⟩
def SE_STAT_NOTK : Field := ⟨19, 1⟩
def SE_STAT_RETIRED : Field := ⟨18, 1⟩
def SE_STAT_PROVISIONED : Field := ⟨17, 1⟩
def SE_STAT_VALIDB : Field := ⟨16, 1⟩
def SE_STAT_PRESENT : Field := ⟨0, 16⟩
def SE_EVT_RETIRE : Field := ⟨7, 1⟩
def SE_EVT_KEYSET : Field := ⟨6, 1⟩
def SE_EVT_SESSCLOSE : Field := ⟨5, 1⟩
def SE_EVT_SESSOPEN : Field := ⟨4, 1⟩
def SE_EVT_LOCKOUT : Field := ⟨3, 1⟩
def SE_EVT_REPLAY : Field := ⟨2, 1⟩
def SE_EVT_TAGFAIL : Field := ⟨1, 1⟩
def SE_EVT_AUTHFAIL : Field := ⟨0, 1⟩
def SE_CFG_CONIDLE : Field := ⟨16, 16⟩
def SE_CFG_IDLE : Field := ⟨0, 16⟩
def SE_TKSTAT_PREV : Field := ⟨17, 1⟩
def SE_TKSTAT_VALID : Field := ⟨16, 1⟩
def SE_TKSTAT_EPOCH : Field := ⟨0, 16⟩
def SE_LOCK_REMAIN : Field := ⟨16, 16⟩
def SE_LOCK_LEVEL : Field := ⟨8, 3⟩
def SE_LOCK_FAILS : Field := ⟨0, 3⟩
def SE_CNT_COUNT : Field := ⟨0, 32⟩
def SE_KEYVER_KVER : Field := ⟨0, 32⟩

end F

/-! ### ST registers (spec/13_car_star.md) -/

namespace R

def ST_CFG : Nat := 0xC00000
def ST_CFG2 : Nat := 0xC00004
def ST_STAT : Nat := 0xC00008
def ST_EVT : Nat := 0xC0000C
def ST_EVTBR : Nat := 0xC00010
def ST_BRCFG (b : Nat) : Nat := 0xC00100 + 0x40 * b
def ST_BRCTL (b : Nat) : Nat := 0xC00104 + 0x40 * b
def ST_BRSTAT (b : Nat) : Nat := 0xC00108 + 0x40 * b
def ST_BREUID_LO (b : Nat) : Nat := 0xC0010C + 0x40 * b
def ST_BREUID_HI (b : Nat) : Nat := 0xC00110 + 0x40 * b
def ST_BRID_LO (b : Nat) : Nat := 0xC00114 + 0x40 * b
def ST_BRID_HI (b : Nat) : Nat := 0xC00118 + 0x40 * b
def ST_SLOTCFG (b : Nat) : Nat := 0xC0011C + 0x40 * b
def ST_DLLAG (b : Nat) : Nat := 0xC00120 + 0x40 * b
def ST_DLQ (b : Nat) : Nat := 0xC00124 + 0x40 * b
def ST_ULQ (b : Nat) : Nat := 0xC00128 + 0x40 * b
def ST_BRCNT (b k : Nat) : Nat := 0xC0012C + 0x40 * b + 0x4 * k
def ST_AUMAP (b d s k : Nat) : Nat := 0xC01000 + 0x200 * b + 0x100 * d + 0x20 * s + 0x4 * k

end R

namespace F

def ST_CFG_HOLDOFF : Field := ⟨16, 16⟩
def ST_CFG_PHASE : Field := ⟨0, 10⟩
def ST_CFG2_DISCTIME : Field := ⟨16, 16⟩
def ST_CFG2_LOSTN : Field := ⟨8, 8⟩
def ST_CFG2_GUARD : Field := ⟨0, 5⟩
def ST_STAT_ACT : Field := ⟨16, 16⟩
def ST_STAT_UP : Field := ⟨0, 16⟩
def ST_EVT_CHAINDROP : Field := ⟨11, 1⟩
def ST_EVT_MSGDROP : Field := ⟨10, 1⟩
def ST_EVT_NOBLOCK : Field := ⟨9, 1⟩
def ST_EVT_REJOIN : Field := ⟨8, 1⟩
def ST_EVT_NEWEP : Field := ⟨7, 1⟩
def ST_EVT_MISMATCH : Field := ⟨6, 1⟩
def ST_EVT_DISC : Field := ⟨5, 1⟩
def ST_EVT_VIOL : Field := ⟨4, 1⟩
def ST_EVT_LOST : Field := ⟨3, 1⟩
def ST_EVT_ACTIVE : Field := ⟨2, 1⟩
def ST_EVT_DOWN : Field := ⟨1, 1⟩
def ST_EVT_UP : Field := ⟨0, 1⟩
def ST_EVTBR_BR : Field := ⟨0, 16⟩
def ST_BRCFG_EN : Field := ⟨31, 1⟩
def ST_BRCFG_AUTO : Field := ⟨30, 1⟩
def ST_BRCTL_RECONNECT : Field := ⟨1, 1⟩
def ST_BRCTL_ADMIT : Field := ⟨0, 1⟩
def ST_BRSTAT_LOOPDLY : Field := ⟨16, 16⟩
def ST_BRSTAT_EKIND : Field := ⟨8, 8⟩
def ST_BRSTAT_USING : Field := ⟨7, 1⟩
def ST_BRSTAT_VCNT : Field := ⟨4, 3⟩
def ST_BRSTAT_STATE : Field := ⟨0, 4⟩
def ST_BREUID_LO_UID : Field := ⟨0, 32⟩
def ST_BREUID_HI_UID : Field := ⟨0, 32⟩
def ST_BRID_LO_UID : Field := ⟨0, 32⟩
def ST_BRID_HI_UID : Field := ⟨0, 32⟩
def ST_SLOTCFG_ULKINDS : Field := ⟨0, 16⟩
def ST_SLOTCFG_DLKINDS : Field := ⟨16, 16⟩
def ST_DLLAG_LAGS : Field := ⟨0, 32⟩
def ST_DLQ_QUEUE : Field := ⟨0, 20⟩
def ST_ULQ_QUEUE : Field := ⟨0, 20⟩
def ST_BRCNT_COUNT : Field := ⟨0, 32⟩
def ST_AUMAP_EN : Field := ⟨31, 1⟩
def ST_AUMAP_OWN : Field := ⟨30, 1⟩
def ST_AUMAP_LANE : Field := ⟨0, 16⟩

end F

/-! ### EM registers (spec/14_ethernet.md) -/

namespace R

def EM_EVT : Nat := 0xD00000
def EM_WAKESTAT : Nat := 0xD00010
def EM_WPCFG (i : Nat) : Nat := 0xD00100 + 0x20 * i
def EM_WPMASK (i k : Nat) : Nat := 0xD00104 + 0x20 * i + 0x4 * k
def EM_MACCFG (m : Nat) : Nat := 0xD01000 + 0x400 * m
def EM_MACSTAT (m : Nat) : Nat := 0xD01004 + 0x400 * m
def EM_MACEVT (m : Nat) : Nat := 0xD01008 + 0x400 * m
def EM_ADDR_LO (m : Nat) : Nat := 0xD0100C + 0x400 * m
def EM_ADDR_HI (m : Nat) : Nat := 0xD01010 + 0x400 * m
def EM_MCHASH_LO (m : Nat) : Nat := 0xD01014 + 0x400 * m
def EM_MCHASH_HI (m : Nat) : Nat := 0xD01018 + 0x400 * m
def EM_PREEMPT (m : Nat) : Nat := 0xD0101C + 0x400 * m
def EM_LAT (m : Nat) : Nat := 0xD01020 + 0x400 * m
def EM_PCPMAP (m : Nat) : Nat := 0xD01024 + 0x400 * m
def EM_RXQ (m k : Nat) : Nat := 0xD01040 + 0x400 * m + 0x4 * k
def EM_TXQ (m k : Nat) : Nat := 0xD01050 + 0x400 * m + 0x4 * k
def EM_TXCQ (m : Nat) : Nat := 0xD01058 + 0x400 * m
def EM_TXDB (m k : Nat) : Nat := 0xD01060 + 0x400 * m + 0x4 * k
def EM_RXDB (m k : Nat) : Nat := 0xD01070 + 0x400 * m + 0x4 * k
def EM_QCTL (m : Nat) : Nat := 0xD01080 + 0x400 * m
def EM_CNT (m k : Nat) : Nat := 0xD01100 + 0x400 * m + 0x4 * k

end R

namespace F

def EM_EVT_WAKE : Field := ⟨8, 1⟩
def EM_EVT_MACEVT : Field := ⟨0, 6⟩
def EM_WAKESTAT_VALID : Field := ⟨31, 1⟩
def EM_WAKESTAT_MAC : Field := ⟨8, 3⟩
def EM_WAKESTAT_PAT : Field := ⟨0, 4⟩
def EM_WPCFG_EN : Field := ⟨31, 1⟩
def EM_WPCFG_MACEN : Field := ⟨16, 6⟩
def EM_WPCFG_CRC : Field := ⟨0, 16⟩
def EM_WPMASK_MASK : Field := ⟨0, 32⟩
def EM_MACCFG_EN : Field := ⟨31, 1⟩
def EM_MACCFG_MAXLEN : Field := ⟨16, 14⟩
def EM_MACCFG_BCREJ : Field := ⟨13, 1⟩
def EM_MACCFG_MCALL : Field := ⟨12, 1⟩
def EM_MACCFG_PROMISC : Field := ⟨11, 1⟩
def EM_MACCFG_RXPAUSE : Field := ⟨9, 1⟩
def EM_MACCFG_KEEPBAD : Field := ⟨8, 1⟩
def EM_MACCFG_SPEED : Field := ⟨4, 3⟩
def EM_MACCFG_IF : Field := ⟨0, 2⟩
def EM_MACSTAT_QERR : Field := ⟨18, 6⟩
def EM_MACSTAT_PACTIVE : Field := ⟨17, 1⟩
def EM_MACSTAT_VERIFY : Field := ⟨14, 3⟩
def EM_MACSTAT_PAUSED : Field := ⟨4, 1⟩
def EM_MACSTAT_SPEED : Field := ⟨1, 3⟩
def EM_MACSTAT_LINK : Field := ⟨0, 1⟩
def EM_MACEVT_REASM : Field := ⟨7, 1⟩
def EM_MACEVT_VERIFYFAIL : Field := ⟨6, 1⟩
def EM_MACEVT_TXREMOVED : Field := ⟨5, 1⟩
def EM_MACEVT_RXDROP : Field := ⟨4, 1⟩
def EM_MACEVT_QERR : Field := ⟨3, 1⟩
def EM_MACEVT_PAUSE : Field := ⟨2, 1⟩
def EM_MACEVT_LINKDOWN : Field := ⟨1, 1⟩
def EM_MACEVT_LINKUP : Field := ⟨0, 1⟩
def EM_ADDR_LO_VALUE : Field := ⟨0, 32⟩
def EM_ADDR_HI_VALUE : Field := ⟨0, 16⟩
def EM_MCHASH_LO_VALUE : Field := ⟨0, 32⟩
def EM_MCHASH_HI_VALUE : Field := ⟨0, 32⟩
def EM_PREEMPT_EN : Field := ⟨31, 1⟩
def EM_PREEMPT_DISVERIFY : Field := ⟨30, 1⟩
def EM_PREEMPT_VERIFYMS : Field := ⟨8, 8⟩
def EM_PREEMPT_ADDFRAG : Field := ⟨0, 2⟩
def EM_LAT_TXLAT : Field := ⟨16, 16⟩
def EM_LAT_RXLAT : Field := ⟨0, 16⟩
def EM_PCPMAP_QSELS : Field := ⟨0, 16⟩
def EM_RXQ_QUEUE : Field := ⟨0, 20⟩
def EM_TXQ_QUEUE : Field := ⟨0, 20⟩
def EM_TXCQ_QUEUE : Field := ⟨0, 20⟩
def EM_TXDB_COUNT : Field := ⟨0, 24⟩
def EM_RXDB_COUNT : Field := ⟨0, 24⟩
def EM_QCTL_FLUSH : Field := ⟨0, 6⟩
def EM_CNT_COUNT : Field := ⟨0, 32⟩

end F

/-! ### CB registers (spec/15_can.md) -/

namespace R

def CB_CFG (c : Nat) : Nat := 0xE00000 + 0x10000 * c
def CB_NBT (c : Nat) : Nat := 0xE00004 + 0x10000 * c
def CB_DBT (c : Nat) : Nat := 0xE00008 + 0x10000 * c
def CB_STAT (c : Nat) : Nat := 0xE0000C + 0x10000 * c
def CB_EVT (c : Nat) : Nat := 0xE00010 + 0x10000 * c
def CB_CTL (c : Nat) : Nat := 0xE00014 + 0x10000 * c
def CB_RXQ (c : Nat) : Nat := 0xE00018 + 0x10000 * c
def CB_TXQ0 (c : Nat) : Nat := 0xE0001C + 0x10000 * c
def CB_TXQ1 (c : Nat) : Nat := 0xE00020 + 0x10000 * c
def CB_TXCQ (c : Nat) : Nat := 0xE00024 + 0x10000 * c
def CB_TXDB (c k : Nat) : Nat := 0xE00028 + 0x10000 * c + 0x4 * k
def CB_RXDB (c : Nat) : Nat := 0xE00030 + 0x10000 * c
def CB_TTCFG (c : Nat) : Nat := 0xE00040 + 0x10000 * c
def CB_TTREF (c : Nat) : Nat := 0xE00044 + 0x10000 * c
def CB_TTSTAT (c : Nat) : Nat := 0xE00048 + 0x10000 * c
def CB_TTREFID (c : Nat) : Nat := 0xE0004C + 0x10000 * c
def CB_TTCOL (c j : Nat) : Nat := 0xE00104 + 0x10000 * c + 0x4 * (j - 1)
def CB_CNT (c k : Nat) : Nat := 0xE00200 + 0x10000 * c + 0x4 * k
def CB_TTMAT (c k j : Nat) : Nat := 0xE01000 + 0x10000 * c + 0x100 * k + 0x4 * j
def CB_OBJCFG (c o : Nat) : Nat := 0xE08000 + 0x10000 * c + 0x4 * o
def CB_WAKECFG : Nat := 0xE3F000
def CB_WAKESTAT : Nat := 0xE3F004
def CB_WFILT (c i k : Nat) : Nat := 0xE3F100 + 0x80 * c + 0x20 * i + 0x4 * k

end R

namespace F

def CB_CFG_EN : Field := ⟨31, 1⟩
def CB_CFG_TTEN : Field := ⟨8, 1⟩
def CB_CFG_NOACKABORT : Field := ⟨7, 1⟩
def CB_CFG_AUTOREC : Field := ⟨6, 1⟩
def CB_CFG_PEXEN : Field := ⟨5, 1⟩
def CB_CFG_FDEN : Field := ⟨4, 1⟩
def CB_CFG_MODE : Field := ⟨0, 2⟩
def CB_NBT_SJW : Field := ⟨24, 7⟩
def CB_NBT_TSEG2 : Field := ⟨16, 7⟩
def CB_NBT_TSEG1 : Field := ⟨8, 8⟩
def CB_NBT_BRP : Field := ⟨0, 8⟩
def CB_DBT_TDCEN : Field := ⟨31, 1⟩
def CB_DBT_TDCO : Field := ⟨24, 7⟩
def CB_DBT_SJW : Field := ⟨20, 4⟩
def CB_DBT_TSEG2 : Field := ⟨16, 4⟩
def CB_DBT_TSEG1 : Field := ⟨8, 5⟩
def CB_DBT_BRP : Field := ⟨0, 5⟩
def CB_STAT_TEC : Field := ⟨24, 8⟩
def CB_STAT_REC : Field := ⟨16, 8⟩
def CB_STAT_TDCV : Field := ⟨9, 7⟩
def CB_STAT_NOACK : Field := ⟨8, 1⟩
def CB_STAT_SLEEP : Field := ⟨7, 1⟩
def CB_STAT_RECOV : Field := ⟨6, 1⟩
def CB_STAT_STATE : Field := ⟨0, 2⟩
def CB_EVT_TTLOSS : Field := ⟨10, 1⟩
def CB_EVT_PEX : Field := ⟨9, 1⟩
def CB_EVT_LOCKTMO : Field := ⟨8, 1⟩
def CB_EVT_LOCKBRK : Field := ⟨7, 1⟩
def CB_EVT_WAKE : Field := ⟨6, 1⟩
def CB_EVT_TDCSAT : Field := ⟨5, 1⟩
def CB_EVT_NOACK : Field := ⟨4, 1⟩
def CB_EVT_BUSOFF : Field := ⟨3, 1⟩
def CB_EVT_EPASS : Field := ⟨2, 1⟩
def CB_EVT_EACTIVE : Field := ⟨1, 1⟩
def CB_EVT_RXDROP : Field := ⟨0, 1⟩
def CB_CTL_ABORT : Field := ⟨3, 1⟩
def CB_CTL_WAKE : Field := ⟨2, 1⟩
def CB_CTL_SLEEP : Field := ⟨1, 1⟩
def CB_CTL_RECOVER : Field := ⟨0, 1⟩
def CB_RXQ_QUEUE : Field := ⟨0, 20⟩
def CB_TXQ0_QUEUE : Field := ⟨0, 20⟩
def CB_TXQ1_QUEUE : Field := ⟨0, 20⟩
def CB_TXCQ_QUEUE : Field := ⟨0, 20⟩
def CB_TXDB_COUNT : Field := ⟨0, 24⟩
def CB_RXDB_COUNT : Field := ⟨0, 24⟩
def CB_TTCFG_MASTER : Field := ⟨31, 1⟩
def CB_TTCFG_PRIO : Field := ⟨28, 3⟩
def CB_TTCFG_NCOL : Field := ⟨22, 6⟩
def CB_TTCFG_NBC : Field := ⟨16, 6⟩
def CB_TTCFG_BCLEN : Field := ⟨8, 8⟩
def CB_TTREF_TTPHASE : Field := ⟨0, 17⟩
def CB_TTSTAT_TTSTOP : Field := ⟨31, 1⟩
def CB_TTSTAT_CURPRIO : Field := ⟨8, 3⟩
def CB_TTSTAT_CYCLE : Field := ⟨0, 6⟩
def CB_TTREFID_IDE : Field := ⟨29, 1⟩
def CB_TTREFID_ID : Field := ⟨0, 29⟩
def CB_TTCOL_START : Field := ⟨0, 25⟩
def CB_CNT_COUNT : Field := ⟨0, 32⟩
def CB_TTMAT_TYPE : Field := ⟨30, 2⟩
def CB_TTMAT_QUEUE : Field := ⟨0, 20⟩
def CB_OBJCFG_EN : Field := ⟨31, 1⟩
def CB_OBJCFG_MIRROR : Field := ⟨30, 1⟩
def CB_OBJCFG_IDE : Field := ⟨29, 1⟩
def CB_OBJCFG_ID : Field := ⟨0, 29⟩
def CB_WAKECFG_DOMUS : Field := ⟨8, 5⟩
def CB_WAKECFG_WEDGE : Field := ⟨0, 4⟩
def CB_WAKESTAT_VALID : Field := ⟨31, 1⟩
def CB_WAKESTAT_CTRL : Field := ⟨4, 2⟩
def CB_WAKESTAT_FILT : Field := ⟨0, 2⟩
def CB_WFILT_WORD : Field := ⟨0, 32⟩

end F

/-! ### PW registers (spec/16_power_sleep.md) -/

namespace R

def PW_STAT : Nat := 0xF00000
def PW_EVT : Nat := 0xF00004
def PW_CTL : Nat := 0xF00008
def PW_RSTSTAT : Nat := 0xF0000C
def PW_WAKECFG : Nat := 0xF00010
def PW_WAKEPOL : Nat := 0xF00014
def PW_WAKESRC : Nat := 0xF00018
def PW_ALARM_LO : Nat := 0xF00020
def PW_ALARM_HI : Nat := 0xF00024
def PW_SLOW_LO : Nat := 0xF00028
def PW_SLOW_HI : Nat := 0xF0002C
def PW_SLEEPCFG : Nat := 0xF00030
def PW_ROUNDCFG : Nat := 0xF00034
def PW_VETO : Nat := 0xF00038
def PW_ROUNDSTAT : Nat := 0xF0003C
def PW_ROUNDSTAT2 : Nat := 0xF00040
def PW_PARKCN_LO : Nat := 0xF00044
def PW_PARKCN_HI : Nat := 0xF00048
def PW_HOLDCFG : Nat := 0xF00050
def PW_HOLDSTAT : Nat := 0xF00054
def PW_WDCFG : Nat := 0xF00058
def PW_CNT (k : Nat) : Nat := 0xF00080 + 0x4 * k

end R

namespace F

def PW_STAT_VHOLD : Field := ⟨4, 8⟩
def PW_STAT_LOWBAT : Field := ⟨3, 1⟩
def PW_STAT_STATE : Field := ⟨0, 3⟩
def PW_EVT_GASPRX : Field := ⟨6, 1⟩
def PW_EVT_REFUSED : Field := ⟨5, 1⟩
def PW_EVT_CANCELLED : Field := ⟨4, 1⟩
def PW_EVT_PARKPEND : Field := ⟨3, 1⟩
def PW_EVT_ROUNDFAIL : Field := ⟨2, 1⟩
def PW_EVT_HOLDLOW : Field := ⟨1, 1⟩
def PW_EVT_WAKE : Field := ⟨0, 1⟩
def PW_CTL_RESET : Field := ⟨7, 1⟩
def PW_CTL_CANCEL : Field := ⟨6, 1⟩
def PW_CTL_ROUND : Field := ⟨5, 1⟩
def PW_CTL_TARGET : Field := ⟨0, 3⟩
def PW_RSTSTAT_WDCNT : Field := ⟨6, 2⟩
def PW_RSTSTAT_WDSTOP : Field := ⟨5, 1⟩
def PW_RSTSTAT_BKLOST : Field := ⟨4, 1⟩
def PW_RSTSTAT_KIND : Field := ⟨0, 3⟩
def PW_WAKECFG_LHEN : Field := ⟨9, 1⟩
def PW_WAKECFG_TONEOUT : Field := ⟨8, 1⟩
def PW_WAKECFG_ALMEN : Field := ⟨7, 1⟩
def PW_WAKECFG_PINEN : Field := ⟨0, 4⟩
def PW_WAKEPOL_PINPOL : Field := ⟨0, 4⟩
def PW_WAKESRC_FIRST : Field := ⟨16, 4⟩
def PW_WAKESRC_VALID : Field := ⟨15, 1⟩
def PW_WAKESRC_ALL : Field := ⟨0, 10⟩
def PW_ALARM_LO_VALUE : Field := ⟨0, 32⟩
def PW_ALARM_HI_VALUE : Field := ⟨0, 16⟩
def PW_SLOW_LO_VALUE : Field := ⟨0, 32⟩
def PW_SLOW_HI_VALUE : Field := ⟨0, 16⟩
def PW_SLEEPCFG_ALONE : Field := ⟨16, 16⟩
def PW_SLEEPCFG_TMR : Field := ⟨4, 12⟩
def PW_SLEEPCFG_DOZEONLY : Field := ⟨2, 1⟩
def PW_SLEEPCFG_TARGET : Field := ⟨1, 1⟩
def PW_SLEEPCFG_AUTH : Field := ⟨0, 1⟩
def PW_ROUNDCFG_RETRY : Field := ⟨16, 16⟩
def PW_ROUNDCFG_NOTICE : Field := ⟨0, 16⟩
def PW_VETO_MAINT : Field := ⟨3, 1⟩
def PW_VETO_DATA : Field := ⟨2, 1⟩
def PW_VETO_USER : Field := ⟨1, 1⟩
def PW_VETO_INTERCOM : Field := ⟨0, 1⟩
def PW_ROUNDSTAT_UNODE : Field := ⟨16, 16⟩
def PW_ROUNDSTAT_UREASON : Field := ⟨8, 8⟩
def PW_ROUNDSTAT_RESULT : Field := ⟨0, 3⟩
def PW_ROUNDSTAT2_MNODE : Field := ⟨16, 16⟩
def PW_ROUNDSTAT2_MREASON : Field := ⟨8, 8⟩
def PW_ROUNDSTAT2_RSEQLO : Field := ⟨0, 8⟩
def PW_PARKCN_LO_CN : Field := ⟨0, 32⟩
def PW_PARKCN_HI_CN : Field := ⟨0, 32⟩
def PW_HOLDCFG_EN : Field := ⟨31, 1⟩
def PW_HOLDCFG_VPF : Field := ⟨0, 6⟩
def PW_HOLDSTAT_BKPRES : Field := ⟨2, 1⟩
def PW_HOLDSTAT_HOLDOK : Field := ⟨1, 1⟩
def PW_HOLDSTAT_PFAIL : Field := ⟨0, 1⟩
def PW_WDCFG_EN : Field := ⟨31, 1⟩
def PW_WDCFG_WDTIME : Field := ⟨0, 16⟩
def PW_CNT_COUNT : Field := ⟨0, 32⟩

end F

/-! ### SF registers (spec/17_safety.md) -/

namespace R

def SF_STAT : Nat := 0x1000000
def SF_EVT : Nat := 0x1000004
def SF_LOCK : Nat := 0x1000008
def SF_PAIRSTAT : Nat := 0x100000C
def SF_CONTACT : Nat := 0x1000010
def SF_OUTSTAT : Nat := 0x1000014
def SF_SPVER : Nat := 0x1000018
def SF_SPCHK : Nat := 0x100001C
def SF_LINESTAT : Nat := 0x1000020
def SF_LINECN : Nat := 0x1000024
def SF_VBAT : Nat := 0x1000028
def SF_RSTSTAT : Nat := 0x100002C
def SF_DIAG : Nat := 0x1000030
def SF_CNT (k : Nat) : Nat := 0x1000040 + 0x4 * k
def SF_MON (n : Nat) : Nat := 0x1001000 + 0x4 * (n - 1)

end R

namespace F

def SF_STAT_LOCKOUT : Field := ⟨31, 1⟩
def SF_STAT_NOBLOCK : Field := ⟨30, 1⟩
def SF_STAT_UVLO : Field := ⟨29, 1⟩
def SF_STAT_STARTUP : Field := ⟨28, 1⟩
def SF_STAT_LINETRIP : Field := ⟨27, 1⟩
def SF_STAT_LINEMON : Field := ⟨26, 1⟩
def SF_STAT_PUBLISH : Field := ⟨25, 1⟩
def SF_STAT_RSTPEND : Field := ⟨24, 1⟩
def SF_STAT_TRIPPED : Field := ⟨16, 8⟩
def SF_STAT_INUSE : Field := ⟨8, 8⟩
def SF_STAT_OUT1ON : Field := ⟨1, 1⟩
def SF_STAT_OUT0ON : Field := ⟨0, 1⟩
def SF_EVT_SINGLE : Field := ⟨11, 1⟩
def SF_EVT_UVLO : Field := ⟨10, 1⟩
def SF_EVT_PARAM : Field := ⟨9, 1⟩
def SF_EVT_DEPART : Field := ⟨8, 1⟩
def SF_EVT_TIMEOUT : Field := ⟨7, 1⟩
def SF_EVT_LINECLR : Field := ⟨6, 1⟩
def SF_EVT_LINETRIP : Field := ⟨5, 1⟩
def SF_EVT_RSTREJ : Field := ⟨4, 1⟩
def SF_EVT_LOCKCLR : Field := ⟨3, 1⟩
def SF_EVT_LOCKOUT : Field := ⟨2, 1⟩
def SF_EVT_RELEASE : Field := ⟨1, 1⟩
def SF_EVT_TRIP : Field := ⟨0, 1⟩
def SF_LOCK_CNLO : Field := ⟨16, 16⟩
def SF_LOCK_DETAIL : Field := ⟨8, 8⟩
def SF_LOCK_CAUSE : Field := ⟨0, 4⟩
def SF_PAIRSTAT_PAIRS : Field := ⟨0, 32⟩
def SF_CONTACT_OPER : Field := ⟨0, 16⟩
def SF_CONTACT_TPERR : Field := ⟨16, 16⟩
def SF_OUTSTAT_OUTS : Field := ⟨0, 32⟩
def SF_SPVER_VALUE : Field := ⟨0, 32⟩
def SF_SPCHK_VALUE : Field := ⟨0, 32⟩
def SF_LINESTAT_MON : Field := ⟨22, 10⟩
def SF_LINESTAT_TMO : Field := ⟨12, 10⟩
def SF_LINESTAT_FIRST : Field := ⟨0, 10⟩
def SF_LINECN_CNLO : Field := ⟨16, 16⟩
def SF_LINECN_REASON : Field := ⟨0, 8⟩
def SF_VBAT_MV10 : Field := ⟨0, 16⟩
def SF_RSTSTAT_CNLO : Field := ⟨16, 16⟩
def SF_RSTSTAT_REJECT : Field := ⟨4, 4⟩
def SF_RSTSTAT_SRC : Field := ⟨0, 2⟩
def SF_DIAG_TEST : Field := ⟨0, 8⟩
def SF_CNT_COUNT : Field := ⟨0, 32⟩
def SF_MON_MON : Field := ⟨31, 1⟩
def SF_MON_TMO : Field := ⟨30, 1⟩
def SF_MON_TRIP : Field := ⟨29, 1⟩
def SF_MON_LOCKOUT : Field := ⟨28, 1⟩
def SF_MON_SEQ : Field := ⟨8, 8⟩
def SF_MON_AGE : Field := ⟨0, 8⟩

end F

/-! ### LS registers (spec/18_load_switches.md) -/

namespace R

def LS_STAT : Nat := 0x1100000
def LS_EVT : Nat := 0x1100004
def LS_CTL : Nat := 0x1100008
def LS_SENSECFG : Nat := 0x110000C
def LS_TOTAL : Nat := 0x1100010
def LS_LHMASK : Nat := 0x1100014
def LS_CHCFG (n : Nat) : Nat := 0x1100100 + 0x4 * n
def LS_CHSTAT (n : Nat) : Nat := 0x1100180 + 0x4 * n
def LS_CURR (n : Nat) : Nat := 0x1100200 + 0x4 * n
def LS_CNT (k : Nat) : Nat := 0x1100300 + 0x4 * k

end R

namespace F

def LS_STAT_VSWUV : Field := ⟨17, 1⟩
def LS_STAT_LHOME : Field := ⟨16, 1⟩
def LS_STAT_ON : Field := ⟨0, 12⟩
def LS_EVT_LHOFF : Field := ⟨6, 1⟩
def LS_EVT_LHON : Field := ⟨5, 1⟩
def LS_EVT_VSWUV : Field := ⟨4, 1⟩
def LS_EVT_SHED : Field := ⟨3, 1⟩
def LS_EVT_OPEN : Field := ⟨2, 1⟩
def LS_EVT_LATCH : Field := ⟨1, 1⟩
def LS_EVT_FAIL : Field := ⟨0, 1⟩
def LS_CTL_CLR : Field := ⟨0, 12⟩
def LS_SENSECFG_SELS : Field := ⟨0, 6⟩
def LS_TOTAL_MA : Field := ⟨0, 16⟩
def LS_LHMASK_MASK : Field := ⟨0, 12⟩
def LS_CHCFG_NLATCH : Field := ⟨8, 4⟩
def LS_CHCFG_OLEN : Field := ⟨2, 1⟩
def LS_CHCFG_SRC : Field := ⟨1, 1⟩
def LS_CHCFG_ON : Field := ⟨0, 1⟩
def LS_CHSTAT_PAUSE : Field := ⟨16, 16⟩
def LS_CHSTAT_F : Field := ⟨12, 4⟩
def LS_CHSTAT_OPEN : Field := ⟨8, 1⟩
def LS_CHSTAT_LH : Field := ⟨7, 1⟩
def LS_CHSTAT_DEMAND : Field := ⟨6, 1⟩
def LS_CHSTAT_ROW : Field := ⟨3, 3⟩
def LS_CHSTAT_STATE : Field := ⟨0, 3⟩
def LS_CURR_MA : Field := ⟨0, 16⟩
def LS_CNT_COUNT : Field := ⟨0, 32⟩

end F

end Sys2Proof.Machine
end

