-- ==== Sys2Proof/Machine/RegTable.lean ====
section
/-! DEFINITION. The access types and reset values of every register (Table SC-6 and the "Access:" and "Reset:"
lines of the register sections), one row per register or register array, by block of Table SC-5. -/

namespace Sys2Proof.Machine

/-- One register, or one array of registers: where it lies, what it holds after reset, and which of its bits
have which access type of Table SC-6.  A bit in no mask is RO or reserved. -/
structure RegSpec where
  /-- address of the first register -/
  base : Nat
  /-- stride and count of each index, the largest stride first -/
  dims : List (Nat × Nat)
  /-- the value after reset -/
  reset : Nat
  rw : Nat := 0
  rws : Nat := 0
  w1c : Nat := 0
  rc : Nat := 0
  wo : Nat := 0
  deriving DecidableEq, Repr

/-- The AC registers. -/
def regsAc : List RegSpec := [
  -- AC_PARTID
  { base := 0x0, dims := [], reset := 0xE5D8400 },
  -- AC_REVID
  { base := 0x4, dims := [], reset := 0x6A1 },
  -- AC_UID_LO
  { base := 0x8, dims := [], reset := 0x0 },
  -- AC_UID_HI
  { base := 0xC, dims := [], reset := 0x0 },
  -- AC_SHADOWSTAT
  { base := 0x40, dims := [], reset := 0x0, w1c := 0x80000000 },
  -- AC_IMGCTL
  { base := 0x50, dims := [], reset := 0x0, rw := 0x1 },
  -- AC_IMGSTAT
  { base := 0x54, dims := [], reset := 0x0, w1c := 0x8 },
  -- AC_HEALTHSUM
  { base := 0x80, dims := [], reset := 0x0, w1c := 0xFF0000 },
  -- AC_DIEHEALTH[n]
  { base := 0x100, dims := [(0x4, 8)], reset := 0x0 }
]

/-- The TB registers. -/
def regsTb : List RegSpec := [
  -- TB_CFG
  { base := 0x100000, dims := [], reset := 0x12C6440, rws := 0x3FFFFF7 },
  -- TB_STAT
  { base := 0x100004, dims := [], reset := 0x0 },
  -- TB_EVT
  { base := 0x100008, dims := [], reset := 0x0, w1c := 0x3FF },
  -- TB_ROOTADJ
  { base := 0x10000C, dims := [], reset := 0x0, rws := 0xFFFFFFFF },
  -- TB_INCR_LO
  { base := 0x100010, dims := [], reset := 0x0 },
  -- TB_INCR_HI
  { base := 0x100014, dims := [], reset := 0x2 },
  -- TB_OFFSET
  { base := 0x100018, dims := [], reset := 0x0 },
  -- TB_RATIO
  { base := 0x10001C, dims := [], reset := 0x0 },
  -- TB_NOW_NS
  { base := 0x100020, dims := [], reset := 0x0 },
  -- TB_NOW_CNLO
  { base := 0x100024, dims := [], reset := 0x0 },
  -- TB_NOW_CNHI
  { base := 0x100028, dims := [], reset := 0x0 },
  -- TB_WRAPCNT
  { base := 0x100040, dims := [], reset := 0x0 },
  -- TB_WRAPCN_LO
  { base := 0x100044, dims := [], reset := 0x0 },
  -- TB_WRAPCN_HI
  { base := 0x100048, dims := [], reset := 0x0 },
  -- TB_LINKDLY[p]
  { base := 0x100080, dims := [(0x4, 4)], reset := 0x0 },
  -- TB_TRIGPH[k]
  { base := 0x100100, dims := [(0x4, 10)], reset := 0x0, rws := 0x1FFFF },
  -- TB_CNT[k]
  { base := 0x100180, dims := [(0x4, 7)], reset := 0x0, rc := 0xFFFFFFFF },
  -- TB_TOUTCTL[i]
  { base := 0x100200, dims := [(0x20, 4)], reset := 0x0, rw := 0x7 },
  -- TB_TOUTCN_LO[i]
  { base := 0x100204, dims := [(0x20, 4)], reset := 0x0, rw := 0xFFFFFFFF },
  -- TB_TOUTCN_HI[i]
  { base := 0x100208, dims := [(0x20, 4)], reset := 0x0, rw := 0xFFFF },
  -- TB_TOUTOFF[i]
  { base := 0x10020C, dims := [(0x20, 4)], reset := 0x0, rw := 0xFFFFFFFF },
  -- TB_TOUTPER[i]
  { base := 0x100210, dims := [(0x20, 4)], reset := 0x0, rw := 0xFFFFFFFF },
  -- TB_TOUTWID[i]
  { base := 0x100214, dims := [(0x20, 4)], reset := 0x0, rw := 0xFFFFFFFF },
  -- TB_TOUTSTAT[i]
  { base := 0x100218, dims := [(0x20, 4)], reset := 0x0, w1c := 0xF },
  -- TB_TCAPCFG[i]
  { base := 0x100300, dims := [(0x10, 4)], reset := 0x0, rw := 0x7 },
  -- TB_TCAPSTAT[i]
  { base := 0x100304, dims := [(0x10, 4)], reset := 0x0, w1c := 0x300 },
  -- TB_TCAP_HI[i]
  { base := 0x100308, dims := [(0x10, 4)], reset := 0x0 },
  -- TB_TCAP_LO[i]
  { base := 0x10030C, dims := [(0x10, 4)], reset := 0x0 }
]

/-- The LP registers. -/
def regsLp : List RegSpec := [
  -- LP_PORTCFG[p]
  { base := 0x200000, dims := [(0x80000, 2), (0x1000, 2)], reset := 0x9, rws := 0xF },
  -- LP_PORTSTAT[p]
  { base := 0x200004, dims := [(0x80000, 2), (0x1000, 2)], reset := 0x0 },
  -- LP_PORTEVT[p]
  { base := 0x200008, dims := [(0x80000, 2), (0x1000, 2)], reset := 0x0, w1c := 0x3FF },
  -- LP_PARTNERID_LO[p]
  { base := 0x200010, dims := [(0x80000, 2), (0x1000, 2)], reset := 0x0 },
  -- LP_PARTNERID_HI[p]
  { base := 0x200014, dims := [(0x80000, 2), (0x1000, 2)], reset := 0x0 },
  -- LP_PARTNERPORT[p]
  { base := 0x200018, dims := [(0x80000, 2), (0x1000, 2)], reset := 0x0 },
  -- LP_CNT[p][k]
  { base := 0x200040, dims := [(0x80000, 2), (0x1000, 2), (0x4, 9)], reset := 0x0, rc := 0xFFFFFFFF },
  -- LP_ASYMTX[p]
  { base := 0x200080, dims := [(0x80000, 2), (0x1000, 2)], reset := 0x0, rws := 0xFFFFFF },
  -- LP_ASYMRX[p]
  { base := 0x200084, dims := [(0x80000, 2), (0x1000, 2)], reset := 0x0, rws := 0xFFFFFF },
  -- LP_CSFIN_NS[p]
  { base := 0x2000C0, dims := [(0x80000, 2), (0x1000, 2)], reset := 0x0 },
  -- LP_CSFOUT_NS[p]
  { base := 0x2000C8, dims := [(0x80000, 2), (0x1000, 2)], reset := 0x0 },
  -- LP_CSFIN_EXT[p]
  { base := 0x2000C4, dims := [(0x80000, 2), (0x1000, 2)], reset := 0x0 },
  -- LP_CSFOUT_EXT[p]
  { base := 0x2000CC, dims := [(0x80000, 2), (0x1000, 2)], reset := 0x0 },
  -- LP_WAKECFG
  { base := 0x20F000, dims := [], reset := 0xFF, rw := 0xFF },
  -- LP_WAKESTAT
  { base := 0x20F004, dims := [], reset := 0x0, w1c := 0x90 }
]

/-- The LC registers. -/
def regsLc : List RegSpec := [
  -- LC_CFG[c]
  { base := 0x300000, dims := [(0x80000, 2)], reset := 0x100222, rws := 0x3F0FFF },
  -- LC_STAT[c]
  { base := 0x300004, dims := [(0x80000, 2)], reset := 0x0 },
  -- LC_PRES[c]
  { base := 0x300008, dims := [(0x80000, 2)], reset := 0x0 },
  -- LC_LAP[c]
  { base := 0x30000C, dims := [(0x80000, 2)], reset := 0x0 },
  -- LC_ROSTERTX0[c]
  { base := 0x300010, dims := [(0x80000, 2)], reset := 0x0, rws := 0xFFFFFFFF },
  -- LC_ROSTERTX1[c]
  { base := 0x300014, dims := [(0x80000, 2)], reset := 0x0, rws := 0xFFFFFF00 },
  -- LC_SLUICECFG[c]
  { base := 0x300020, dims := [(0x80000, 2)], reset := 0x1F400008, rw := 0xFFFF000F },
  -- LC_SLUICESTAT[c]
  { base := 0x300024, dims := [(0x80000, 2)], reset := 0x0, w1c := 0x3 },
  -- LC_EVT[c]
  { base := 0x300028, dims := [(0x80000, 2)], reset := 0x0, w1c := 0xFFF },
  -- LC_SLOTCFG (s = 0 to 7 read 0) [c][s]
  { base := 0x300100, dims := [(0x80000, 2), (0x4, 8)], reset := 0x0 },
  -- LC_SLOTCFG[c][s]
  { base := 0x300120, dims := [(0x80000, 2), (0x4, 72)], reset := 0x0, rws := 0x13 },
  -- LC_LANEMODE[c][s][w]
  { base := 0x301080, dims := [(0x80000, 2), (0x10, 72), (0x4, 3)], reset := 0x0, rws := 0xFFFFFFFF },
  -- LC_LANEMODE (w = 3: lanes 60 to 63 reserved) [c][s][w]
  { base := 0x30108C, dims := [(0x80000, 2), (0x10, 72)], reset := 0x0, rws := 0xFFFFFF },
  -- LC_CNT[c][k]
  { base := 0x300400, dims := [(0x80000, 2), (0x4, 19)], reset := 0x0, rc := 0xFFFFFFFF }
]

/-- The IN registers. -/
def regsIn : List RegSpec := [
  -- IN_CFG
  { base := 0x400000, dims := [], reset := 0x1F41040, rw := 0xFFFFFFF0 },
  -- IN_LOCAL
  { base := 0x400004, dims := [], reset := 0x0, rw := 0x3 },
  -- IN_STAT
  { base := 0x400008, dims := [], reset := 0x0 },
  -- IN_EPOCH
  { base := 0x40000C, dims := [], reset := 0x0 },
  -- IN_TDOM_LO
  { base := 0x400010, dims := [], reset := 0x0 },
  -- IN_TDOM_HI
  { base := 0x400014, dims := [], reset := 0x0 },
  -- IN_EPOCHCN_LO
  { base := 0x400018, dims := [], reset := 0x0 },
  -- IN_EPOCHCN_HI
  { base := 0x40001C, dims := [], reset := 0x0 },
  -- IN_EVT
  { base := 0x400020, dims := [], reset := 0x0, w1c := 0x1FF },
  -- IN_SEQCFG
  { base := 0x400024, dims := [], reset := 0x402000, rw := 0xFFFF0F },
  -- IN_PROPCTL
  { base := 0x400040, dims := [], reset := 0x0, rw := 0xFFFFFE73 },
  -- IN_PROPSTAT
  { base := 0x400044, dims := [], reset := 0x0 },
  -- IN_PROPDATA[k]
  { base := 0x400080, dims := [(0x4, 8)], reset := 0x0, rw := 0xFFFFFFFF },
  -- IN_CNT[k]
  { base := 0x400100, dims := [(0x4, 12)], reset := 0x0, rc := 0xFFFFFFFF }
]

/-- The DU registers. -/
def regsDu : List RegSpec := [
  -- DU_CFG
  { base := 0x500000, dims := [], reset := 0x0, rw := 0x13 },
  -- DU_STAT
  { base := 0x500004, dims := [], reset := 0x0 },
  -- DU_EVT
  { base := 0x500008, dims := [], reset := 0x0, w1c := 0x7FFF },
  -- DU_MOVECRC
  { base := 0x50000C, dims := [], reset := 0x0 },
  -- DU_MOVEQ
  { base := 0x500010, dims := [], reset := 0x0, rw := 0x1FFF8 },
  -- DU_PAIRCFG
  { base := 0x500100, dims := [], reset := 0xA08, rws := 0xFF0F },
  -- DU_PAIRID_LO
  { base := 0x500104, dims := [], reset := 0x0, rws := 0xFFFFFFFF },
  -- DU_PAIRID_HI
  { base := 0x500108, dims := [], reset := 0x0, rws := 0xFFFFFFFF },
  -- DU_ARBID_LO
  { base := 0x50010C, dims := [], reset := 0x0, rws := 0xFFFFFFFF },
  -- DU_ARBID_HI
  { base := 0x500110, dims := [], reset := 0x0, rws := 0xFFFFFFFF },
  -- DU_PAIRCTL
  { base := 0x500114, dims := [], reset := 0x0, wo := 0x3 },
  -- DU_PAIRSTAT
  { base := 0x500118, dims := [], reset := 0x0 },
  -- DU_HEALTH
  { base := 0x500120, dims := [], reset := 0x0 },
  -- DU_PPSTAT
  { base := 0x500124, dims := [], reset := 0x0 },
  -- DU_CKBASE[k]
  { base := 0x500200, dims := [(0x8, 16)], reset := 0x0, rws := 0xC3FFFFFF },
  -- DU_CKLEN[k]
  { base := 0x500204, dims := [(0x8, 16)], reset := 0x0, rws := 0xC3FFFFFF },
  -- DU_CNT[k]
  { base := 0x500300, dims := [(0x4, 12)], reset := 0x0, rc := 0xFFFFFFFF },
  -- DU_LANECLS[c][s][w]
  { base := 0x504000, dims := [(0x1000, 2), (0x20, 72), (0x4, 7)], reset := 0x0, rws := 0xFFFFFFFF },
  -- DU_LANECLS (w = 7: lanes 60 to 63 reserved) [c][s][w]
  { base := 0x50401C, dims := [(0x1000, 2), (0x20, 72)], reset := 0x0, rws := 0xFFFF }
]

/-- The MK registers. -/
def regsMk : List RegSpec := [
  -- MK_EVT
  { base := 0x600008, dims := [], reset := 0x0, w1c := 0x7F },
  -- MK_PROGCMD
  { base := 0x600010, dims := [], reset := 0x0, wo := 0x11FF },
  -- MK_EVTPOST
  { base := 0x600014, dims := [], reset := 0x0, wo := 0x800000FF },
  -- MK_EVTDATA
  { base := 0x600018, dims := [], reset := 0x0, rw := 0xFFFFFFFF },
  -- MK_TRAP_INFO
  { base := 0x600020, dims := [], reset := 0x0, w1c := 0x80000000 },
  -- MK_TRAP_PC
  { base := 0x600024, dims := [], reset := 0x0 },
  -- MK_TRAP_ADDR
  { base := 0x600028, dims := [], reset := 0x0 },
  -- MK_TRAP_CN
  { base := 0x60002C, dims := [], reset := 0x0 },
  -- MK_STCTL
  { base := 0x600030, dims := [], reset := 0x0, rw := 0x8000001F },
  -- MK_STSTAT
  { base := 0x600034, dims := [], reset := 0x0 },
  -- MK_CNT[k]
  { base := 0x600080, dims := [(0x4, 10)], reset := 0x0, rc := 0xFFFFFFFF },
  -- MK_ENGCFG[e]
  { base := 0x600100, dims := [(0x4, 32)], reset := 0x0, rws := 0x103 },
  -- MK_ENGSTAT[e]
  { base := 0x600200, dims := [(0x4, 32)], reset := 0x0 },
  -- MK_ENGHWM[e]
  { base := 0x600300, dims := [(0x4, 32)], reset := 0x0, rc := 0xFFFFFF },
  -- MK_SCHED[e]
  { base := 0x600400, dims := [(0x4, 32)], reset := 0x0 },
  -- MK_PROGCFG[k]
  { base := 0x601000, dims := [(0x4, 512)], reset := 0x0, rws := 0x8001FFFF },
  -- MK_PROGSTAT[k]
  { base := 0x601800, dims := [(0x4, 512)], reset := 0x0 }
]

/-- The AU registers. -/
def regsAu : List RegSpec := [
  -- AU_CFG
  { base := 0x700000, dims := [], reset := 0x32028, rws := 0x3FF07F },
  -- AU_CFG2
  { base := 0x700004, dims := [], reset := 0xFA00C8, rws := 0x1FFFFFFF },
  -- AU_STAT
  { base := 0x700008, dims := [], reset := 0x0 },
  -- AU_EVT
  { base := 0x70000C, dims := [], reset := 0x0, w1c := 0x3FFF },
  -- AU_LIBBASE
  { base := 0x700010, dims := [], reset := 0x0, rw := 0xFFFF },
  -- AU_LIBSIZE
  { base := 0x700014, dims := [], reset := 0x0, rw := 0xFFFF },
  -- AU_LIBCMD
  { base := 0x700018, dims := [], reset := 0x0, wo := 0x1 },
  -- AU_LIBSTAT
  { base := 0x70001C, dims := [], reset := 0x0 },
  -- AU_CLSGAIN[k]
  { base := 0x700040, dims := [(0x4, 7)], reset := 0x0, rws := 0xFFFF },
  -- AU_CNT[k]
  { base := 0x700080, dims := [(0x4, 10)], reset := 0x0, rc := 0xFFFFFFFF },
  -- AU_ZONECFG[z]
  { base := 0x700100, dims := [(0x4, 16)], reset := 0x3F0000, rws := 0xE07FFFFF },
  -- AU_ZONEAMB[z]
  { base := 0x700140, dims := [(0x4, 16)], reset := 0x18C4C648, rws := 0xFFFFFFFF },
  -- AU_ZONEMIC[z][m]
  { base := 0x700180, dims := [(0x8, 16), (0x4, 2)], reset := 0x0, rws := 0xFFFFFFFF },
  -- AU_ZONESTAT[z]
  { base := 0x700200, dims := [(0x4, 16)], reset := 0x80001C00 },
  -- AU_MIXSRC[z][i]
  { base := 0x700400, dims := [(0x40, 16), (0x4, 16)], reset := 0x0, rws := 0xFFFFFFFF },
  -- AU_MIXCFG[z][i]
  { base := 0x700800, dims := [(0x40, 16), (0x4, 16)], reset := 0x0, rws := 0xF700FFFF },
  -- AU_OUTSRC[u]
  { base := 0x701000, dims := [(0x4, 200)], reset := 0x0, rws := 0xFFFFFFFF },
  -- AU_LANETX[i]
  { base := 0x701400, dims := [(0x8, 64)], reset := 0x0, rws := 0x8003FFFF },
  -- AU_LANETXSRC[i]
  { base := 0x701404, dims := [(0x8, 64)], reset := 0x0, rws := 0xFFFFFFFF },
  -- AU_LANERX[c][s][w]
  { base := 0x702000, dims := [(0x400, 2), (0x8, 72)], reset := 0x0, rws := 0xFFFFFFFF },
  -- AU_LANERX (w = 1: lanes 60 to 63 reserved) [c][s][w]
  { base := 0x702004, dims := [(0x400, 2), (0x8, 72)], reset := 0x0, rws := 0xFFFFFFF },
  -- AU_LANE16[c][s][w]
  { base := 0x702800, dims := [(0x400, 2), (0x8, 72)], reset := 0x0, rws := 0xFFFFFFFF },
  -- AU_LANE16 (w = 1: lanes 60 to 63 reserved) [c][s][w]
  { base := 0x702804, dims := [(0x400, 2), (0x8, 72)], reset := 0x0, rws := 0xFFFFFFF },
  -- AU_TDMCFG[k]
  { base := 0x703000, dims := [(0x4, 8)], reset := 0x0, rws := 0x80000F37 },
  -- AU_ANACFG[k]
  { base := 0x703040, dims := [(0x4, 16)], reset := 0x0, rws := 0x80000017 },
  -- AU_ECCFG[h]
  { base := 0x704000, dims := [(0x10, 64)], reset := 0x0, rws := 0xF01F03FF },
  -- AU_ECMIC[h]
  { base := 0x704004, dims := [(0x10, 64)], reset := 0x0, rws := 0xFFFFFFFF },
  -- AU_ECSTAT[h]
  { base := 0x704008, dims := [(0x10, 64)], reset := 0x0 },
  -- AU_PLAYCTL[j]
  { base := 0x705000, dims := [(0x10, 16)], reset := 0x20000000, rw := 0xE0000000 },
  -- AU_PLAYITEM[j]
  { base := 0x705004, dims := [(0x10, 16)], reset := 0x0, rw := 0xFFFFFFFF },
  -- AU_PLAYCN_LO[j]
  { base := 0x705008, dims := [(0x10, 16)], reset := 0x0, rw := 0xFFFFFFFF },
  -- AU_PLAYCN_HI[j]
  { base := 0x70500C, dims := [(0x10, 16)], reset := 0x0, rw := 0xFFFF },
  -- AU_PLAYSTAT[j]
  { base := 0x705100, dims := [(0x4, 16)], reset := 0xFF00 }
]

/-- The QM registers. -/
def regsQm : List RegSpec := [
  -- QM_POOLCFG
  { base := 0x800000, dims := [], reset := 0x4080 },
  -- QM_EVT
  { base := 0x800008, dims := [], reset := 0x0, w1c := 0x1FF },
  -- QM_QSEL
  { base := 0x800010, dims := [], reset := 0x0, rw := 0x870FFFFF },
  -- QM_QDATA[k]
  { base := 0x800020, dims := [(0x4, 4)], reset := 0x0, rw := 0xFFFFFFFF },
  -- QM_QLEN
  { base := 0x800030, dims := [], reset := 0x0 },
  -- QM_WSEL
  { base := 0x800040, dims := [], reset := 0x0, rw := 0x8300FFFF },
  -- QM_WRATE
  { base := 0x800044, dims := [], reset := 0x0, rw := 0xFFFFFFFF },
  -- QM_WBURST
  { base := 0x800048, dims := [], reset := 0x0, rw := 0xFFFFFF },
  -- QM_WTOK
  { base := 0x80004C, dims := [], reset := 0x0 },
  -- QM_LOGCFG
  { base := 0x800200, dims := [], reset := 0x203, rw := 0x31F },
  -- QM_LOGDEST_LO
  { base := 0x800204, dims := [], reset := 0x0, rw := 0xFFFFFFFF },
  -- QM_LOGDEST_HI
  { base := 0x800208, dims := [], reset := 0x0, rw := 0xFFFFFFFF },
  -- QM_LOGSTAT
  { base := 0x800210, dims := [], reset := 0x0 },
  -- QM_LSEQ
  { base := 0x800214, dims := [], reset := 0x0 },
  -- QM_CELL[k]
  { base := 0x800100, dims := [(0x4, 32)], reset := 0x0, rw := 0xFFFFFFFF },
  -- QM_CNT[k]
  { base := 0x800300, dims := [(0x4, 13)], reset := 0x0, rc := 0xFFFFFFFF },
  -- QM_RECENT[k]
  { base := 0x800400, dims := [(0x4, 128)], reset := 0x0 }
]

/-- The CF registers. -/
def regsCf : List RegSpec := [
  -- CF_STAT
  { base := 0x900000, dims := [], reset := 0x0 },
  -- CF_EVT
  { base := 0x900004, dims := [], reset := 0x0, w1c := 0x3FF },
  -- CF_CURVER
  { base := 0x900008, dims := [], reset := 0x0 },
  -- CF_PREVVER
  { base := 0x90000C, dims := [], reset := 0x0 },
  -- CF_CMD
  { base := 0x900010, dims := [], reset := 0x0, rw := 0x80000107 },
  -- CF_ERR
  { base := 0x900014, dims := [], reset := 0x0 },
  -- CF_SRCOFF
  { base := 0x900018, dims := [], reset := 0x0, rw := 0xFFFFFFFF },
  -- CF_SRCLEN
  { base := 0x90001C, dims := [], reset := 0x0, rw := 0xFFFFFFFF },
  -- CF_ACTCN_LO
  { base := 0x900020, dims := [], reset := 0x0, rw := 0xFFFFFFFF },
  -- CF_ACTCN_HI
  { base := 0x900024, dims := [], reset := 0x0, rw := 0xFFFF },
  -- CF_JSEQ
  { base := 0x900028, dims := [], reset := 0x0 },
  -- CF_SPCMD
  { base := 0x900040, dims := [], reset := 0x0, wo := 0x1 },
  -- CF_SPSTAT
  { base := 0x900044, dims := [], reset := 0x0 },
  -- CF_SPCHK
  { base := 0x900048, dims := [], reset := 0x0 },
  -- CF_SPCUR
  { base := 0x90004C, dims := [], reset := 0x0 },
  -- CF_SPDATA[k]
  { base := 0x900080, dims := [(0x4, 15)], reset := 0x0, rw := 0xFFFFFFFF },
  -- CF_CNT[k]
  { base := 0x900100, dims := [(0x4, 8)], reset := 0x0, rc := 0xFFFFFFFF },
  -- CF_SFRST
  { base := 0x900050, dims := [], reset := 0x0, wo := 0x1 }
]

/-- The HB registers. -/
def regsHb : List RegSpec := [
  -- HB_CFG
  { base := 0xA00000, dims := [], reset := 0x6, rw := 0x7 },
  -- HB_STAT
  { base := 0xA00004, dims := [], reset := 0x0 },
  -- HB_EVT
  { base := 0xA00008, dims := [], reset := 0x0, w1c := 0x1FF },
  -- HB_DWIN
  { base := 0xA00010, dims := [], reset := 0x0, rw := 0xFFF },
  -- HB_IRQSTAT
  { base := 0xA00020, dims := [], reset := 0x0 },
  -- HB_IRQEN
  { base := 0xA00024, dims := [], reset := 0x0, rw := 0xFFFFF },
  -- HB_IRQACK
  { base := 0xA00028, dims := [], reset := 0x0, wo := 0xFFFF },
  -- HB_IRQMAP[i]
  { base := 0xA00030, dims := [(0x4, 2)], reset := 0x0, rw := 0xFFFFFFFF },
  -- HB_IRQMAP[2]
  { base := 0xA00038, dims := [], reset := 0x0, rw := 0xFFFF },
  -- HB_QSPICFG
  { base := 0xA00040, dims := [], reset := 0x40, rw := 0x1FF },
  -- HB_CONCFG
  { base := 0xA00044, dims := [], reset := 0x4, rw := 0x7 },
  -- HB_CMDDB[k]
  { base := 0xA00100, dims := [(0x10, 8)], reset := 0x0, rw := 0xFFFFFF },
  -- HB_RSPDB[k]
  { base := 0xA00104, dims := [(0x10, 8)], reset := 0x0, rw := 0xFFFFFF },
  -- HB_RINGSTAT[k]
  { base := 0xA00108, dims := [(0x10, 8)], reset := 0x0 },
  -- HB_RINGCTL[k]
  { base := 0xA0010C, dims := [(0x10, 8)], reset := 0x0, wo := 0x1 },
  -- HB_RACFG
  { base := 0xA00200, dims := [], reset := 0x28, rw := 0xFF },
  -- HB_RASTAT
  { base := 0xA00204, dims := [], reset := 0x0 },
  -- HB_RALAST
  { base := 0xA00208, dims := [], reset := 0x0 },
  -- HB_RALASTADDR
  { base := 0xA0020C, dims := [], reset := 0x0 },
  -- HB_RAWERR
  { base := 0xA00210, dims := [], reset := 0x0 },
  -- HB_RPCFG[k]
  { base := 0xA00300, dims := [(0x20, 6)], reset := 0x0, rw := 0x800003FF },
  -- HB_RPADDR[k]
  { base := 0xA00304, dims := [(0x20, 6)], reset := 0x0, rw := 0xFFFFFFFF },
  -- HB_RPMIRIRQ[k]
  { base := 0xA00308, dims := [(0x20, 6)], reset := 0x0, w1c := 0xFFFFFFFF },
  -- HB_RPMIRST[k]
  { base := 0xA0030C, dims := [(0x20, 6)], reset := 0x0 },
  -- HB_RPAGE[k]
  { base := 0xA00310, dims := [(0x20, 6)], reset := 0x0 },
  -- HB_RWCFG[w]
  { base := 0xA04000, dims := [(0x10, 512)], reset := 0x0, rw := 0xC03F03FF },
  -- HB_RWID_LO[w]
  { base := 0xA04004, dims := [(0x10, 512)], reset := 0x0, rw := 0xFFFFFFFF },
  -- HB_RWID_HI[w]
  { base := 0xA04008, dims := [(0x10, 512)], reset := 0x0, rw := 0xFFFFFFFF },
  -- HB_CNT[k]
  { base := 0xA00400, dims := [(0x4, 13)], reset := 0x0, rc := 0xFFFFFFFF }
]

/-- The SE registers. -/
def regsSe : List RegSpec := [
  -- SE_STAT
  { base := 0xB00000, dims := [], reset := 0x0 },
  -- SE_EVT
  { base := 0xB00004, dims := [], reset := 0x0, w1c := 0xFF },
  -- SE_CFG
  { base := 0xB00008, dims := [], reset := 0x12C0258, rw := 0xFFFFFFFF },
  -- SE_TKSTAT
  { base := 0xB0000C, dims := [], reset := 0x0 },
  -- SE_LOCK[i]
  { base := 0xB00010, dims := [(0x4, 3)], reset := 0x0 },
  -- SE_CNT[k]
  { base := 0xB00080, dims := [(0x4, 8)], reset := 0x0, rc := 0xFFFFFFFF },
  -- SE_KEYVER[n]
  { base := 0xB00100, dims := [(0x4, 32)], reset := 0x0 }
]

/-- The ST registers. -/
def regsSt : List RegSpec := [
  -- ST_CFG
  { base := 0xC00000, dims := [], reset := 0x7D00000, rws := 0xFFFF03FF },
  -- ST_CFG2
  { base := 0xC00004, dims := [], reset := 0xA0804, rw := 0xFFFFFF1F },
  -- ST_STAT
  { base := 0xC00008, dims := [], reset := 0x0 },
  -- ST_EVT
  { base := 0xC0000C, dims := [], reset := 0x0, w1c := 0xFFF },
  -- ST_EVTBR
  { base := 0xC00010, dims := [], reset := 0x0, w1c := 0xFFFF },
  -- ST_BRCFG[b]
  { base := 0xC00100, dims := [(0x40, 16)], reset := 0x0, rws := 0xC0000000 },
  -- ST_BRCTL[b]
  { base := 0xC00104, dims := [(0x40, 16)], reset := 0x0, wo := 0x3 },
  -- ST_BRSTAT[b]
  { base := 0xC00108, dims := [(0x40, 16)], reset := 0xFFFF0000 },
  -- ST_BREUID_LO[b]
  { base := 0xC0010C, dims := [(0x40, 16)], reset := 0x0 },
  -- ST_BREUID_HI[b]
  { base := 0xC00110, dims := [(0x40, 16)], reset := 0x0 },
  -- ST_BRID_LO[b]
  { base := 0xC00114, dims := [(0x40, 16)], reset := 0x0, rws := 0xFFFFFFFF },
  -- ST_BRID_HI[b]
  { base := 0xC00118, dims := [(0x40, 16)], reset := 0x0, rws := 0xFFFFFFFF },
  -- ST_SLOTCFG[b]
  { base := 0xC0011C, dims := [(0x40, 16)], reset := 0x0, rws := 0xFFFFFFFF },
  -- ST_DLLAG[b]
  { base := 0xC00120, dims := [(0x40, 16)], reset := 0x11111111, rws := 0xFFFFFFFF },
  -- ST_DLQ[b]
  { base := 0xC00124, dims := [(0x40, 16)], reset := 0x0, rws := 0xFFFFF },
  -- ST_ULQ[b]
  { base := 0xC00128, dims := [(0x40, 16)], reset := 0x0, rws := 0xFFFFF },
  -- ST_BRCNT[b][k]
  { base := 0xC0012C, dims := [(0x40, 16), (0x4, 5)], reset := 0x0, rc := 0xFFFFFFFF },
  -- ST_AUMAP[b][d][s][k]
  { base := 0xC01000, dims := [(0x200, 16), (0x100, 2), (0x20, 8), (0x4, 6)], reset := 0x0, rws := 0xC000FFFF }
]

/-- The EM registers. -/
def regsEm : List RegSpec := [
  -- EM_EVT
  { base := 0xD00000, dims := [], reset := 0x0, w1c := 0x100 },
  -- EM_WAKESTAT
  { base := 0xD00010, dims := [], reset := 0x0, w1c := 0x80000000 },
  -- EM_WPCFG[i]
  { base := 0xD00100, dims := [(0x20, 16)], reset := 0x0, rw := 0x803FFFFF },
  -- EM_WPMASK[i][k]
  { base := 0xD00104, dims := [(0x20, 16), (0x4, 4)], reset := 0x0, rw := 0xFFFFFFFF },
  -- EM_MACCFG[m]
  { base := 0xD01000, dims := [(0x400, 6)], reset := 0x5EE0200, rws := 0xBFFF3B73 },
  -- EM_MACSTAT[m]
  { base := 0xD01004, dims := [(0x400, 6)], reset := 0x0 },
  -- EM_MACEVT[m]
  { base := 0xD01008, dims := [(0x400, 6)], reset := 0x0, w1c := 0xFF },
  -- EM_ADDR_LO[m]
  { base := 0xD0100C, dims := [(0x400, 6)], reset := 0x0, rws := 0xFFFFFFFF },
  -- EM_ADDR_HI[m]
  { base := 0xD01010, dims := [(0x400, 6)], reset := 0x0, rws := 0xFFFF },
  -- EM_MCHASH_LO[m]
  { base := 0xD01014, dims := [(0x400, 6)], reset := 0x0, rws := 0xFFFFFFFF },
  -- EM_MCHASH_HI[m]
  { base := 0xD01018, dims := [(0x400, 6)], reset := 0x0, rws := 0xFFFFFFFF },
  -- EM_PREEMPT[m]
  { base := 0xD0101C, dims := [(0x400, 6)], reset := 0xA00, rws := 0xC000FF03 },
  -- EM_LAT[m]
  { base := 0xD01020, dims := [(0x400, 6)], reset := 0x0, rws := 0xFFFFFFFF },
  -- EM_PCPMAP[m]
  { base := 0xD01024, dims := [(0x400, 6)], reset := 0x0, rws := 0xFFFF },
  -- EM_RXQ[m][k]
  { base := 0xD01040, dims := [(0x400, 6), (0x4, 4)], reset := 0x0, rws := 0xFFFFF },
  -- EM_TXQ[m][k]
  { base := 0xD01050, dims := [(0x400, 6), (0x4, 2)], reset := 0x0, rws := 0xFFFFF },
  -- EM_TXCQ[m]
  { base := 0xD01058, dims := [(0x400, 6)], reset := 0x0, rws := 0xFFFFF },
  -- EM_TXDB[m][k]
  { base := 0xD01060, dims := [(0x400, 6), (0x4, 2)], reset := 0x0, rw := 0xFFFFFF },
  -- EM_RXDB[m][k]
  { base := 0xD01070, dims := [(0x400, 6), (0x4, 4)], reset := 0x0, rw := 0xFFFFFF },
  -- EM_QCTL[m]
  { base := 0xD01080, dims := [(0x400, 6)], reset := 0x0, wo := 0x3F },
  -- EM_CNT[m][k]
  { base := 0xD01100, dims := [(0x400, 6), (0x4, 16)], reset := 0x0, rc := 0xFFFFFFFF }
]

/-- The CB registers. -/
def regsCb : List RegSpec := [
  -- CB_CFG[c]
  { base := 0xE00000, dims := [(0x10000, 4)], reset := 0x40, rws := 0x800001F3 },
  -- CB_NBT[c]
  { base := 0xE00004, dims := [(0x10000, 4)], reset := 0xF0F3E01, rws := 0x7F7FFFFF },
  -- CB_DBT[c]
  { base := 0xE00008, dims := [(0x10000, 4)], reset := 0x0, rws := 0xFFFF1F1F },
  -- CB_STAT[c]
  { base := 0xE0000C, dims := [(0x10000, 4)], reset := 0x0 },
  -- CB_EVT[c]
  { base := 0xE00010, dims := [(0x10000, 4)], reset := 0x0, w1c := 0x7FF },
  -- CB_CTL[c]
  { base := 0xE00014, dims := [(0x10000, 4)], reset := 0x0, wo := 0xF },
  -- CB_RXQ[c]
  { base := 0xE00018, dims := [(0x10000, 4)], reset := 0x0, rws := 0xFFFFF },
  -- CB_TXQ0[c]
  { base := 0xE0001C, dims := [(0x10000, 4)], reset := 0x0, rws := 0xFFFFF },
  -- CB_TXQ1[c]
  { base := 0xE00020, dims := [(0x10000, 4)], reset := 0x0, rws := 0xFFFFF },
  -- CB_TXCQ[c]
  { base := 0xE00024, dims := [(0x10000, 4)], reset := 0x0, rws := 0xFFFFF },
  -- CB_TXDB[c][k]
  { base := 0xE00028, dims := [(0x10000, 4), (0x4, 2)], reset := 0x0, rw := 0xFFFFFF },
  -- CB_RXDB[c]
  { base := 0xE00030, dims := [(0x10000, 4)], reset := 0x0, rw := 0xFFFFFF },
  -- CB_TTCFG[c]
  { base := 0xE00040, dims := [(0x10000, 4)], reset := 0x0, rws := 0xFFFFFF00 },
  -- CB_TTREF[c]
  { base := 0xE00044, dims := [(0x10000, 4)], reset := 0x0, rws := 0x1FFFF },
  -- CB_TTSTAT[c]
  { base := 0xE00048, dims := [(0x10000, 4)], reset := 0x0 },
  -- CB_TTREFID[c]
  { base := 0xE0004C, dims := [(0x10000, 4)], reset := 0x0, rws := 0x3FFFFFFF },
  -- CB_TTCOL[c][j]
  { base := 0xE00104, dims := [(0x10000, 4), (0x4, 63)], reset := 0x0, rws := 0x1FFFFFF },
  -- CB_CNT[c][k]
  { base := 0xE00200, dims := [(0x10000, 4), (0x4, 12)], reset := 0x0, rc := 0xFFFFFFFF },
  -- CB_TTMAT[c][k][j]
  { base := 0xE01000, dims := [(0x10000, 4), (0x100, 64), (0x4, 64)], reset := 0x0, rws := 0xC00FFFFF },
  -- CB_OBJCFG[c][o]
  { base := 0xE08000, dims := [(0x10000, 4), (0x4, 2048)], reset := 0x0, rw := 0xFFFFFFFF },
  -- CB_WAKECFG
  { base := 0xE3F000, dims := [], reset := 0x500, rw := 0x1F0F },
  -- CB_WAKESTAT
  { base := 0xE3F004, dims := [], reset := 0x0, w1c := 0x80000000 },
  -- CB_WFILT[c][i][k]
  { base := 0xE3F100, dims := [(0x80, 4), (0x20, 4), (0x4, 8)], reset := 0x0, rw := 0xFFFFFFFF }
]

/-- The PW registers. -/
def regsPw : List RegSpec := [
  -- PW_STAT
  { base := 0xF00000, dims := [], reset := 0x3 },
  -- PW_EVT
  { base := 0xF00004, dims := [], reset := 0x0, w1c := 0x7F },
  -- PW_CTL
  { base := 0xF00008, dims := [], reset := 0x0, wo := 0xE7 },
  -- PW_RSTSTAT
  { base := 0xF0000C, dims := [], reset := 0x10, w1c := 0x30 },
  -- PW_WAKECFG
  { base := 0xF00010, dims := [], reset := 0x100, rw := 0x38F },
  -- PW_WAKEPOL
  { base := 0xF00014, dims := [], reset := 0x0, rw := 0xF },
  -- PW_WAKESRC
  { base := 0xF00018, dims := [], reset := 0x0, w1c := 0x83FF },
  -- PW_ALARM_LO
  { base := 0xF00020, dims := [], reset := 0x0, rw := 0xFFFFFFFF },
  -- PW_ALARM_HI
  { base := 0xF00024, dims := [], reset := 0x0, rw := 0xFFFF },
  -- PW_SLOW_LO
  { base := 0xF00028, dims := [], reset := 0x0 },
  -- PW_SLOW_HI
  { base := 0xF0002C, dims := [], reset := 0x0 },
  -- PW_SLEEPCFG
  { base := 0xF00030, dims := [], reset := 0xA0000, rw := 0xFFFFFFF7 },
  -- PW_ROUNDCFG
  { base := 0xF00034, dims := [], reset := 0x3C0320, rw := 0xFFFFFFFF },
  -- PW_VETO
  { base := 0xF00038, dims := [], reset := 0x0, rw := 0xF },
  -- PW_ROUNDSTAT
  { base := 0xF0003C, dims := [], reset := 0x0 },
  -- PW_ROUNDSTAT2
  { base := 0xF00040, dims := [], reset := 0x0 },
  -- PW_PARKCN_LO
  { base := 0xF00044, dims := [], reset := 0x0 },
  -- PW_PARKCN_HI
  { base := 0xF00048, dims := [], reset := 0x0 },
  -- PW_HOLDCFG
  { base := 0xF00050, dims := [], reset := 0x12, rw := 0x8000003F },
  -- PW_HOLDSTAT
  { base := 0xF00054, dims := [], reset := 0x0 },
  -- PW_WDCFG
  { base := 0xF00058, dims := [], reset := 0x80001F40, rw := 0x8000FFFF },
  -- PW_CNT[k]
  { base := 0xF00080, dims := [(0x4, 8)], reset := 0x0, rc := 0xFFFFFFFF }
]

/-- The SF registers. -/
def regsSf : List RegSpec := [
  -- SF_STAT
  { base := 0x1000000, dims := [], reset := 0x40000000 },
  -- SF_EVT
  { base := 0x1000004, dims := [], reset := 0x0, rc := 0xFFF },
  -- SF_LOCK
  { base := 0x1000008, dims := [], reset := 0x6 },
  -- SF_PAIRSTAT
  { base := 0x100000C, dims := [], reset := 0x0 },
  -- SF_CONTACT
  { base := 0x1000010, dims := [], reset := 0x0 },
  -- SF_OUTSTAT
  { base := 0x1000014, dims := [], reset := 0x0 },
  -- SF_SPVER
  { base := 0x1000018, dims := [], reset := 0x0 },
  -- SF_SPCHK
  { base := 0x100001C, dims := [], reset := 0x0 },
  -- SF_LINESTAT
  { base := 0x1000020, dims := [], reset := 0x0 },
  -- SF_LINECN
  { base := 0x1000024, dims := [], reset := 0x0 },
  -- SF_VBAT
  { base := 0x1000028, dims := [], reset := 0x0 },
  -- SF_RSTSTAT
  { base := 0x100002C, dims := [], reset := 0x0 },
  -- SF_DIAG
  { base := 0x1000030, dims := [], reset := 0x0 },
  -- SF_CNT[k]
  { base := 0x1000040, dims := [(0x4, 11)], reset := 0x0, rc := 0xFFFFFFFF },
  -- SF_MON[n]
  { base := 0x1001000, dims := [(0x4, 512)], reset := 0x0 }
]

/-- The LS registers. -/
def regsLs : List RegSpec := [
  -- LS_STAT
  { base := 0x1100000, dims := [], reset := 0x0 },
  -- LS_EVT
  { base := 0x1100004, dims := [], reset := 0x0, w1c := 0x7F },
  -- LS_CTL
  { base := 0x1100008, dims := [], reset := 0x0, wo := 0xFFF },
  -- LS_SENSECFG
  { base := 0x110000C, dims := [], reset := 0x0, rws := 0x3F },
  -- LS_TOTAL
  { base := 0x1100010, dims := [], reset := 0x0 },
  -- LS_LHMASK
  { base := 0x1100014, dims := [], reset := 0x0 },
  -- LS_CHCFG[n]
  { base := 0x1100100, dims := [(0x4, 12)], reset := 0x700, rws := 0xF07 },
  -- LS_CHSTAT[n]
  { base := 0x1100180, dims := [(0x4, 12)], reset := 0x0 },
  -- LS_CURR[n]
  { base := 0x1100200, dims := [(0x4, 12)], reset := 0x0 },
  -- LS_CNT[k]
  { base := 0x1100300, dims := [(0x4, 5)], reset := 0x0, rc := 0xFFFFFFFF }
]

/-- The rows of the block whose 1 MiB range holds the address (Table SC-5). -/
def blockRegs : Nat → List RegSpec
  | 0 => regsAc
  | 1 => regsTb
  | 2 => regsLp
  | 3 => regsLc
  | 4 => regsIn
  | 5 => regsDu
  | 6 => regsMk
  | 7 => regsAu
  | 8 => regsQm
  | 9 => regsCf
  | 10 => regsHb
  | 11 => regsSe
  | 12 => regsSt
  | 13 => regsEm
  | 14 => regsCb
  | 15 => regsPw
  | 16 => regsSf
  | 17 => regsLs
  | _ => []

/-- Does an offset from `base` fall on an element of an array with these strides and counts? -/
def inDims : List (Nat × Nat) → Nat → Bool
  | [], off => off == 0
  | (stride, count) :: ds, off => decide (off / stride < count) && inDims ds (off % stride)

/-- The register at a byte address, if the spec gives one there. -/
def regSpec (a : Nat) : Option RegSpec :=
  (blockRegs (a / 0x100000)).find? (fun r => decide (r.base ≤ a) && inDims r.dims (a - r.base))

/-- The value a register holds after reset; 0 where there is no register (R7). -/
def resetValue (a : Nat) : BitVec 32 :=
  match regSpec a with
  | some r => BitVec.ofNat 32 r.reset
  | none => 0#32

end Sys2Proof.Machine
end

