-- ==== Sys2Proof/Machine/Frac.lean ====
section
/-! DEFINITION. Exact fractions for the arithmetic of the time base (R136, R140): a numerator and a positive
denominator in lowest terms. -/

namespace Sys2Proof.Machine

/-- A fraction `num / den`; `den` 0 never arises from the operations below. -/
structure Frac where
  num : Int
  den : Nat
  deriving DecidableEq, Repr

/-- The fraction in lowest terms; a denominator 0 is taken as 1. -/
def Frac.mk' (num : Int) (den : Nat) : Frac :=
  let g := Nat.gcd num.natAbs den
  if den = 0 then ⟨num, 1⟩ else ⟨num / (g : Int), den / g⟩

/-- An integer. -/
def Frac.ofInt (x : Int) : Frac := ⟨x, 1⟩
/-- Sum. -/
def Frac.add (a b : Frac) : Frac := Frac.mk' (a.num * b.den + b.num * a.den) (a.den * b.den)
/-- Difference. -/
def Frac.sub (a b : Frac) : Frac := Frac.mk' (a.num * b.den - b.num * a.den) (a.den * b.den)
/-- Product. -/
def Frac.mul (a b : Frac) : Frac := Frac.mk' (a.num * b.num) (a.den * b.den)
/-- Quotient by a positive fraction; by anything else, the dividend. -/
def Frac.div (a b : Frac) : Frac := if b.num ≤ 0 then a else Frac.mk' (a.num * b.den) (a.den * b.num.natAbs)
/-- Is `a` at most `b`? -/
def Frac.le (a b : Frac) : Bool := decide (a.num * b.den ≤ b.num * a.den)
/-- The fraction held between two bounds. -/
def Frac.clamp (lo hi x : Frac) : Frac := if x.le lo then lo else if hi.le x then hi else x
/-- Largest integer not above. -/
def Frac.floor (a : Frac) : Int := a.num / (a.den : Int)
/-- Absolute value. -/
def Frac.abs (a : Frac) : Frac := ⟨a.num.natAbs, a.den⟩
/-- Sum of a list. -/
def Frac.sum (l : List Frac) : Frac := l.foldl Frac.add (Frac.ofInt 0)
/-- Mean of a list; 0 of none. -/
def Frac.mean (l : List Frac) : Frac := Frac.mk' (Frac.sum l).num ((Frac.sum l).den * (if l.length = 0 then 1 else l.length))

end Sys2Proof.Machine
end

