-- ==== Sys2Proof/Machine/StateLine.lean ====
section
/-! DEFINITION. State of the line ports and of the line cycle beyond their registers (spec/02_line_ports.md,
spec/03_line_cycle.md). -/

namespace Sys2Proof.Machine

/-- A time stamp of R53: nanoseconds modulo 2^32 and 8 fraction bits, as one count of 1/256 ns below 2^40. -/
abbrev Stamp := Nat

/-- A frame stamp kept for LP_CSFIN and LP_CSFOUT: corrected stamp and CNLO. -/
structure FrameStamp where
  stamp : Stamp
  cnlo : Nat
  deriving DecidableEq, Repr

/-- One valid delay exchange of a port (R136), kept for the averages of R136, R137 and R140.  Times in 1/256 ns. -/
structure Exchange where
  t3 : Stamp
  t4 : Stamp
  /-- raw tick count at t4 -/
  n4 : Nat
  /-- link delay d and offset off, in 1/256 ns, and the rate q -/
  d : Frac
  off : Frac
  q : Frac
  deriving DecidableEq, Repr

/-- What the node keeps for one line port beyond its LP registers. -/
structure Port where
  /-- re-entry hold in force (R43) -/
  hold : Bool := false
  /-- the partner was on the node's line before the node held an epoch, or is a member (HOLDRSN 1, R41, R98, R113) -/
  admitted : Bool := false
  /-- R110, R158: the port is held with HOLDRSN 1 because it faces a lost upstream or a part beyond the train -/
  shut : Bool := false
  /-- next DREQ sequence number -/
  seq : Nat := 0
  /-- the last 4 DREQs sent: SEQ and corrected egress stamp, newest first -/
  dreqs : List (Nat × Stamp) := []
  /-- the last DREQ received: SEQ and corrected ingress stamp -/
  rxDreq : Option (Nat × Stamp) := none
  /-- valid exchanges, newest first, at most 9 -/
  exch : List Exchange := []
  /-- consecutive cycles with a valid exchange -/
  exchRun : Nat := 0
  /-- an exchange was valid in the cycle now running -/
  exchNow : Bool := false
  /-- a DREQ or DRSP was valid in the cycle now running, and in the cycle before it -/
  delayNow : Bool := false
  delayLast : Bool := false
  /-- a valid return-pass CSF was received in the cycle now running -/
  retNow : Bool := false
  /-- consecutive ended cycles with neither a valid return-pass CSF nor a valid DREQ or DRSP (R159) -/
  silent : Nat := 0
  /-- a valid CSF with CFLAGS bit 0 clear, of the node's epoch, arrived in the cycle now running (R160, R162) -/
  csfNow : Bool := false
  csfLeaderNow : Bool := false
  /-- a violation in the cycle now running (R90) -/
  violNow : Bool := false
  /-- violating cycles, newest first, at most 64 -/
  viols : List Bool := []
  /-- cycles of quarantine left; none: not quarantined -/
  quar : Option Nat := none
  /-- host software asked for the end of the quarantine -/
  quarClear : Bool := false
  /-- stamps of the cycle start frames of the cycle now running -/
  csfIn : Option FrameStamp := none
  csfOut : Option FrameStamp := none
  /-- admission records used since the port came up (R114), ASEQ of the last one, and its 56 bytes -/
  admUsed : Nat := 0
  admSeq : Option Nat := none
  admRec : List Byte := []
  /-- ASEQ of the next record sent -/
  admTx : Nat := 0
  /-- COUPLE was sent for the present contact -/
  coupled : Bool := false
  /-- ACCEPT received before the commit cycle (R117) -/
  accept : Bool := false
  /-- CN at which the port last left UP, and the partner recorded then (R119) -/
  lostCn : Option Nat := none
  lostId : Nat := 0
  /-- CN at which the port last reached UP -/
  upCn : Nat := 0
  /-- neighbour-signal pair record received last with a good tag, with the local CN of receipt (R176) -/
  pairRec : Option (Nat × List Byte) := none
  deriving DecidableEq, Repr

/-- The fields of a cycle start frame a node uses (Table LC-8). -/
structure Csf where
  cn : Nat := 0
  epoch : Nat := 0
  leader : Nat := 0
  origin : Nat := 0
  nodes : Nat := 0
  mode : Nat := 0
  d : Nat := 0
  dmin : Nat := 0
  segHead : Bool := false
  ringB : Bool := false
  deriving DecidableEq, Repr

/-- The state of a lane in a container or in AX (Table LC-9, R205). -/
inductive LaneState where
  | null | valid | clipped | concealed
  deriving DecidableEq, Repr

/-- A lane block: its state and its six samples. -/
structure LaneVal where
  st : LaneState := .null
  samples : List (BitVec 32) := [0#32, 0#32, 0#32, 0#32, 0#32, 0#32]
  deriving DecidableEq, Repr

/-- A mini-slot class (Table LC-13). -/
inductive MsClass where
  | control | message | log
  deriving DecidableEq, Repr

/-- A line message waiting or being sent: frame TYPE, class, DEST, STREAM and payload. -/
structure LineMsg where
  type : Nat
  cls : MsClass
  dest : Nat := 0xFFFF
  stream : Nat := 0
  payload : List Byte := []
  deriving DecidableEq, Repr

/-- A chain in progress on a channel (R82). -/
structure Chain where
  msg : LineMsg
  /-- index of the next mini-slot and of the next fragment -/
  nextSlot : Nat
  nextFrag : Nat
  cn : Nat
  deriving DecidableEq, Repr

/-- A chain being received (R82): its writer, type, first header, and the payload so far. -/
structure RxChain where
  src : Nat
  type : Nat
  head : List Byte
  payload : List Byte
  next : Nat
  cn : Nat
  deriving DecidableEq, Repr

/-- The slot and lane configuration in force at one boundary (R72): the words of LC_SLOTCFG, LC_LANEMODE and
DU_LANECLS in force, by address. -/
structure CfgSnap where
  cn : Nat
  words : Sparse (BitVec 32)
  deriving DecidableEq, Repr

/-- Lane blocks of one cycle, by lane address. -/
structure BlockSet where
  cn : Nat
  lanes : Sparse LaneVal
  deriving DecidableEq, Repr

/-- What the node keeps for one line channel beyond its LC registers. -/
structure Chan where
  /-- CSF that opened the current outbound and return cycles -/
  outCsf : Option Csf := none
  retCsf : Option Csf := none
  /-- consecutive cycles without a valid CSF on each pass -/
  outMiss : Nat := 0
  retMiss : Nat := 0
  /-- class C claims, and class M and L claims, of the cycle now running -/
  claimsC : Nat := 0
  claimsML : Nat := 0
  /-- class L claims of the last 16 cycles, newest first -/
  logHist : List Nat := []
  /-- consecutive cycles in which a class M or L message has waited (R83) -/
  waited : Nat := 0
  waitNow : Bool := false
  /-- consecutive abandoned chains -/
  abandoned : Nat := 0
  starved : Bool := false
  /-- the last roster read shows STARVED for a node farther from the originator (R83) -/
  yield : Bool := false
  /-- the same of a roster read in the cycle now running -/
  yieldRead : Option Bool := none
  /-- chain being sent, and the message to be sent again after an abandoned chain -/
  chain : Option Chain := none
  retry : Option LineMsg := none
  /-- class C messages waiting for a mini-slot, oldest first -/
  control : List LineMsg := []
  rx : List RxChain := []
  /-- one tag-failure event, and one blocked-write event, recorded in this cycle -/
  tagLogged : Bool := false
  blockLogged : Bool := false
  /-- CNLO and egress stamp of the CSFs the node originated, newest first, and the lap measured last, in ns (LC_LAP) -/
  sent : List (Nat × Stamp) := []
  lap : Nat := 0
  /-- lanes as they left the node on the outbound pass, for the 2 newest CNs (R165) -/
  left : List BlockSet := []
  /-- tail of the channel at the last boundary and at the one before (R165) -/
  tailNow : Bool := false
  tailLast : Bool := false
  /-- CSF CFLAGS bit 0 in the newest CNs (R166) -/
  segHeadCns : List Nat := []
  /-- the last outbound CSF received, for R339 and R142: its bytes, the port and its corrected ingress stamp -/
  rawCsf : Option (List Byte × Nat × Stamp) := none
  deriving DecidableEq, Repr

/-- A train key of one epoch (R338). -/
structure EpochKey where
  tdom : Nat
  epoch : Nat
  key : List Byte
  deriving DecidableEq, Repr

/-- The line cycle. -/
structure LineState where
  chans : Sparse Chan := []
  ports : Sparse Port := []
  /-- configuration of the 16 newest boundaries, newest first (R72) -/
  cfg : List CfgSnap := []
  /-- own blocks that are ready, by the CN of their containers, newest first (R72) -/
  blocks : List BlockSet := []
  /-- the train master key K_T in force since the last power-on reset (R330, R338, R340) -/
  kt : Option (List Byte) := none
  /-- lane blocks as the line dies delivered them to AX, by production cycle, newest first (R73, R167) -/
  heard : List BlockSet := []
  /-- train keys: in force; of the previous epoch with its last cycle (R88); derived and not yet in force (R338) -/
  key : Option EpochKey := none
  prevKey : Option (EpochKey × Nat) := none
  nextKeys : List EpochKey := []
  /-- the key PX holds (R21) -/
  pxKey : Option EpochKey := none
  /-- frames and items already used in ring and forerunner modes: CN, TYPE, INDEX, item (R57) -/
  used : List (Nat × Nat × Nat × Nat) := []
  /-- mini-slot messages already taken: CN, TYPE, SRCNODE, payload (R57) -/
  usedMs : List (Nat × Nat × Nat × List Byte) := []
  /-- message last sent in ring and forerunner modes, its CN and the channels it went on (R57) -/
  ringSent : Option (Nat × List Nat × LineMsg) := none
  /-- the CX heartbeat has stopped (R76, R138, Table AC-7) -/
  cxLost : Bool := false
  /-- wake-tone blanking in force (R51) -/
  blanking : Bool := false
  deriving DecidableEq, Repr

end Sys2Proof.Machine
end

