-- ==== Sys2Proof/Machine/StateAu.lean ====
section
/-! DEFINITION. State of the audio plane AX beyond its registers (spec/08_audio.md). -/

namespace Sys2Proof.Machine

/-- One block of a stream: six samples at 48 kHz, or two of a 16 kHz stream (R68), and the cycle a unit shows in its
bytes 28 to 31. -/
structure AuBlock where
  st : LaneState := .null
  k16 : Bool := false
  samples : List (BitVec 32) := [0#32, 0#32, 0#32, 0#32, 0#32, 0#32]
  cyc : Nat := 0
  deriving DecidableEq, Repr

/-- One input of a zone (R240 to R246).  Components are in 2^-16 of 1/256 dB. -/
structure MixInput where
  on : Bool := false
  /-- the announcement entry and its ANNID, for an announcement input -/
  ann : Option (Nat × Nat) := none
  setPoint : Int := 0
  level : Int := 0
  duck : Int := 0
  mute : Int := 0
  /-- linear factor of the previous pass, Q8.24 -/
  factor : Nat := 0
  /-- passes of the release hold left (R242) -/
  release : Nat := 0
  /-- passes left in which a good block of the source still counts (R241) -/
  alive : Nat := 0
  deriving DecidableEq, Repr

/-- What the node keeps for one zone (R238, R247, R248). -/
structure Zone where
  /-- image zone entry the zone is bound to -/
  bound : Option Nat := none
  on : Bool := false
  /-- microphone blocks admitted since the zone was enabled, and passes since the last one -/
  admitted : Nat := 0
  idle : Nat := 0
  /-- ambient gain in 2^-16 of 1/256 dB -/
  amb : Int := 0
  /-- peaks of the zone output, newest pass first -/
  peaks : List Nat := []
  deriving DecidableEq, Repr

/-- An item of the working directory (Table AU-6), its samples by DRAM address. -/
structure LibItem where
  id : Nat := 0
  addr : Nat := 0
  nsamp : Nat := 0
  words : Bool := false
  k16 : Bool := false
  loop : Bool := false
  gain : Int := 0
  deriving DecidableEq, Repr

/-- AU_PLAYSTAT.STATE. -/
inductive PlayState where
  | idle | waiting | playing | ended | error
  deriving DecidableEq, Repr

/-- A library player (R252, R253). -/
structure Player where
  st : PlayState := .idle
  /-- the announcement entry served and its ANNID, for a player taken from the pool -/
  ann : Option (Nat × Nat) := none
  item : Option LibItem := none
  start : Nat := 0
  /-- a manual start waits for the next boundary -/
  go : Bool := false
  /-- the next block is the last, faded (R253) -/
  stopping : Bool := false
  deriving DecidableEq, Repr

/-- What the node keeps for one echo canceller (R250). -/
structure Canceller where
  /-- consecutive passes in which the output exceeded the microphone by 3 dB -/
  loud : Nat := 0
  /-- passes left in which DIVERGE shows -/
  shown : Nat := 0
  /-- BULK and TAIL in force at the last boundary -/
  shape : Nat := 0
  /-- output of the last pass, at 48 kHz and at 16 kHz -/
  out48 : AuBlock := {}
  out16 : AuBlock := { k16 := true, samples := [0#32, 0#32] }
  deriving DecidableEq, Repr

/-- The audio plane. -/
structure AuState where
  /-- lanes received (R232), as lane addresses in rising order -/
  rx : List Nat := []
  /-- production cycle the pass of this cycle and of the one before work on, and whether R258 silences it -/
  pNow : Nat × Bool := (0, true)
  pPrev : Nat × Bool := (0, true)
  /-- last production cycle presented before an increase of D (R258) -/
  repeatTo : Option Nat := none
  /-- input units of the last two cycles, as captured: 16 k + s for TDM, 128 + k for analogue -/
  inNow : Sparse AuBlock := []
  inPrev : Sparse AuBlock := []
  /-- samples captured by the frames of this cycle, and by those of the cycle before that has not had all its frames (R135, R254) -/
  capture : Sparse (List (BitVec 32)) := []
  captureLast : Sparse (List (BitVec 32)) := []
  /-- output units by presentation cycle, after concealment; and the last block of each before it -/
  outs : List (Nat × Sparse AuBlock) := []
  outPrev : Sparse AuBlock := []
  /-- last block of each program unit -/
  progPrev : Sparse AuBlock := []
  /-- zone results of the last pass -/
  zoneOut : Sparse AuBlock := []
  zones : Sparse Zone := []
  /-- inputs of the zones: 32 z + i, manual inputs i = 0 to 15, announcement inputs i = 16 to 23 -/
  mix : Sparse MixInput := []
  players : Sparse Player := []
  cancellers : Sparse Canceller := []
  /-- working directory -/
  lib : List LibItem := []
  /-- a scan runs on this DRAM region: base and size in bytes -/
  scan : Option (Nat × Nat) := none
  /-- a finished scan waits for the boundary: valid entries, and how many were invalid -/
  scanned : Option (List LibItem × Nat) := none
  /-- the mixer pass of this cycle has started (R230) -/
  passDone : Bool := false
  /-- fade level at the start and end of this cycle, in sixteenths (R257) -/
  fade : Nat := 0
  fadeEnd : Nat := 0
  /-- fade level at the start of the cycle before -/
  fadeLast : Nat := 0
  deriving DecidableEq, Repr

end Sys2Proof.Machine
end

