-- ==== Sys2Proof/Machine/StateCb.lean ====
section
/-! DEFINITION. State of the CAN FD controllers that lies in no register (spec/15_can.md). -/

namespace Sys2Proof.Machine

/-- A frame a controller has taken from a transmit queue. -/
structure CanJob where
  frame : CanFrame
  /-- AUX of its header, returned as TAG, and TSREQ -/
  tag : Nat
  tsreq : Bool
  /-- sent once, in an exclusive column (R393) -/
  once : Bool
  /-- an attempt is on the bus; its stamp -/
  active : Bool := false
  ts : BitVec 32 := 0#32
  /-- consecutive attempts that failed with acknowledgement errors (R379) -/
  noAcks : Nat := 0
  /-- ABORT was written during the attempt (R387) -/
  abort : Bool := false
  deriving DecidableEq, Repr

/-- A frame that waits for the end of an object's lock (R383). -/
structure CanPend where
  obj : Nat
  frame : CanFrame
  ts : BitVec 32
  tsdom : Bool
  more : Bool := false
  deriving DecidableEq, Repr

/-- What the node keeps for one controller. -/
structure Can where
  /-- word w of object o under key 20 o + w -/
  objs : Sparse (BitVec 32) := []
  lock : Option Nat := none
  /-- pending buffers, at most 8, and whether a frame for the locked object was dropped -/
  pend : List CanPend := []
  dropped : Bool := false
  /-- frames taken: the one being sent, and behind it one that waits for an arbitrating column -/
  jobs : List CanJob := []
  /-- error counters (R377) -/
  tec : Nat := 0
  rec_ : Nat := 0
  /-- CB_DBT has been written since reset (R385) -/
  dbtWritten : Bool := false
  /-- SLEEP was written and a frame is still on the bus (R390) -/
  sleepReq : Bool := false
  /-- completion records packed but not yet pushed, fewer than eight (R386) -/
  done : List (List Byte) := []
  /-- start of frame of the last reference message, and the column that is open (R393) -/
  refTs : Option (BitVec 32) := none
  col : Nat := 0
  /-- consecutive reference messages missed (R394) -/
  misses : Nat := 0
  deriving DecidableEq, Repr

end Sys2Proof.Machine
end

