-- ==== Sys2Proof/Machine/StateCf.lean ====
section
/-! DEFINITION. State of the caddy, of blends and safety parameters (spec/10_configuration.md), and of keys and
sessions (spec/12_security.md). -/

namespace Sys2Proof.Machine

/-- State of a blend slot (Table CF-3). -/
inductive SlotState where
  | empty | staging | staged | valid | invalid
  deriving DecidableEq, Repr

/-- A journal record (Table CF-2); its CRC is good. -/
structure Journal where
  jseq : BitVec 32 := 1#32
  cur : Fin 2 := 0
  st0 : SlotState := .empty
  st1 : SlotState := .empty
  fallback : Bool := false
  spSelB : Bool := false
  spValid : Bool := false
  ver0 : BitVec 32 := 0#32
  ver1 : BitVec 32 := 0#32
  spChk : BitVec 32 := 0#32
  deriving DecidableEq, Repr

/-- Lock-out state of one interface (Table SE-2, R337). -/
structure LockOut where
  fails : Nat := 0
  level : Nat := 0
  /-- seconds of refusal left -/
  remain : Nat := 0
  /-- full length of the last refusal -/
  full : Nat := 0
  deriving DecidableEq, Repr

/-- A key record (Table SE-2): KVER and the key's bytes; no bytes: absent. -/
structure KeyRec where
  kver : BitVec 32 := 0#32
  key : List Byte := []
  deriving DecidableEq, Repr

/-- One copy of the key area whose CRCs are good (Table SE-2). -/
structure KeyArea where
  kseq : BitVec 32 := 0#32
  provisioned : Bool := false
  retired : Bool := false
  locks : Sparse LockOut := []
  /-- by KID -/
  keys : Sparse KeyRec := []
  deriving DecidableEq, Repr

/-- A pending safety parameter block (R300, R301): bytes 0 to 59, its check value, seconds left and wrong entries. -/
structure SpPending where
  bytes : List Byte
  check : BitVec 32
  left : Nat
  tries : Nat
  deriving DecidableEq, Repr

/-- The caddy and the configuration. -/
structure CfState where
  /-- journal positions J0 and J1; none: no good record there -/
  j0 : Option Journal := none
  j1 : Option Journal := none
  /-- blend slots 0 and 1 -/
  slot0 : List Byte := []
  slot1 : List Byte := []
  /-- safety parameter copies SPA and SPB -/
  spa : List Byte := []
  spb : List Byte := []
  /-- key area copies KA and KB; none: no good copy there -/
  ka : Option KeyArea := none
  kb : Option KeyArea := none
  /-- a STAGE is in progress: the staged length -/
  staging : Option Nat := none
  /-- live activation pending at cycle A (R290), and the one being loaded (Table CF-9) -/
  actAt : Option Nat := none
  loading : Option Nat := none
  /-- NODEPARAM section the running node loaded -/
  params : List Byte := []
  /-- the blend the running node loaded, whole -/
  running : List Byte := []
  sp : Option SpPending := none
  /-- block delivered to PX, applied at the next boundary (R299) -/
  deliver : Option (List Byte) := none
  /-- boundaries until the seconds of this chapter count down -/
  secTick : Nat := 8000
  /-- three failed read-backs set the NV health word to DEGRADED (R280) -/
  nvBad : Bool := false
  deriving DecidableEq, Repr

/-- A session entry (R331 to R335). -/
structure Session where
  id : Nat := 0
  /-- 1 OPERATOR, 2 MAINTAINER, 3 INSTALLER, 4 SAFETY -/
  role : Nat := 0
  /-- 0 PCI Express, 1 QSPI, 2 console -/
  iface : Nat := 0
  /-- false: pending -/
  isOpen : Bool := false
  hnonce : List Byte := []
  chal : List Byte := []
  ks : List Byte := []
  /-- last accepted NONCE, the node's own counter, consecutive rejections -/
  lastNonce : Nat := 0
  ownNonce : Nat := 0x8000000000000001
  rejects : Nat := 0
  /-- CN at opening and at the last accepted command -/
  cnOpen : Nat := 0
  cnLast : Nat := 0
  /-- cycles since the last accepted command, or since the OPEN -/
  idle : Nat := 0
  deriving DecidableEq, Repr

/-- Sessions. -/
structure SeState where
  /-- at most 8 entries -/
  sessions : List Session := []
  /-- seconds since the last failure, by interface (R337) -/
  quiet : Sparse Nat := []
  deriving DecidableEq, Repr

end Sys2Proof.Machine
end

