-- ==== Sys2Proof/Machine/StateEm.lean ====
section
/-! DEFINITION. State of the Ethernet MACs that lies in no register (spec/14_ethernet.md). -/

namespace Sys2Proof.Machine

/-- What the node keeps for one MAC. -/
structure Mac where
  /-- completion records packed but not yet pushed, fewer than eight (R364) -/
  done : List (List Byte) := []
  /-- verify frames sent in the present verification (R366) -/
  verifySent : Nat := 0
  deriving DecidableEq, Repr

end Sys2Proof.Machine
end

