-- ==== Sys2Proof/Machine/StateHb.lean ====
section
/-! DEFINITION. State of the host interfaces and of the remote access bridge beyond their registers
(spec/11_host_bridge.md). -/

namespace Sys2Proof.Machine

/-- Who makes a register access: 0 PCI Express, 1 QSPI, 2 console, 3 a Milnak engine, 4 the bridge for another node,
5 the node itself. -/
structure Access where
  iface : Nat
  /-- role of the session of a REGWRITE or REGMODIFY; 0 for a direct access -/
  role : Nat := 0
  deriving DecidableEq, Repr

/-- A command frame that a ring runs (Table HB-5). -/
structure Cmd where
  cmdid : Nat
  opcode : Nat
  /-- SESSID of the session it runs under; 0 none -/
  session : Nat
  role : Nat
  /-- its response is TAGGED -/
  tagged : Bool
  params : List Byte
  deriving DecidableEq, Repr

/-- What a command in progress waits for (R313). -/
inductive Waiting where
  /-- its execution -/
  | none
  /-- the SUMMARY capture of the next boundary (R317) -/
  | summary
  /-- words of a REGREAD still to come: next address, words left, words read -/
  | read (addr left : Nat) (got : List (BitVec 32))
  /-- words of a REGWRITE still to go: next address, words left to write, words written -/
  | write (addr : Nat) (words : List (BitVec 32)) (done : Nat)
  /-- a proposal (R314) -/
  | proposal (pseq : Nat)
  deriving DecidableEq, Repr

/-- A command and response ring (R311 to R313). -/
structure Ring where
  cur : Option Cmd := none
  wait : Waiting := .none
  /-- a FLUSH came while the command ran: its response is discarded -/
  flush : Bool := false
  deriving DecidableEq, Repr

/-- Where a request of the bridge stands (R322, R323, R325). -/
inductive ReqState where
  /-- to be sent -/
  | due
  /-- sent, and not answered -/
  | sent
  /-- answered BUSY: repeated after `left` cycles -/
  | busy (left : Nat)
  /-- a fetch that holds its data for `left` cycles more -/
  | data (v : BitVec 32) (left : Nat)
  /-- a fetch that holds an error, the RESULT of R321, for `left` cycles more -/
  | failed (result left : Nat)
  deriving DecidableEq, Repr

/-- A fetch entry or a write-buffer entry. -/
structure Request where
  /-- order of the host accesses -/
  ord : Nat
  /-- the write value; none for a READ -/
  value : Option (BitVec 32)
  /-- requester interface, or 8 + k for a command of ring k -/
  who : Nat
  /-- address within the remote windows, target node and register address there -/
  addr : Nat
  target : Nat
  raddr : Nat
  rseq : Nat
  st : ReqState := .due
  /-- cycles since the first request was sent, and consecutive BUSY answers -/
  age : Nat := 0
  started : Bool := false
  tries : Nat := 0
  deriving DecidableEq, Repr

/-- A bridge record without its tag (Table HB-9). -/
structure BridgeRec where
  op : Nat
  rstat : Nat := 0
  rseq : Nat := 0
  peer : Nat := 0
  addr : Nat := 0
  data : Nat := 0
  deriving DecidableEq, Repr

/-- The host interfaces and the bridge. -/
structure HbState where
  rings : Sparse Ring := []
  /-- ARMED bits of the 16 vectors (R318) -/
  armed : Nat := 0xFFFF
  /-- MSI-X table words; Vector Control reads masked until written (log entry 26) -/
  msix : Sparse (BitVec 32) := []
  /-- pending bits of masked vectors -/
  pba : Nat := 0
  /-- HOST_IRQ_N is low (R309) -/
  irqLow : Bool := false
  /-- PCIE_PERST_N is asserted (R305) -/
  perst : Bool := false
  /-- word held for the next QSPI READ: address, word, and whether it came from an RC register (R308) -/
  held : Option (Nat × BitVec 32 × Bool) := none
  /-- status byte of the last completed QSPI WRITE (R306) -/
  qspiLast : Nat := 0x80
  /-- fetch entries, at most 32, and write-buffer entries, at most 64, oldest first (R322, R323) -/
  fetch : List Request := []
  writes : List Request := []
  /-- next order number and next RSEQ -/
  ord : Nat := 0
  rseq : Nat := 0
  /-- answers held for requests of other nodes, at most 16, and BUSY answers (R325) -/
  inbound : List BridgeRec := []
  busyOut : List BridgeRec := []
  /-- HB_RALAST and HB_RALASTADDR by interface (R321) -/
  ralast : Sparse (Nat × Nat) := []
  /-- polls sent and not answered: k and RSEQ (R326) -/
  polls : List (Nat × Nat) := []
  /-- k whose HB_RPAGE has just reached TMO (R326) -/
  staleDue : List Nat := []
  /-- bits of HB_RPMIRIRQ[k] that have risen since host software last wrote them (R318, R326) -/
  risen : Sparse Nat := []
  /-- targets of windows chosen by identity, looked up at each epoch commit (R319) -/
  idTarget : Sparse Nat := []
  /-- SUMMARY blocks issued since power-on reset -/
  sseq : Nat := 0
  /-- QSPI_CS_N asserted since the last read of HB_STAT -/
  qspiAct : Bool := false
  deriving DecidableEq, Repr

end Sys2Proof.Machine
end

