-- ==== Sys2Proof/Machine/StateIn.lean ====
section
/-! DEFINITION. State of the inauguration, the state image and the sequencer (spec/04_inauguration.md), and of the
redundancy logic (spec/06_redundancy.md), beyond their registers. -/

namespace Sys2Proof.Machine

/-- A number and orientation taken from a PREPARE, waiting for its COMMIT (R103, R106, R107). -/
structure Prepared where
  epoch : Nat := 0
  number : Nat := 0
  /-- orientation: 1 when the rear faces node 1 (R481) -/
  orient : Nat := 0
  leader : Nat := 0
  tdom : Nat := 0
  /-- TOTAL read on the return pass -/
  total : Nat := 0
  /-- IFLAGS, D and DMIN of the PREPARE -/
  flags : Nat := 0
  d : Nat := 0
  dmin : Nat := 0
  commitCn : Option Nat := none
  deriving DecidableEq, Repr

/-- An inauguration the node runs as leader (R103 to R106). -/
structure Inaug where
  epoch : Nat := 0
  /-- CN of the cycle of the PREPARE -/
  sentCn : Nat := 0
  count0 : Nat := 1
  flags : Nat := 0
  tdom : Nat := 0
  leader : Nat := 0
  d : Nat := 0
  dmin : Nat := 0
  commitCn : Nat := 0
  total : Nat := 0
  delaySum : Nat := 0
  /-- L of R92 and R106, in ns -/
  l : Nat := 0
  /-- lap limit Lm of R105, R106 -/
  lm : Nat := 10
  /-- the PREPARE has returned; the COMMIT is to be sent, or has been sent -/
  returned : Bool := false
  committed : Bool := false
  acks : Nat := 0
  /-- bytes 40 to 47 of a merge PREPARE -/
  plan : List Byte := []
  /-- nodes of the merged train; 0 outside a merge -/
  merged : Nat := 0
  deriving DecidableEq, Repr

/-- A plan of a merge (R115): fields of an admission record with PLAN set. -/
structure MergePlan where
  epoch : Nat
  commitCn : Nat
  lfirst : Nat
  leader : Nat
  tdom : Nat
  d : Nat
  dmin : Nat
  fast : Bool
  /-- at the yielding leader: Y is the tail, so COUNT counts down (R115) -/
  descend : Bool := false
  deriving DecidableEq, Repr

/-- Where one of the node's proposals stands (R120, R126). -/
structure Proposal where
  pseq : Nat
  sect : Nat
  op : Nat
  index : Nat
  boff : Nat
  data : List Byte
  /-- CN of the last submission, and submissions made again for want of a commit -/
  cn : Nat
  tries : Nat := 0
  epoch : Nat
  /-- submitted by a Milnak program, by IN_PROPCTL, by the PROPOSE command, or by the node itself -/
  origin : Nat
  deriving DecidableEq, Repr

/-- A proposal waiting at the leader (R121): its order is the position in the list. -/
structure Ordered where
  cn : Nat
  chan : Nat
  slot : Nat
  node : Nat
  pseq : Nat
  sect : Nat
  op : Nat
  index : Nat
  boff : Nat
  data : List Byte
  epoch : Nat
  /-- reject reason; 0 commits -/
  reason : Nat
  deriving DecidableEq, Repr

/-- A commit list read from the sequencer container (R122). -/
structure CommitList where
  cn : Nat
  lseq : Nat
  entries : List Byte
  deriving DecidableEq, Repr

/-- What the leader keeps of one node's roster lane (R124). -/
structure RosterRead where
  /-- REPORT last read with a good tag, 7 bytes -/
  report : List Byte := []
  fresh : Bool := false
  /-- consecutive cycles in which the lane was unusable on both channels -/
  missing : Nat := 0
  seenNow : Bool := false
  /-- ABSENT is due (R124) -/
  absentDue : Bool := false
  /-- what was last published for the node: a REPORT, or nothing left after an ABSENT -/
  sent : Option (List Byte) := none
  deriving DecidableEq, Repr

/-- A snapshot being received (R128). -/
structure SnapRx where
  cn : Nat
  bytes : Sparse Byte := []
  /-- ranges held: offset and length -/
  have_ : List (Nat × Nat) := []
  deriving DecidableEq, Repr

/-- The inauguration, the image and the sequencer. -/
structure InState where
  /-- the 160 ms link wait is over (R96) -/
  linkWaitOver : Bool := false
  /-- 200 ms more have passed without a valid CSF (Table IN-2) -/
  fallbackOver : Bool := false
  /-- BSEQ of the next beacon; last BSEQ used by identity (R99) -/
  bseq : Nat := 0
  beacons : List (Nat × Nat) := []
  /-- a port has entered or left UP since the beacons began (Table IN-2) -/
  portMoved : Bool := false
  /-- local CN at which the node won its cold start (R103) -/
  wonCn : Option Nat := none
  /-- the beacon window has passed: the node forms TDOM and sends its first CSF at the next boundary (R134) -/
  forming : Bool := false
  /-- CN of the last change of one of the node's ports (R105) -/
  portCn : Option Nat := none
  /-- largest NEWEPOCH seen since the epoch in force (R94) -/
  maxEpoch : Nat := 0
  prepared : Option Prepared := none
  inaug : Option Inaug := none
  /-- an inauguration is to be started (R103, R105, R110, R114, R128) -/
  wanted : Bool := false
  /-- a changed PORTS byte was read before the COMMIT of the inauguration in progress (R105) -/
  abandonNow : Bool := false
  /-- PREPARE and COMMIT payloads as they left this node, for a segment head to copy into its segment (R104) -/
  headCopy : List (List Byte) := []
  /-- completed PREPARE and COMMIT payloads the ring-B origin is to send (R480) -/
  ringBCopy : List (List Byte) := []
  /-- the plan Y has passed to its leader (R115) -/
  planFwd : Option MergePlan := none
  /-- L of the epoch in ns (R92, R115) -/
  epochL : Nat := 0
  /-- merge partners at the leader, oldest first: record, own end, fast; the last COUPLE record taken; plan at X;
  plan at the yielding leader (R114, R115) -/
  couples : List (List Byte × Bool × Bool) := []
  lastCouple : List Byte := []
  /-- the node handled the yielding COMMIT, so its records carry ACCEPT (R117) -/
  acceptTx : Bool := false
  plan : Option MergePlan := none
  yield : Option MergePlan := none
  /-- the leader's epoch is a merge, and no roster lane of a node without PRESENT has been read in it (R117) -/
  mergeCheck : Bool := false
  /-- own cn was taken provisionally from the winner's CSF (R116, R339) -/
  provisional : Bool := false
  /-- PREVLEADER and the CN of the split (R112, R119) -/
  prevLeader : Nat := 0
  splitCn : Nat := 0
  /-- next PSEQ and the node's own proposals -/
  pseq : Nat := 0
  proposals : List Proposal := []
  /-- leader: proposals in order, last PSEQ committed per node, LSEQ, last commit cycle named -/
  ordered : List Ordered := []
  lastPseq : Sparse Nat := []
  lseq : Nat := 0
  lastListCn : Nat := 0
  rosterNext : Nat := 0
  /-- the list of the cycle, for the container of channel B in ring and forerunner modes: CN and payload before the tag -/
  published : Option (Nat × List Byte) := none
  roster : Sparse RosterRead := []
  /-- lists kept for their commit cycles, and LSEQ of the last list kept -/
  lists : List CommitList := []
  lastLseq : Option Nat := none
  /-- recovery: RESYNC waits to be sent; the snapshot; its limit cycle -/
  resync : Bool := false
  /-- CN of the last RESYNC sent -/
  resyncCn : Option Nat := none
  snap : Option SnapRx := none
  /-- leader: snapshot cycle, its image, next offset to send -/
  snapTx : Option (Nat × Sparse Byte × Nat) := none
  snapWanted : Bool := false
  /-- leader: the last cycle with SNAP chains, and how many it sent in it (R128) -/
  snapSent : Nat × Nat := (0, 0)
  /-- RSEQ and the last REPORT composed (R129) -/
  rseq : Nat := 0
  report : List Byte := []
  /-- finished proposals of command rings, for their responses: ring, PSEQ, RESULT, REASON (R314) -/
  cmdDone : List (Nat × Nat × Nat × Nat) := []
  deriving DecidableEq, Repr

/-- A pair record (Table DU-3) as received, with the local CN of its cycle. -/
structure PairSeen where
  cn : Nat
  flags : Nat
  deriving DecidableEq, Repr

/-- An arbitration record waiting to be written (Table DU-7), and the channels it has been written on. -/
structure ArbOut where
  body : List Byte
  done : List Nat := []
  deriving DecidableEq, Repr

/-- What the redundancy logic keeps (spec/06_redundancy.md). -/
structure DuState where
  /-- pairing of movable and spare lanes: source lane address to target lane address (R163) -/
  moves : Sparse Nat := []
  /-- the pair this node arbitrates: lower and higher member; whether only as substitute (R177) -/
  arbLow : Nat := 0
  arbHigh : Nat := 0
  arbSub : Bool := false
  /-- records of lower and higher pair member as the arbiter received them, newest first (R178) -/
  lower : List PairSeen := []
  higher : List PairSeen := []
  /-- the member last seen with ROLE 0b01: 1 lower, 2 higher, 0 none (R179) -/
  holder : Nat := 0
  /-- records of the partner from the pair port, and from the line, newest first (R178, R181) -/
  partner : List PairSeen := []
  partnerLine : List PairSeen := []
  /-- CN of the last arbiter record with a good tag, and of the last GRANT that named this node (R180, R181) -/
  arbCn : Option Nat := none
  grantIn : Option Nat := none
  /-- the pair runs without an arbiter (R181) -/
  noArb : Bool := false
  /-- CN at which the member received its number, and at which the pair formed (R172) -/
  numberCn : Option Nat := none
  formCn : Option Nat := none
  /-- the node took the token: the boundary f + 4 at which programs run (R185) -/
  takeoverCn : Option Nat := none
  /-- the node completed its cycle programs of the cycle before (R176) -/
  ranAll : Bool := true
  /-- SFLAGS of the last record while the CX heartbeat ran (R176) -/
  lastFlags : Nat := 0
  /-- a checkpoint with a good CRC has been received; its CKSEQ; the sweep is unbroken; consecutive failures (R183) -/
  ckHave : Bool := false
  ckSeq : Option Nat := none
  ckClean : Bool := false
  ckBad : Nat := 0
  /-- a checkpoint arrived, and a good one, in the cycle now running -/
  ckRx : Bool := false
  ckGood : Bool := false
  /-- LSON and DIGEST of the latest checkpoint with a good CRC (R184, R187), the latter with its CN -/
  lson : Nat := 0
  ckDigest : Option (Nat × BitVec 32) := none
  /-- next CKSEQ, sweep position in bytes, and the checkpoint captured and not yet sent (R182, R183) -/
  ckTxSeq : Nat := 0
  ckSweep : Nat := 0
  ckOut : List Byte := []
  /-- DRAM, C-engine data SRAM and AX SRAM at the last capture, from which changed lines are told (R183) -/
  ckDram : Sparse Byte := []
  ckCx : Sparse Byte := []
  ckAx : Sparse Byte := []
  /-- CN from which SYNC has held without a break -/
  syncCn : Option Nat := none
  /-- hand-back: a REQUEST stands, and the CN it was last written (R186) -/
  request : Bool := false
  requestCn : Nat := 0
  /-- arbitration records waiting to be written -/
  arbOut : List ArbOut := []
  /-- arbitration records read and not yet acted on: their CN and bytes 0 to 7 (R186, R187) -/
  arbIn : List (Nat × List Byte) := []
  /-- shadow cycle s of a HANDOVER read, and whether the digests agreed (R187) -/
  shadow : Option Nat := none
  match_ : Bool := false
  /-- the active member has read MATCH: it becomes standby at this CN (R187) -/
  yieldCn : Option Nat := none
  /-- self-tests of a standby (Table DU-8): next C-engine, channels whose line-path BIST failed, FIT as last shown -/
  nextEngine : Nat := 0
  bistBad : Nat := 0
  fit : Bool := true
  /-- the identity last received on the pair port -/
  partnerId : Nat := 0
  deriving DecidableEq, Repr

end Sys2Proof.Machine
end

