-- ==== Sys2Proof/Machine/StateLs.lean ====
section
/-! DEFINITION. State of the load switches on PX that lies in no register (spec/18_load_switches.md). -/

namespace Sys2Proof.Machine

/-- One high-side channel. -/
structure Switch where
  on : Bool := false
  latched : Bool := false
  shed : Bool := false
  /-- failure count F (R450) -/
  fails : Nat := 0
  /-- boundaries left of a pause (R450) -/
  pause : Option Nat := none
  open_ : Bool := false
  /-- consecutive comparisons above and at or below 3.0 V (R456) -/
  above : Nat := 0
  below : Nat := 0
  /-- current, mA (R455) -/
  ma : Nat := 0
  deriving DecidableEq, Repr

/-- The load switches. -/
structure LoadState where
  chans : Sparse Switch := []
  /-- levels of SWIN_n -/
  swin : Nat := 0
  /-- LHOME_N is low; limp-home is in force (R448) -/
  lhomeLow : Bool := false
  limp : Bool := false
  /-- the CX heartbeat has been stopped for 2 cycles (Table LS-2 row 3) -/
  cxOff : Bool := false
  /-- VSW below 4.5 V (R454), ground lost (R458), VSW reversed (R459) -/
  vswUv : Bool := false
  noGround : Bool := false
  reversed : Bool := false
  /-- hand-overs CX could not record, newest first: start, mask, demand, CN (R449) -/
  held : List (Bool × Nat × Nat × Nat) := []
  deriving DecidableEq, Repr

/-- What the node keeps of power states and rounds beyond its registers (spec/16_power_sleep.md). -/
structure PowerState where
  /-- true between power-up of the node and BOOT_START: the boot has not run -/
  unbooted : Bool := true
  /-- kind of the reset the next boot reports (Table PW-3) -/
  resetKind : Nat := 0
  /-- a THERMAL reset is held (R402) -/
  thermal : Bool := false
  /-- boundaries since a power failure was signalled (R418) -/
  failing : Option Nat := none
  /-- boundaries since the CX heartbeat stopped (R401) -/
  beatLost : Nat := 0
  /-- slow-counter times of the WATCHDOG resets of the last 60 s, newest first (R401) -/
  wdTimes : List Nat := []
  /-- the slow counter and the value latched by a read of PW_SLOW_LO (R416) -/
  slow : BitVec 48 := 0#48
  slowHi : BitVec 32 := 0#32
  /-- this node's own standing request: whether it asks for DOZE (R406) -/
  request : Option Bool := none
  /-- the request is to be sent in a mini-slot -/
  requestDue : Bool := false
  /-- leader: a standing request is held, with its DOZE flag; who asked (R407) -/
  held : List (Nat × Bool) := []
  /-- leader: the round in progress: RSEQ, start cycle, NODES and epoch at its start, DOZE and IGNM flags -/
  round : Option (Nat × Nat × Nat × Nat × Bool × Bool) := none
  rseq : Nat := 0
  /-- leader: the returned CONSENT payload waiting for its evaluation (R410) -/
  consent : List Byte := []
  /-- leader: PARK was sent, with this PARKCN -/
  parkSent : Option Nat := none
  /-- a PARK was read: RSEQ, park boundary and its DOZE flag (R411) -/
  park : Option (Nat × Nat × Bool) := none
  /-- this node asked for the round whose PARK it read -/
  asker : Bool := false
  /-- an ABORT was sent for the park read (R412) -/
  aborted : Bool := false
  /-- leader: a shortfall was read in time (R411, R412) -/
  shortfall : Bool := false
  /-- boundaries with no port in UP and no U condition (R415) -/
  aloneFor : Nat := 0
  /-- a U condition held at PARKCN: a wake tone follows once no port has been UP for 20 ms (R413) -/
  vetoWake : Option Nat := none
  /-- boundaries since RUN was entered or the last U condition ended (R406) -/
  quietFor : Nat := 0
  /-- boundaries since the last failed round (R406) -/
  retryIn : Option Nat := none
  /-- gasps still to send, and the CN of the failure (R419) -/
  gasp : Option (Nat × Nat) := none
  /-- the target of a TARGET write or of the round that waits for its boundary -/
  moveTo : Option Nat := none
  /-- PW_CTL.RESET was written: the reset follows the response (R421) -/
  softReset : Bool := false
  /-- senders and CNs of the gasps recorded (R419) -/
  gaspSeen : Sparse Nat := []
  deriving DecidableEq, Repr

end Sys2Proof.Machine
end

