-- ==== Sys2Proof/Machine/StateMk.lean ====
section
/-! DEFINITION. State of the Milnak engines and programs (spec/07_milnak.md). -/

namespace Sys2Proof.Machine

/-- A grant of a program header (Table MK-4). -/
structure Grant where
  base : Nat := 0
  len : Nat := 0
  /-- GKIND 1: queue numbers; GKIND 0: memory -/
  queues : Bool := false
  read : Bool := false
  write : Bool := false
  shared : Bool := false
  deriving DecidableEq, Repr

/-- The kind of a program (Table MK-4). -/
inductive ProgKind where
  | none | cycle | event | selftest
  deriving DecidableEq, Repr

/-- A program header (Table MK-4). -/
structure Header where
  kind : ProgKind := .none
  /-- LCLASS: 0 G, 1 N, 2 A, 3 D -/
  lclass : Nat := 0
  bound : Nat := 0
  entry : Nat := 0
  codelen : Nat := 0
  traplim : Nat := 8
  prio : Nat := 0
  srcKind : Nat := 0
  srcArg : Nat := 0
  sigexp : BitVec 32 := 0#32
  grants : List Grant := []
  deriving DecidableEq, Repr

/-- A loaded program and what the node keeps of it between runs. -/
structure Prog where
  hdr : Header := {}
  /-- MK_PROGCFG.ENABLE and PHASE in force after R214 -/
  enable : Bool := false
  phase : Nat := 0
  /-- pending event count (R216) -/
  pendCount : Nat := 0
  /-- data of the first firing counted -/
  firstData : BitVec 32 := 0#32
  fault : Bool := false
  lastCause : Nat := 0
  /-- consecutive traps -/
  traps : Nat := 0
  /-- RESTART waits for the next boundary (R221) -/
  restart : Bool := false
  /-- the context slot holds a context to restore (R222); false: the next run begins cleared (R192) -/
  hasContext : Bool := false
  /-- a cycle program has run in this cycle -/
  ranThisCycle : Bool := false
  /-- a pending event run has been found not to fit a gap (MK_CNT[5] counts the run that waited once) -/
  waited : Bool := false
  deriving DecidableEq, Repr

/-- One level of LOOP (R200). -/
structure LoopFrame where
  start : Nat
  stop : Nat
  left : Nat
  deriving DecidableEq, Repr

/-- What an engine is doing (MK_ENGSTAT.STATE). -/
inductive EngState where
  | off | halted | idle | running | selftest | shadow
  deriving DecidableEq, Repr

/-- One engine: its registers and its run. -/
structure Engine where
  st : EngState := .off
  /-- PROGID of the current run; its slot is j = PROGID mod 16 -/
  prog : Nat := 0
  evRun : Bool := false
  g : Sparse (BitVec 32) := []
  /-- lane k of register i under key 8 i + k -/
  v : Sparse (BitVec 32) := []
  /-- lane k of accumulator i under key 8 i + k -/
  acc : Sparse (BitVec 64) := []
  lm : Nat := 0x3F
  dz : Bool := false
  /-- instruction index -/
  pc : Nat := 0
  loops : List LoopFrame := []
  /-- clocks used by the run so far -/
  clk : Nat := 0
  /-- clocks used by runs in this cycle (MK_ENGHWM) -/
  cycleClk : Nat := 0
  /-- cycle whose boundary the run started in -/
  runCn : CN := 0#48
  evCount : Nat := 0
  evData : BitVec 32 := 0#32
  /-- consecutive traps before this run -/
  trapsBefore : Nat := 0
  /-- buffered register-window stores: address, bytes wide, value; oldest first (R195) -/
  stores : List (Nat × Nat × BitVec 32) := []
  /-- lout contributions of the run: lane address and six samples; oldest first (R206) -/
  louts : List (Nat × List (BitVec 32)) := []
  /-- output units of the I/O buffer region the run stored into (R207) -/
  units : List Nat := []
  deriving DecidableEq, Repr

/-- What the node keeps of one program proposal (R202). -/
inductive ProposalState where
  | pending | committed | rejected (reason : Nat) | timeout
  deriving DecidableEq, Repr

/-- Milnak. -/
structure MkState where
  engines : Sparse Engine := []
  progs : Sparse Prog := []
  /-- instruction memory: byte a of engine e under key 65536 e + a -/
  imem : Sparse Byte := []
  /-- CX data SRAM, 2 MiB -/
  cxram : Sparse Byte := []
  /-- AX SRAM, 8 MiB, the I/O buffer region included -/
  axram : Sparse Byte := []
  /-- program proposals, newest first, at most 64: PSEQ and state (R202) -/
  proposals : List (Nat × ProposalState) := []
  /-- run that last stored into an output unit in this cycle: unit and PROGID, and whether that run trapped (R207) -/
  unitWriter : Sparse (Nat × Bool) := []
  /-- a self-test asked for by MK_STCTL is in progress on this engine -/
  selftest : Option Nat := none
  /-- own blocks of production cycle c being collected: lane address and six samples (R206) -/
  ownBlocks : Sparse (List (BitVec 32)) := []
  /-- the image as it stood at step 3 of the last boundary, from which changed sections are told (Table MK-13) -/
  imageSeen : Sparse Byte := []
  /-- the runs of this cycle are shadow runs of cycle s (R187, R225) -/
  shadowCn : Option CN := none
  /-- digest input of shadow runs, oldest first (R225) -/
  shadowBytes : List Byte := []
  deriving DecidableEq, Repr

end Sys2Proof.Machine
end

