-- ==== Sys2Proof/Machine/StateOut.lean ====
section
/-! DEFINITION. What the node emits: the outputs of the last command, in order (log entry 7). -/

namespace Sys2Proof.Machine

/-- One thing the node puts out on a pin or a link. -/
inductive Output where
  /-- a frame sent on line port `p` -/
  | line (p : Nat) (bytes : List Byte)
  /-- a frame of channel `c` of a node alone on it: it passes only through the node's own line die (R55) -/
  | ownCycle (c : Nat) (bytes : List Byte)
  /-- a frame ended with an error control block on port `p` (R45, R89) -/
  | lineError (p : Nat)
  /-- the window of a frame forwarded as idle on port `p` (R89) -/
  | lineIdle (p : Nat)
  /-- link-drop ordered set on port `p` -/
  | linkDrop (p : Nat)
  /-- admission record in an identity block on port `p` (R112) -/
  | admission (p : Nat) (bytes : List Byte)
  /-- neighbour signal on port `p` (R175) -/
  | neighbour (p : Nat) (bytes : List Byte)
  /-- pair record, health word and checkpoint on the pair port -/
  | pairPort (bytes : List Byte)
  /-- wake tone on port `p` -/
  | wakeTone (p : Nat)
  /-- pulse pin `i` goes to a level -/
  | tout (i : Nat) (level : Bool)
  /-- a data word returned to the host or to QSPI -/
  | word (v : BitVec 32)
  /-- bytes returned to the host: a QSPI answer, a console text -/
  | bytes (b : List Byte)
  /-- an MSI-X vector or the interrupt pin -/
  | interrupt (vector : Nat)
  /-- a frame of the car star on branch `b` -/
  | star (b : Nat) (bytes : List Byte)
  /-- an Ethernet frame from MAC `m` -/
  | ether (m : Nat) (bytes : List Byte)
  /-- a verify frame of MAC `m`, or the response to one (R366) -/
  | verify (m : Nat) (response : Bool)
  /-- a CAN frame from controller `c` -/
  | can (c : Nat) (f : CanFrame)
  /-- samples on TDM port `k`, one per slot -/
  | tdm (k : Nat) (samples : List (BitVec 32))
  /-- a sample on analogue output `i` -/
  | analog (i : Nat) (sample : BitVec 32)
  /-- SENSE_k: at the fault level, or sourcing the current of a channel in mA (R455) -/
  | sense (k : Nat) (fault : Bool) (ma : Nat)
  /-- a pin of the safety channel, of a load switch, or another output pin goes to a level -/
  | pin (name : String) (i : Nat) (level : Bool)
  deriving DecidableEq, Repr

end Sys2Proof.Machine
end

