-- ==== Sys2Proof/Machine/StateQm.lean ====
section
/-! DEFINITION. State of the queue manager and the log paths (spec/09_queues.md). -/

namespace Sys2Proof.Machine

/-- The KIND of a queue (Table QM-1); the code 0b11 is treated as off. -/
inductive QueueKind where
  | off | cell | frame
  deriving DecidableEq, Repr

/-- A queue descriptor (Table QM-1).  Its 16 bytes lie in the descriptor table in DRAM, which only the queue
manager changes (R260): a read of the table shows these fields. -/
structure Desc where
  /-- CELLCFG.BASE: the first pool cell of the ring -/
  base : Nat := 0
  /-- CELLCFG.SIZE: the ring holds 2^SIZE cells -/
  size : Nat := 0
  kind : QueueKind := .off
  /-- the raw KIND code written, 0b11 included -/
  kindCode : Nat := 0
  /-- free-running count of cells removed, 24 bits -/
  head : Nat := 0
  /-- free-running count of cells added, 24 bits -/
  tail : Nat := 0
  weirEn : Bool := false
  locked : Bool := false
  weir : Nat := 0
  /-- entries dropped at ingress, stopping at 0xFFFF -/
  drops : Nat := 0
  deriving DecidableEq, Repr

/-- A weir (R267).  TOK is kept in 1/256 byte. -/
structure Weir where
  rate : Nat := 0
  burst : Nat := 0
  /-- signed token count in 1/256 byte -/
  tok : Int := 0
  /-- RATE and BURST written through QM_WSEL, with the boundaries still to wait (R269, R9) -/
  writes : List (Nat × Nat × Nat) := []
  forgive : Bool := false
  deriving DecidableEq, Repr

/-- The class of an event record (Table QM-5). -/
inductive Class where
  | s | d | n | a | g
  deriving DecidableEq, Repr

/-- A 32-byte event record (Table QM-5). -/
structure EventRecord where
  cn : CN := 0#48
  code : BitVec 16 := 0#16
  ts : BitVec 32 := 0#32
  cls : Class := .g
  unpersisted : Bool := false
  summary : Bool := false
  source : BitVec 16 := 0#16
  node : Nat := 0
  lseq : BitVec 16 := 0#16
  /-- the 12 DATA bytes -/
  data : List Byte := []
  deriving DecidableEq, Repr

/-- One suppression count of a path (R277). -/
structure Suppressed where
  code : BitVec 16 := 0#16
  cls : Class := .g
  count : Nat := 0
  firstCn : CN := 0#48
  firstLseq : BitVec 16 := 0#16
  deriving DecidableEq, Repr

/-- What the node keeps for one queue path of Table QM-7 (queues 16 to 20, 21, 22, 23). -/
structure LogPath where
  /-- records packed but not yet pushed, fewer than four (R274) -/
  part : List EventRecord := []
  /-- suppression counts in the order in which each began (R277) -/
  supp : List Suppressed := []
  /-- delivery pointer: the number of the next class S record the path takes (R275) -/
  next : Nat := 0
  deriving DecidableEq, Repr

/-- A class S record in the caddy safety area, or held in CX SRAM while NV is FAILED (R275). -/
structure SafetyEntry where
  /-- its number in the order of recording -/
  num : Nat
  record : EventRecord
  /-- false: held in CX SRAM, UNPERSISTED -/
  kept : Bool
  deriving DecidableEq, Repr

/-- A class S record whose caddy write is not complete: it has set no event bit and is visible nowhere (R275). -/
structure SafetyWait where
  record : EventRecord
  /-- register and bit the event sets once the write is complete -/
  evtReg : Option (Nat × Nat)
  deriving DecidableEq, Repr

/-- The log front end (R272 to R278). -/
structure LogState where
  /-- LSEQ of the last record -/
  lseq : BitVec 16 := 0#16
  /-- class S records whose caddy write has not completed, oldest first -/
  waiting : List SafetyWait := []
  /-- caddy safety area and unpersisted records, oldest first -/
  safety : List SafetyEntry := []
  /-- number the next class S record takes -/
  safetyNum : Nat := 0
  /-- records not yet written to the caddy history ring, oldest first (R276) -/
  batch : List EventRecord := []
  /-- caddy history ring, oldest first (R274) -/
  history : List EventRecord := []
  /-- recent buffer, newest first (R274) -/
  recent : List EventRecord := []
  /-- the copy latched by the last read of QM_RECENT[0] -/
  latched : List EventRecord := []
  paths : Sparse LogPath := []
  deriving DecidableEq, Repr

/-- The queue manager. -/
structure QmState where
  desc : Sparse Desc := []
  weirs : Sparse Weir := []
  log : LogState := {}
  /-- a class G event for table writes has been recorded in this cycle (R260) -/
  tabWrLogged : Bool := false
  /-- node number of the collector of line log records, resolved at each epoch; 0 none (R278) -/
  collector : Nat := 0
  /-- line records go on channel B because channel A does not reach the collector (R278) -/
  logOnB : Bool := false
  deriving DecidableEq, Repr

end Sys2Proof.Machine
end

