-- ==== Sys2Proof/Machine/StateSf.lean ====
section
/-! DEFINITION. State of the safety channel on PX that lies in no register (spec/17_safety.md). -/

namespace Sys2Proof.Machine

/-- One contact of a handle (R422 to R424); contact A of pair n is 2 n, contact B 2 n + 1. -/
structure Contact where
  /-- last sample that counted: true operated -/
  last : Bool := false
  /-- filtered state: true operated -/
  filt : Bool := false
  /-- consecutive samples in the state that is not the filtered one -/
  cnt : Nat := 0
  /-- consecutive test pulses in which it read at rest -/
  tpBad : Nat := 0
  /-- a test-pulse fault since the last clearing -/
  tpErr : Bool := false
  deriving DecidableEq, Repr

/-- State of a pair (Table SF-1). -/
inductive PairSt where
  | unused | rest | one | tripped | return | fault
  deriving DecidableEq, Repr

/-- One pair: its state and the samples its discrepancy time has run. -/
structure Pair where
  st : PairSt := .unused
  disc : Option Nat := none
  deriving DecidableEq, Repr

/-- One safety output (R426, R427). -/
structure SafeOut where
  on : Bool := false
  /-- the read-back is at the level of an energised output -/
  high : Bool := false
  /-- samples since it was switched off; none while it has read low since, or is on -/
  falling : Option Nat := none
  /-- consecutive samples of disagreement -/
  bad : Nat := 0
  darkOk : Bool := false
  deriving DecidableEq, Repr

/-- A lock-out (Table SF-2): cause, detail and the low 16 bits of its CN. -/
structure SafeLock where
  cause : Nat
  detail : Nat := 0
  cnlo : Nat := 0
  deriving DecidableEq, Repr

/-- What PX keeps of the safety records of one node (R436 to R438). -/
structure SafeMon where
  uid : Nat := 0
  seq : Nat := 0
  /-- monitored (R437) -/
  mon : Bool := false
  tmo : Bool := false
  trip : Bool := false
  lock : Bool := false
  /-- cycles since the last accepted record, stopping at 255 -/
  age : Nat := 0
  /-- consecutive expected records accepted, and the CN of the last -/
  run : Nat := 0
  cn : Nat := 0
  deriving DecidableEq, Repr

/-- The safety channel. -/
structure SafeState where
  /-- the channel is powered (Line power group) -/
  powered : Bool := false
  /-- the parameter block in force -/
  block : Option (List Byte) := none
  /-- lock-out state, held in the always-on island (R400, R428) -/
  lock : Option SafeLock := none
  uvlo : Bool := false
  /-- the start-up test runs; it has passed (R430) -/
  testing : Bool := false
  started : Bool := false
  contacts : Sparse Contact := []
  pairs : Sparse Pair := []
  outs : Sparse SafeOut := []
  /-- samples left of the blanking of each test-pulse output -/
  blank0 : Nat := 0
  blank1 : Nat := 0
  /-- VBAT at the last sample, units of 10 mV -/
  vbat : Nat := 0
  /-- the line trip in force: first node, reason, low 16 bits of the CN (R439) -/
  line : Option (Nat × Nat × Nat) := none
  mons : Sparse SafeMon := []
  /-- reset code that waits for its entry, and wrong entries (R433) -/
  code : Option (BitVec 32 × Nat) := none
  /-- SEQ of the last record written, the cycle it was written in, and its STATE (R435) -/
  seq : Nat := 0
  seqCn : Option Nat := none
  seqState : Nat := 0
  /-- STATE bytes after the last three samples, newest first (the 20 µs of R435) -/
  states : List Nat := []
  /-- limp-home mask in the island (R448) -/
  lhmask : Nat := 0
  deriving DecidableEq, Repr

end Sys2Proof.Machine
end

