-- ==== Sys2Proof/Machine/StateSt.lean ====
section
/-! DEFINITION. State of the car star beyond its registers (spec/13_car_star.md). -/

namespace Sys2Proof.Machine

/-- States of a branch (Table ST-6). -/
inductive BranchState where
  | off | train | sync | held | active | disc
  deriving DecidableEq, Repr

/-- An uplink message chain being joined (R355). -/
structure UplinkChain where
  ts : BitVec 32
  cnlo : Nat
  payload : List Byte
  /-- cycle and slot of the next fragment -/
  nextCn : Nat
  nextSlot : Nat
  deriving DecidableEq, Repr

/-- What the node keeps for one branch. -/
structure Branch where
  st : BranchState := .off
  /-- an EUID has been seen since power-on reset; it stands in ST_BREUID -/
  seen : Bool := false
  /-- boundaries since power-on reset at which the link was lost, and at which it trained -/
  lostAt : Option Nat := none
  trainedAt : Nat := 0
  /-- SYNC egress of the cycle now running, ns -/
  egress : Option (BitVec 32) := none
  /-- LOOPDLY of the last 8 good STATUS frames, newest first -/
  loops : List Int := []
  /-- a good STATUS of the cycle now running was accepted -/
  statusOk : Bool := false
  /-- consecutive cycles without good STATUS -/
  miss : Nat := 0
  /-- ages in cycles of the violations of the last 64 cycles -/
  viols : List Nat := []
  /-- downlink message being sent: payload and bytes already sent -/
  down : Option (List Byte × Nat) := none
  up : Option UplinkChain := none
  deriving DecidableEq, Repr

end Sys2Proof.Machine
end

