-- ==== Sys2Proof/Machine/StateTb.lean ====
section
/-! DEFINITION. State of the time base beyond its registers (spec/05_time_base.md). -/

namespace Sys2Proof.Machine

/-- A pulse pin (R154, R155): what was latched when it was armed. -/
structure Tout where
  armed : Bool := false
  periodic : Bool := false
  activeLow : Bool := false
  /-- domain time of the next pulse in ns -/
  next : Nat := 0
  per : Nat := 0
  wid : Nat := 0
  /-- a pulse is in progress, and the domain time of its end -/
  active : Bool := false
  stop : Nat := 0
  /-- a pulse has started since the last arming -/
  fired : Bool := false
  deriving DecidableEq, Repr

/-- A captured edge (R156). -/
structure TcapEntry where
  ns : BitVec 32
  cnlo : Nat
  rise : Bool
  deriving DecidableEq, Repr

/-- A capture pin: its store, oldest first, and whether its oldest entry is latched. -/
structure Tcap where
  fifo : List TcapEntry := []
  latched : Option TcapEntry := none
  /-- time in ns of the last captured edge -/
  last : Option Nat := none
  deriving DecidableEq, Repr

/-- The time base. -/
structure TbState where
  /-- NS in bits 63:32, the fraction in bits 31:0 (R131) -/
  counter : BitVec 64 := 0#64
  /-- INCR, unsigned 32.32 (R131) -/
  incr : BitVec 64 := 0x0000000200000000#64
  /-- ticks of the time PLL since the counter started (n4 of R136) -/
  ticks : Nat := 0
  /-- local CN (R16, R479) -/
  cn : CN := 0#48
  /-- counter value at the last local boundary -/
  boundary : BitVec 64 := 0#64
  /-- domain time in ns of the last local boundary: 125,000 c (R133, R479) -/
  boundaryT : Nat := 0
  /-- the counter runs (LINE-ONLY and RUN) -/
  running : Bool := false
  /-- consecutive boundaries with |off| at most 200 ns (R144) -/
  alignRun : Nat := 0
  /-- consecutive cycles in which no candidate carried a valid exchange (R145) -/
  noExch : Nat := 0
  /-- q_mean8 as last computed (R140, R145) -/
  qMean : Frac := ⟨1, 1⟩
  /-- the last time service record read with a good tag: TDOM, TREV, HOLDCN, and the CN it came in -/
  recTdom : Nat := 0
  recTrev : Nat := 0
  recHold : Nat := 0
  recCn : Option Nat := none
  /-- root changes within the TDOM, and the CN at which the present root took over (Table TB-1) -/
  trev : Nat := 0
  holdCn : Nat := 0
  /-- CN latched by a read of TB_NOW_NS, and INCR_HI latched by a read of TB_INCR_LO -/
  latchedCn : CN := 0#48
  latchedIncr : BitVec 32 := 0x00000002#32
  /-- the node stepped in the cycle now running (R142, R370) -/
  stepNow : Bool := false
  tout : Sparse Tout := []
  tcap : Sparse Tcap := []
  deriving DecidableEq, Repr

end Sys2Proof.Machine
end

