-- ==== Sys2Proof/Machine/State.lean ====
section
/-! DEFINITION. The state of the VT8400: registers, memories, what each block keeps beyond its registers, the queue of
waiting commands, the three outcomes' reason types, and the state after reset.

Registers live in one sparse map by address, at the reset values of Machine/RegTable.lean (the register tables of spec/01
to spec/18).  An RW-S register has two values: the one last written, which reads show (`regs`), and the one in force
(`force`), which blocks use; a write waits in `shadow` for its boundary (R9, R18). -/

namespace Sys2Proof.Machine

/-- An RW-S write that waits for its boundary (R9, R18). -/
structure ShadowWrite where
  addr : Nat
  value : BitVec 32
  /-- boundaries still to wait: 1, or 2 for a write in the last 200 ns (R9) -/
  wait : Nat
  deriving DecidableEq, Repr

/-- The node: everything the spec gives the block. -/
structure Node where
  /-- the factory identity (AC_UID, log entry 4) -/
  uid : Uid := Config.factoryId
  /-- registers by address: what a read shows -/
  regs : Sparse (BitVec 32) := []
  /-- values in force of RW-S registers (R9) -/
  force : Sparse (BitVec 32) := []
  shadow : List ShadowWrite := []
  /-- DRAM, 4 GiB, by byte offset (R264; log entry 1) -/
  dram : Sparse Byte := []
  /-- the live state image and the host view of it (R22, R24, Table AC-6) -/
  image : Sparse Byte := []
  view : Sparse Byte := []
  /-- how many free values have been drawn (log entry 2): the model's own field -/
  free : Nat := 0
  /-- what the node has put out in the last command (log entry 7): the model's own field -/
  out : List Output := []
  /-- queues, weirs and logs -/
  qm : QmState := {}
  /-- Milnak engines, programs and their memories -/
  mil : MkState := {}
  /-- time base -/
  tb : TbState := {}
  /-- line ports and line cycle -/
  line : LineState := {}
  /-- inauguration, image recovery and sequencer -/
  inn : InState := {}
  /-- breaks, lanes and pairs -/
  du : DuState := {}
  /-- audio -/
  au : AuState := {}
  /-- caddy and blends -/
  cf : CfState := {}
  /-- sessions and lock-outs -/
  se : SeState := {}
  /-- branches of the car star -/
  st : Sparse Branch := []
  /-- Ethernet MACs -/
  em : Sparse Mac := []
  /-- CAN controllers -/
  cb : Sparse Can := []
  /-- safety channel -/
  sa : SafeState := { lock := some { cause := 7 } }
  /-- load switches -/
  ls : LoadState := {}
  /-- power states and rounds -/
  pw : PowerState := {}
  /-- host interfaces and bridge -/
  hb : HbState := {}
  /-- consecutive boundaries with HOLD = 1 (R26) -/
  holdRun : Nat := 0
  /-- boundaries since the last power-on reset -/
  up : Nat := 0
  deriving DecidableEq, Repr

/-- The state: the node, and the commands that wait, first in, first out. -/
structure State where
  node : Node := {}
  pending : List Instr := []
  deriving DecidableEq, Repr

/-- Faults: none.  Every error the spec describes has an effect on the node (an event, a status, a trap of an engine, a
refused command), so no command of the block ends in a fault. -/
inductive Fault where
  deriving DecidableEq, Repr

/-- Refusals. -/
inductive Refusal where
  /-- a command that has no meaning yet; raised by an arm of `exec` alone; safe -/
  | notModelled (mnemonic : String)
  deriving DecidableEq, Repr

/-- The node right after a power-on reset, before its boot: registers at their reset values, memories with nothing
listed, the caddy empty, the queue empty (Tables PW-3 and PW-4; log entries 1, 3, 4). -/
def State.reset : State := {}

end Sys2Proof.Machine
end

