-- ==== Sys2Proof/Machine/Ops.lean ====
section
/-! DEFINITION. The named operations over registers, counters, memory and free values that every chapter's
meanings share. -/

namespace Sys2Proof.Machine

/-! ### Fields -/

/-- The value of a field of a register word. -/
def fget (v : BitVec 32) (f : Field) : Nat := bits v.toNat f.lo f.width

/-- A register word with one field replaced; the value is cut to the field's width. -/
def fset (v : BitVec 32) (f : Field) (x : Nat) : BitVec 32 :=
  (v &&& ~~~ (BitVec.ofNat 32 ((2 ^ f.width - 1) * 2 ^ f.lo)))
    ||| BitVec.ofNat 32 ((x % 2 ^ f.width) * 2 ^ f.lo)

/-! ### Registers -/

/-- The word a register holds: the last value written, or what the node shows there. -/
def rd (n : Node) (a : Nat) : BitVec 32 := look (resetValue a) n.regs a

/-- Set the word a register holds. -/
def wr (n : Node) (a : Nat) (v : BitVec 32) : Node := { n with regs := put (resetValue a) n.regs a v }

/-- A field of a register. -/
def gf (n : Node) (a : Nat) (f : Field) : Nat := fget (rd n a) f

/-- Set a field of a register. -/
def sf (n : Node) (a : Nat) (f : Field) (x : Nat) : Node := wr n a (fset (rd n a) f x)

/-- The value in force of an RW-S register: the last value latched at a boundary (R18). -/
def inForce (n : Node) (a : Nat) : BitVec 32 := look (resetValue a) n.force a

/-- A field in force of an RW-S register. -/
def ff (n : Node) (a : Nat) (f : Field) : Nat := fget (inForce n a) f

/-- Bit `i` of a register. -/
def rbit (n : Node) (a i : Nat) : Bool := bitOf (rd n a).toNat i

/-- Set bit `i` of a register. -/
def sbit (n : Node) (a i : Nat) : Node := sf n a ⟨i, 1⟩ 1

/-- Clear bit `i` of a register. -/
def cbit (n : Node) (a i : Nat) : Node := sf n a ⟨i, 1⟩ 0

/-- Give a field one of two values by a truth value. -/
def sflag (n : Node) (a : Nat) (f : Field) (b : Bool) : Node := sf n a f (b2n b)

/-- Count `k` in a 32-bit counter that stops at its all-ones value (R11). -/
def countBy (n : Node) (a k : Nat) : Node :=
  wr n a (BitVec.ofNat 32 (min ((rd n a).toNat + k) 0xFFFFFFFF))

/-- Count one (R11). -/
def count (n : Node) (a : Nat) : Node := countBy n a 1

/-- Count one in a field that stops at its all-ones value (R11). -/
def countField (n : Node) (a : Nat) (f : Field) : Node := sf n a f (min (gf n a f + 1) (2 ^ f.width - 1))

/-- A 64-bit value shown in two registers. -/
def wr64 (n : Node) (lo hi v : Nat) : Node :=
  wr (wr n lo (BitVec.ofNat 32 v)) hi (BitVec.ofNat 32 (v / 2 ^ 32))

/-- The 64-bit value two registers hold. -/
def rd64 (n : Node) (lo hi : Nat) : Nat := (rd n lo).toNat + 2 ^ 32 * (rd n hi).toNat

/-- The 64-bit value in force in two RW-S registers. -/
def ff64 (n : Node) (lo hi : Nat) : Nat := (inForce n lo).toNat + 2 ^ 32 * (inForce n hi).toNat

/-! ### Time -/

/-- NS of the time base counter (spec/05_time_base.md). -/
def nowNs (n : Node) : BitVec 32 := (n.tb.counter >>> 32).setWidth 32

/-! ### Free values -/

/-- A fresh free value (log entry 2) and the node with the counter advanced. -/
def freshWord (n : Node) : BitVec 64 × Node := (Config.freeWord n.free, { n with free := n.free + 1 })

/-- Run `f` for each number below `k`, in rising order. -/
def forRange (k : Nat) (f : Node → Nat → Node) (n : Node) : Node := (List.range k).foldl f n

/-- The node with the outputs of the last command cleared (log entry 7). -/
def quiet (n : Node) : Node := { n with out := [] }

/-- The factory identity is fused into the part: whatever a command does, the node keeps its own (R33). -/
def keepId (n m : Node) : Node := { m with uid := n.uid }

/-- A command whose effect on everything but the queue is `f`: it answers the next state, whose outputs are those
of this command alone, and whose factory identity is the node's own. -/
def onNode (s : State) (f : Node → Node) : Host.Outcome State Fault Refusal :=
  .next { s with node := keepId s.node (f (quiet s.node)) }

/-- Put out one thing. -/
def emit (n : Node) (o : Output) : Node := { n with out := n.out ++ [o] }

/-- Do `f` when `b` holds. -/
def doIf (b : Bool) (f : Node → Node) (n : Node) : Node := if b then f n else n

end Sys2Proof.Machine
end

