-- ==== Sys2Proof/Machine/Fire.lean ====
section
/-! DEFINITION. Firing of event programs (R215, R216), and the store of programs and engines. -/

namespace Sys2Proof.Machine

/-- Program `k`. -/
def prog (n : Node) (k : Nat) : Prog := look {} n.mil.progs k

/-- Set program `k`. -/
def setProg (n : Node) (k : Nat) (p : Prog) : Node := { n with mil := { n.mil with progs := put {} n.mil.progs k p } }

/-- Engine `e`. -/
def engine (n : Node) (e : Nat) : Engine := look {} n.mil.engines e

/-- Set engine `e`. -/
def setEngine (n : Node) (e : Nat) (x : Engine) : Node :=
  { n with mil := { n.mil with engines := put {} n.mil.engines e x } }

/-- A firing of event program `k` with some data (R216): counted, coalesced, or discarded. -/
def fireProg (n : Node) (k : Nat) (data : BitVec 32) : Node :=
  let p := prog n k
  if p.hdr.kind ≠ .event then n
  else if !p.enable || p.fault then sf (count n (R.MK_CNT 4)) R.MK_EVT F.MK_EVT_EVDROP 1
  else
    let n := if p.pendCount = 0 then n else count n (R.MK_CNT 3)
    setProg n k { p with pendCount := min (p.pendCount + 1) 65535
                         firstData := if p.pendCount = 0 then data else p.firstData }

/-- The programs an event source fires (Table MK-13).  A trap source of 0xFFFF stands for any program. -/
def firedBy (n : Node) (kind arg : Nat) : List Nat :=
  (n.mil.progs.filter (fun e =>
    decide (e.2.hdr.kind = .event) && e.2.hdr.srcKind == kind
      && (e.2.hdr.srcArg == arg || (kind == 4 && e.2.hdr.srcArg == 0xFFFF)))).map (·.1)

/-- A source of Table MK-13 fires with the data it carries. -/
def fireSource (n : Node) (kind arg : Nat) (data : BitVec 32) : Node :=
  (firedBy n kind arg).foldl (fun n k => fireProg n k data) n

/-- A source whose data the spec does not state fires: the data is a free value (log entry 2). -/
def fireUnstated (n : Node) (kind arg : Nat) : Node :=
  let (v, n) := freshWord n
  fireSource n kind arg (v.setWidth 32)

end Sys2Proof.Machine
end

