-- ==== Sys2Proof/Machine/Queues.lean ====
section
/-! DEFINITION. Queues, cells, frames and weirs as every producer and consumer uses them (R259 to R269). -/

namespace Sys2Proof.Machine

/-- 16 MiB, the unit of QM_POOLCFG. -/
def poolUnit : Nat := 0x1000000

/-- DRAM offset of the descriptor table. -/
def tableBase (n : Node) : Nat := gf n R.QM_POOLCFG F.QM_POOLCFG_TABBASE * poolUnit

/-- DRAM offset of pool cell 0. -/
def poolBase (n : Node) : Nat := gf n R.QM_POOLCFG F.QM_POOLCFG_POOLBASE * poolUnit

/-- Cells of the pool. -/
def poolCells (n : Node) : Nat := gf n R.QM_POOLCFG F.QM_POOLCFG_POOLSIZE * 131072

/-- Descriptor of queue `q`. -/
def desc (n : Node) (q : Nat) : Desc := look {} n.qm.desc q

/-- Set the descriptor of queue `q`. -/
def setDesc (n : Node) (q : Nat) (d : Desc) : Node := { n with qm := { n.qm with desc := put {} n.qm.desc q d } }

/-- The CELLCFG word (Table QM-1). -/
def Desc.cellcfg (d : Desc) : Nat := d.base % 2 ^ 25 + d.size * 2 ^ 25 + d.kindCode * 2 ^ 30

/-- The 16 bytes of a descriptor (Table QM-1). -/
def Desc.bytes (d : Desc) : List Byte :=
  leBytes 4 d.cellcfg
    ++ leBytes 4 (d.head % 2 ^ 24 + b2n d.weirEn * 2 ^ 24 + b2n d.locked * 2 ^ 25)
    ++ leBytes 4 (d.tail % 2 ^ 24) ++ leBytes 2 d.weir ++ leBytes 2 d.drops

/-- Cells held: (TAIL - HEAD) mod 2^24 (R259). -/
def Desc.fill (d : Desc) : Nat := subMod 24 d.tail d.head

/-- The KIND a code stands for (Table QM-1). -/
def kindOfCode : Nat → QueueKind
  | 1 => .cell
  | 2 => .frame
  | _ => .off

/-- Do `c` more cells fit? -/
def Desc.room (d : Desc) (c : Nat) : Bool := decide (d.kind ≠ .off) && decide (d.fill + c ≤ 2 ^ d.size)

/-- DRAM address of the cell with count `k` (R259). -/
def cellAddr (n : Node) (d : Desc) (k : Nat) : Nat := poolBase n + 128 * (d.base + k % 2 ^ d.size)

/-- Does a DRAM byte lie in the descriptor table? -/
def inTable (n : Node) (a : Nat) : Bool := decide (tableBase n ≤ a) && decide (a < tableBase n + 16 * 2 ^ 20)

/-- A byte of DRAM: the descriptor table shows the descriptors (R260). -/
def dramByte (n : Node) (a : Nat) : Byte :=
  if inTable n a then
    let off := a - tableBase n
    (desc n (off / 16)).bytes.getD (off % 16) 0#8
  else look 0#8 n.dram a

/-- Bytes of DRAM from address `a`. -/
def dramRead (n : Node) (a len : Nat) : List Byte := (List.range len).map (fun i => dramByte n (a + i))

/-- Store bytes in DRAM, the descriptor table apart. -/
def dramStore (n : Node) (a : Nat) (bs : List Byte) : Node := { n with dram := writeBytes n.dram a bs }

/-- The bytes of the `c` cells from count `k`. -/
def readCells (n : Node) (d : Desc) (k : Nat) : Nat → List Byte
  | 0 => []
  | c + 1 => dramRead n (cellAddr n d k) 128 ++ readCells n d (k + 1) c

/-- Store cells of 128 bytes from count `k`. -/
def storeCells (n : Node) (d : Desc) (k : Nat) (bs : List Byte) : Nat → Node
  | 0 => n
  | c + 1 => storeCells (dramStore n (cellAddr n d k) (cut bs 0 128)) d (k + 1) (bs.drop 128) c

/-- Drop an entry at the ingress of queue `q` (R265). -/
def dropEntry (n : Node) (q : Nat) : Node :=
  let d := desc n q
  let n := setDesc n q { d with drops := min (d.drops + 1) 0xFFFF }
  sf (count n (R.QM_CNT 2)) R.QM_EVT F.QM_EVT_DROP 1

/-- Add `c` cells to queue `q`, firing its event source when the fill leaves 0 (R263).  The caller has checked the room. -/
def addCells (n : Node) (q : Nat) (bs : List Byte) (c : Nat) : Node :=
  let d := desc n q
  let n := storeCells n d d.tail bs c
  let n := setDesc n q { d with tail := (d.tail + c) % 2 ^ 24 }
  let n := count n (R.QM_CNT 0)
  if d.fill = 0 then fireUnstated n 1 q else n

/-- LEN of a frame header (Table QM-2). -/
def hdrLen (bs : List Byte) : Nat := le bs 0 2

/-- Cells of a frame of LEN bytes (R261). -/
def frameCells (len : Nat) : Nat := ceilDiv (16 + len) 128

/-- Push one cell (R261, R262, R265): to a cell queue as it is, to a frame queue as a one-cell frame.
The truth value says whether it was queued. -/
def pushCell (n : Node) (q : Nat) (bs : List Byte) : Node × Bool :=
  let d := desc n q
  if !d.room 1 || (decide (d.kind = .frame) && decide (hdrLen bs > 112)) then (dropEntry n q, false)
  else (addCells n q bs 1, true)

/-- A frame header of Table QM-2. -/
structure FrameHeader where
  len : Nat := 0
  fflags : Nat := 0
  ts : Nat := 0
  cnlo : Nat := 0
  port : Nat := 0
  aux : Nat := 0
  deriving DecidableEq, Repr

/-- The 16 bytes of a frame header. -/
def FrameHeader.bytes (h : FrameHeader) : List Byte :=
  leBytes 2 h.len ++ leBytes 2 h.fflags ++ leBytes 4 h.ts ++ leBytes 2 h.cnlo ++ leBytes 2 h.port ++ leBytes 4 h.aux

/-- The header some bytes begin with. -/
def frameHeaderOf (bs : List Byte) : FrameHeader :=
  { len := le bs 0 2, fflags := le bs 2 2, ts := le bs 4 4, cnlo := le bs 8 2, port := le bs 10 2, aux := le bs 12 4 }

/-- Push a whole frame as one operation (R261, R265). -/
def pushFrame (n : Node) (q : Nat) (h : FrameHeader) (payload : List Byte) : Node × Bool :=
  let d := desc n q
  let c := frameCells h.len
  if !d.room c || decide (d.kind ≠ .frame) || decide (h.len > 16368) then (dropEntry n q, false)
  else (addCells n q (h.bytes ++ cut payload 0 h.len) c, true)

/-- Weir `w`. -/
def weir (n : Node) (w : Nat) : Weir := look {} n.qm.weirs w

/-- Set weir `w`. -/
def setWeir (n : Node) (w : Nat) (x : Weir) : Node := { n with qm := { n.qm with weirs := put {} n.qm.weirs w x } }

/-- Does its weir hold the head of a queue (R268)? -/
def heldByWeir (n : Node) (d : Desc) : Bool :=
  d.weirEn && !(decide ((weir n d.weir).rate ≠ 0) && decide ((weir n d.weir).tok ≥ 0))

/-- Lowest TOK, in 1/256 byte (R267). -/
def tokFloor : Int := -(16777216 * 256)

/-- Charge a weir for a release (R268). -/
def chargeWeir (n : Node) (d : Desc) (charge : Nat) : Node :=
  if !d.weirEn then n
  else
    let x := weir n d.weir
    let t := x.tok - (charge * 256 : Nat)
    let n := setWeir n d.weir { x with tok := max t tokFloor }
    if t < tokFloor then sf (count n (R.QM_CNT 5)) R.QM_EVT F.QM_EVT_WSAT 1 else n

/-- The head entry of a queue (R261): its cells, its bytes, and whether its header is damaged. -/
structure HeadEntry where
  cells : Nat
  charge : Nat
  damaged : Bool
  bytes : List Byte
  deriving DecidableEq, Repr

/-- The head entry, where the queue holds one and its weir releases it. -/
def headEntry (n : Node) (q : Nat) : Option HeadEntry :=
  let d := desc n q
  if d.fill = 0 || decide (d.kind = .off) || heldByWeir n d then none
  else match d.kind with
    | .frame =>
      let len := hdrLen (dramRead n (cellAddr n d d.head) 16)
      let c := frameCells len
      let bad := decide (len > 16368) || decide (c > d.fill)
      let take := min c d.fill
      some ⟨take, len, bad, readCells n d d.head take⟩
    | _ => some ⟨1, 128, false, readCells n d d.head 1⟩

/-- A pop found the queue empty or held (R268). -/
def popEmpty (n : Node) : Node := count n (R.QM_CNT 3)

/-- Remove the head entry, charge the weir, and count (R261, R268). -/
def removeHead (n : Node) (q : Nat) (h : HeadEntry) : Node :=
  let d := desc n q
  let n := setDesc n q { d with head := (d.head + h.cells) % 2 ^ 24 }
  let n := chargeWeir (count n (R.QM_CNT 1)) d h.charge
  if h.damaged then sf (count n (R.QM_CNT 4)) R.QM_EVT F.QM_EVT_TRUNC 1 else n

/-- A header with FFLAGS bits set in a copied cell. -/
def orFlags (cell : List Byte) (m : BitVec 8) : List Byte := setAt cell 2 (cell.getD 2 0#8 ||| m)

/-- A pop that copies the first cell and removes the whole entry (R262): the cell, and whether it was truncated or damaged. -/
def popCell (n : Node) (q : Nat) : Node × Option (List Byte × Bool) :=
  match headEntry n q with
  | none => (popEmpty n, none)
  | some h =>
    let frame := decide ((desc n q).kind = .frame)
    let multi := frame && decide (h.cells > 1) && !h.damaged
    let n := removeHead n q h
    let cell := cut h.bytes 0 128
    if h.damaged then (n, some (orFlags cell 3#8, true))
    else if multi then
      (sf (count n (R.QM_CNT 4)) R.QM_EVT F.QM_EVT_TRUNC 1, some (orFlags cell 2#8, true))
    else (n, some (cell, false))

/-- A hardware consumer takes a whole frame; a damaged head is removed and not used (R261). -/
def popFrame (n : Node) (q : Nat) : Node × Option (FrameHeader × List Byte) :=
  match headEntry n q with
  | none => (popEmpty n, none)
  | some h =>
    let n := removeHead n q h
    if h.damaged then (n, none)
    else
      let hd := frameHeaderOf h.bytes
      (n, some (hd, cut h.bytes 16 hd.len))

/-- The head frame without removing it. -/
def peekFrame (n : Node) (q : Nat) : Option (FrameHeader × List Byte) :=
  match headEntry n q with
  | none => none
  | some h => if h.damaged then none else some (frameHeaderOf h.bytes, cut h.bytes 16 (hdrLen h.bytes))

end Sys2Proof.Machine
end

