-- ==== Sys2Proof/Machine/Log.lean ====
section
/-! DEFINITION. Event records and the log paths (R272 to R278). -/

namespace Sys2Proof.Machine

/-- The CLASS byte (Table QM-5). -/
def Class.code : Class → Nat
  | .s => 0 | .d => 1 | .n => 2 | .a => 3 | .g => 4

/-- The class a Milnak program's LCLASS names (Table MK-4). -/
def classOfLclass : Nat → Class
  | 1 => .n | 2 => .a | 3 => .d | _ => .g

/-- The 32 bytes of a record in memory (Table QM-5). -/
def EventRecord.bytes (r : EventRecord) : List Byte :=
  leBytes 6 r.cn.toNat ++ leBytes 2 r.code.toNat ++ leBytes 4 r.ts.toNat
    ++ leBytes 1 r.cls.code ++ leBytes 1 (b2n r.unpersisted + 2 * b2n r.summary) ++ leBytes 2 r.source.toNat
    ++ leBytes 2 r.node ++ leBytes 2 r.lseq.toNat ++ cut r.data 0 12

/-- A record on the line: each field most significant byte first (R272, R63). -/
def EventRecord.lineBytes (r : EventRecord) : List Byte :=
  beBytes 6 r.cn.toNat ++ beBytes 2 r.code.toNat ++ beBytes 4 r.ts.toNat
    ++ beBytes 1 r.cls.code ++ beBytes 1 (b2n r.unpersisted + 2 * b2n r.summary) ++ beBytes 2 r.source.toNat
    ++ beBytes 2 r.node ++ beBytes 2 r.lseq.toNat ++ cut r.data 0 12

/-- SOURCE of a register block (Table QM-5): block index and instance. -/
def blockSource (blk inst : Nat) : BitVec 16 := BitVec.ofNat 16 (inst % 16 * 256 + blk % 32)

/-- SOURCE of a Milnak program. -/
def progSource (k : Nat) : BitVec 16 := BitVec.ofNat 16 (0x1000 + k % 512)

/-- SOURCE of a die. -/
def dieSource (i : Nat) : BitVec 16 := BitVec.ofNat 16 (0x2000 + i % 8)

/-- CODE of a node event (Table QM-6): block index and the low ten bits. -/
def evCode (blk c : Nat) : BitVec 16 := BitVec.ofNat 16 (blk % 32 * 1024 + c % 1024)

/-- What a log path keeps. -/
def logPath (n : Node) (q : Nat) : LogPath := look {} n.qm.log.paths q

/-- Change the log front end. -/
def withLog (n : Node) (l : LogState) : Node := { n with qm := { n.qm with log := l } }

/-- Set what a log path keeps. -/
def setLogPath (n : Node) (q : Nat) (p : LogPath) : Node :=
  withLog n { n.qm.log with paths := put {} n.qm.log.paths q p }

/-- Bytes of an unused slot of a log cell: CLASS 0xFF, the other bytes free (log entry 2). -/
def emptySlot (n : Node) : Node × List Byte :=
  let (a, n) := freshWord n
  let (b, n) := freshWord n
  (n, leBytes 8 a.toNat ++ leBytes 4 b.toNat ++ [0xFF#8] ++ leBytes 8 a.toNat ++ leBytes 8 b.toNat ++ leBytes 3 a.toNat)

/-- Fill a log cell with unused slots up to four records (R274). -/
def padSlots : Nat → Node → List Byte → Node × List Byte
  | 0, n, bs => (n, bs)
  | k + 1, n, bs =>
    let (n, slot) := emptySlot n
    padSlots k n (bs ++ slot)

/-- Push the records a path has packed, as one cell (R274). -/
def pushLogCell (n : Node) (q : Nat) : Node :=
  let p := logPath n q
  if p.part.isEmpty then n
  else if !(desc n q).room 1 then n
  else
    let (n, bs) := padSlots (4 - p.part.length) n (p.part.flatMap EventRecord.bytes)
    let n := setLogPath n q { p with part := [] }
    (pushCell n q bs).1

/-- Pack one record on a path, pushing the cell when it is full (R274). -/
def packRecord (n : Node) (q : Nat) (r : EventRecord) : Node :=
  let p := logPath n q
  let n := setLogPath n q { p with part := p.part ++ [r] }
  if p.part.length + 1 ≥ 4 then pushLogCell n q else n

/-- Add one to a path's suppression count for a record (R277): at most 64 counts, further codes together under 0xFFFF. -/
def addSuppressed (l : List Suppressed) (r : EventRecord) : List Suppressed :=
  if l.any (fun x => x.code == r.code && x.cls == r.cls) then
    l.map (fun x => if x.code == r.code && x.cls == r.cls then { x with count := x.count + 1 } else x)
  else if (l.filter (fun x => x.code != 0xFFFF#16)).length < 64 then
    l ++ [⟨r.code, r.cls, 1, r.cn, r.lseq⟩]
  else if l.any (fun x => x.code == 0xFFFF#16) then
    l.map (fun x => if x.code == 0xFFFF#16 then { x with count := x.count + 1 } else x)
  else l ++ [⟨0xFFFF#16, r.cls, 1, r.cn, r.lseq⟩]

/-- A record meets a full path, or one with a summary waiting (R277). -/
def suppress (n : Node) (q : Nat) (r : EventRecord) : Node :=
  let p := logPath n q
  let n := setLogPath n q { p with supp := addSuppressed p.supp r }
  sf (count n (R.QM_CNT 7)) R.QM_EVT F.QM_EVT_SUPPR 1

/-- Deliver a record of class D, N, A or G to a queue path, or suppress it (R274, R277). -/
def deliver (n : Node) (q : Nat) (r : EventRecord) : Node :=
  if !(logPath n q).supp.isEmpty || !(desc n q).room 1 then suppress n q r else packRecord n q r

/-- The line path of this node's records (R278). -/
def lineLogQueue (n : Node) : Nat := if n.qm.logOnB then 23 else 22

/-- The line path, where QM_LOGCFG.LINECLS sends the class on the line. -/
def linePaths (n : Node) (c : Class) : List Nat :=
  if bitOf (gf n R.QM_LOGCFG F.QM_LOGCFG_LINECLS) c.code then [lineLogQueue n] else []

/-- Is the NV die FAILED (Table AC-7)? -/
def nvFailed (n : Node) : Bool := gf n (R.AC_DIEHEALTH 6) F.AC_DIEHEALTH_STATE == 4

/-- Show a record in the recent buffer (Table QM-7). -/
def showRecent (n : Node) (r : EventRecord) : Node :=
  withLog n { n.qm.log with recent := (r :: n.qm.log.recent).take 16 }

/-- Record an event (R272, R273) and give it to the log paths (R274).  A class S record first waits for its
caddy write (R275, the command SAFETY_RECORD_PERSIST); `evtReg` is the register and bit that write then sets. -/
def record (n : Node) (c : Class) (code source : BitVec 16) (data : List Byte) (evtReg : Option (Nat × Nat) := none) : Node :=
  let l := n.qm.log
  let r : EventRecord :=
    { cn := n.tb.cn, code := code, ts := nowNs n, cls := c, source := source
      node := gf n R.IN_EPOCH F.IN_EPOCH_NODE, lseq := l.lseq + 1#16, data := cut data 0 12 }
  let n := withLog n { l with lseq := l.lseq + 1#16 }
  let n := sf n R.QM_LSEQ F.QM_LSEQ_LSEQ (l.lseq + 1#16).toNat
  let n := count n (R.QM_CNT 6)
  match c with
  | .s => withLog n { n.qm.log with waiting := n.qm.log.waiting ++ [⟨r, evtReg⟩] }
  | _ =>
    let n := if nvFailed n then n else withLog n { n.qm.log with batch := n.qm.log.batch ++ [r] }
    let n := showRecent n r
    let n := deliver n (16 + c.code) r
    (linePaths n c).foldl (fun n q => deliver n q r) n

/-- Set an event bit and record its event (Table QM-6): CODE is the block index and the bit number, SOURCE the
block and instance, DATA the register's offset within its block and a detail. -/
def raise (n : Node) (c : Class) (blk inst reg : Nat) (f : Field) (detail : List Byte := []) : Node :=
  let data := leBytes 4 (reg % 0x100000) ++ detail
  match c with
  | .s => record n .s (evCode blk f.lo) (blockSource blk inst) data (some (reg, f.lo))
  | c => record (sf n reg f 1) c (evCode blk f.lo) (blockSource blk inst) data

/-- Record an event that sets no event bit: the low ten bits of its CODE are one of Table QM-6. -/
def recordCode (n : Node) (c : Class) (blk inst code10 reg : Nat) (detail : List Byte := []) : Node :=
  record n c (evCode blk code10) (blockSource blk inst) (leBytes 4 (reg % 0x100000) ++ detail)

/-- "One class G event" for a written value replaced by a default (CODE 0x3F0). -/
def replaced (n : Node) (blk inst reg : Nat) : Node := recordCode n .g blk inst 0x3F0 reg

/-- A record of a status change (CODE 0x3F2). -/
def statusChange (n : Node) (c : Class) (blk inst reg : Nat) (detail : List Byte := []) : Node :=
  recordCode n c blk inst 0x3F2 reg detail

/-- Any other event (CODE 0x3FF), its detail in DATA. -/
def otherEvent (n : Node) (c : Class) (blk inst reg : Nat) (detail : List Byte := []) : Node :=
  recordCode n c blk inst 0x3FF reg detail

/-- A direct write to a protected or locked register (R315). -/
def protectedWrite (n : Node) (a : Nat) : Node :=
  raise (count n (R.HB_CNT 12)) .g 10 0 R.HB_EVT F.HB_EVT_PROTWR (leBytes 4 a)

end Sys2Proof.Machine
end

