-- ==== Sys2Proof/Machine/Operands.lean ====
section
/-! DEFINITION. The operand forms of the Milnak engines: registers, address maps, grants, contexts
(R192 to R196, R199, R201, R204, R222; Tables MK-1 to MK-5). -/

namespace Sys2Proof.Machine

/-- V-engines are e = 16 to 31 (R196). -/
def isV (e : Nat) : Bool := decide (16 ≤ e)

/-- PROGID of slot j on engine e (R196). -/
def progId (e j : Nat) : Nat := 16 * e + j

/-- Read a g register; g0 reads 0 (R192). -/
def gReg (x : Engine) (r : Nat) : BitVec 32 := if r = 0 then 0#32 else look 0#32 x.g r

/-- Write a g register; a write to g0 is discarded (R192). -/
def setG (x : Engine) (r : Nat) (v : BitVec 32) : Engine := if r = 0 then x else { x with g := put 0#32 x.g r v }

/-- Lane k of vector register i. -/
def vLane (x : Engine) (i k : Nat) : BitVec 32 := look 0#32 x.v (8 * i + k)

/-- Set lane k of vector register i. -/
def setVLane (x : Engine) (i k : Nat) (v : BitVec 32) : Engine := { x with v := put 0#32 x.v (8 * i + k) v }

/-- Lane k of accumulator i. -/
def accLane (x : Engine) (i k : Nat) : BitVec 64 := look 0#64 x.acc (8 * i + k)

/-- Set lane k of accumulator i. -/
def setAccLane (x : Engine) (i k : Nat) (v : BitVec 64) : Engine := { x with acc := put 0#64 x.acc (8 * i + k) v }

/-- Write `f k` to every lane k of register i whose LM bit is 1 (R203). -/
def masked (x : Engine) (i : Nat) (f : Nat → BitVec 32) : Engine :=
  (List.range 8).foldl (fun y k => if bitOf x.lm k then setVLane y i k (f k) else y) x

/-- Write `f k` to every lane of register i. -/
def allLanes (x : Engine) (i : Nat) (f : Nat → BitVec 32) : Engine :=
  (List.range 8).foldl (fun y k => setVLane y i k (f k)) x

/-- Sign-extend a 16-bit field (R198). -/
def sext16 (v : BitVec 16) : BitVec 32 := v.signExtend 32

/-- Zero-extend a 16-bit field (R198). -/
def zext16 (v : BitVec 16) : BitVec 32 := v.setWidth 32

/-- The memories an engine reaches (Tables MK-2, MK-3). -/
inductive Space where
  | cx | ax | image | dram | regs
  deriving DecidableEq, Repr

/-- The memory and offset an address of engine e stands for, when all `len` bytes lie in one range
(Tables MK-2, MK-3); `dw` is the DRAM window base in GiB. -/
def resolve (e dw a len : Nat) : Option (Space × Nat) :=
  let inR := fun (lo hi : Nat) => decide (lo ≤ a) && decide (a + len ≤ hi + 1)
  if isV e && inR 0x10000000 0x106BFFFF then some (.ax, a - 0x10000000)
  else if isV e && inR 0x10700000 0x107FFFFF then some (.ax, a - 0x10000000)
  else if isV e && inR 0x18000000 0x181FFFFF then some (.cx, a - 0x18000000)
  else if !isV e && inR 0x10000000 0x101EFFFF then some (.cx, a - 0x10000000)
  else if !isV e && inR 0x18000000 0x187FFFFF then some (.ax, a - 0x18000000)
  else if inR 0x20000000 0x2001FFFF then some (.image, a - 0x20000000)
  else if inR 0x40000000 0x7FFFFFFF then some (.dram, a - 0x40000000 + dw * 0x40000000)
  else if inR 0xE0000000 0xE1FFFFFF then some (.regs, a - 0xE0000000)
  else none

/-- Does a memory grant cover every byte touched, with the right needed (R194)? -/
def memGranted (h : Header) (a len : Nat) (store : Bool) : Bool :=
  h.grants.any (fun g => !g.queues && decide (g.base ≤ a) && decide (a + len ≤ g.base + g.len)
    && (if store then g.write else g.read))

/-- Does a queue grant give a right on queue q (R201)? -/
def queueGranted (h : Header) (q : Nat) (ok : Grant → Bool) : Bool :=
  h.grants.any (fun g => g.queues && decide (g.base ≤ q) && decide (q < g.base + g.len) && ok g)

/-- A checked access of engine e's program: ALIGN (2), ACCESS (3) or the place reached. -/
def access (n : Node) (e : Nat) (h : Header) (a len align : Nat) (store : Bool) : Except Nat (Space × Nat) :=
  if a % align ≠ 0 then .error 2
  else match resolve e (ff n (R.MK_ENGCFG e) F.MK_ENGCFG_DWBASE) a len with
    | none => .error 3
    | some (.image, o) => if store then .error 3 else .ok (.image, o)
    | some p => if memGranted h a len store then .ok p else .error 3

/-- Address of the context slot of program j on engine e within CX data SRAM or AX SRAM (R194). -/
def contextBase (e j : Nat) : Nat :=
  if isV e then 0x6C0000 + 1024 * (16 * (e - 16) + j) else 0x1F0000 + 256 * (16 * e + j)

/-- The bytes of a context (R222), in the layout of log entry 5: g, resume point, dz, LM, v, a. -/
def contextBytes (e : Nat) (x : Engine) (resume : Nat) : List Byte :=
  let gs := (List.range 32).flatMap (fun r => leBytes 4 (gReg x r).toNat)
  let hd := gs ++ leBytes 4 resume ++ leBytes 4 (b2n x.dz) ++ leBytes 4 x.lm
  if isV e then
    cut hd 0 256 ++ (List.range 128).flatMap (fun k => leBytes 4 (look 0#32 x.v k).toNat)
      ++ (List.range 16).flatMap (fun k => leBytes 8 (look 0#64 x.acc k).toNat)
  else hd

/-- Restore an engine's registers from the bytes of a context. -/
def contextLoad (e : Nat) (x : Engine) (b : List Byte) : Engine :=
  let g := (List.range 32).foldl (fun (m : Sparse (BitVec 32)) r => put 0#32 m r (BitVec.ofNat 32 (le b (4 * r) 4))) []
  let y := { x with g := g, pc := le b 128 4, dz := decide (le b 132 4 % 2 = 1) }
  if isV e then
    { y with
      lm := le b 136 4 % 256
      v := (List.range 128).foldl (fun (m : Sparse (BitVec 32)) k => put 0#32 m k (BitVec.ofNat 32 (le b (256 + 4 * k) 4))) []
      acc := (List.range 16).foldl (fun (m : Sparse (BitVec 64)) k => put 0#64 m k (BitVec.ofNat 64 (le b (768 + 8 * k) 8))) [] }
  else y

/-- The SRAM that holds engine e's contexts. -/
def contextMem (n : Node) (e : Nat) : Sparse Byte := if isV e then n.mil.axram else n.mil.cxram

/-- Save a context (R222). -/
def saveContext (n : Node) (e j : Nat) (x : Engine) (resume : Nat) : Node :=
  let bs := contextBytes e x resume
  if isV e then { n with mil := { n.mil with axram := writeBytes n.mil.axram (contextBase e j) bs } }
  else { n with mil := { n.mil with cxram := writeBytes n.mil.cxram (contextBase e j) bs } }

/-- Restore a context (R222). -/
def restoreContext (n : Node) (e j : Nat) (x : Engine) : Engine :=
  contextLoad e x (readBytes (contextMem n e) (contextBase e j) 1024)

/-- A lane address (R204): CHAN in bit 15, SLOT in bits 14:8, LANE in bits 5:0. -/
def laneChan (w : Nat) : Nat := bits w 15 1
/-- SLOT of a lane address. -/
def laneSlot (w : Nat) : Nat := bits w 8 7
/-- LANE of a lane address. -/
def laneNum (w : Nat) : Nat := bits w 0 6

/-- A lane address from its parts. -/
def laneAddr (c s l : Nat) : Nat := c * 32768 + s * 256 + l

end Sys2Proof.Machine
end

