-- ==== Sys2Proof/Machine/Flags.lean ====
section
/-! DEFINITION. The arithmetic results of the Milnak engines (Tables MK-6, MK-10): wrapping, saturating, products,
quotients, shifts, comparisons and accumulators.  The one flag is dz (CSR 0x00A). -/

namespace Sys2Proof.Machine

/-- The signed value of a word. -/
def sval (v : BitVec 32) : Int := v.toInt

/-- A word from an integer, saturated to 0x7FFF_FFFF and 0x8000_0000. -/
def satWord (x : Int) : BitVec 32 := BitVec.ofInt 32 (saturate 32 x)

/-- Saturating sum (adds, vadds, LOUT). -/
def addSat (a b : BitVec 32) : BitVec 32 := satWord (sval a + sval b)

/-- Saturating difference. -/
def subSat (a b : BitVec 32) : BitVec 32 := satWord (sval a - sval b)

/-- Q8.24 product: (a × b + 2^23) >> 24, saturating (mulq, vmulq). -/
def mulQ (a b : BitVec 32) : BitVec 32 := satWord ((sval a * sval b + 8388608) / 16777216)

/-- Signed minimum. -/
def minS (a b : BitVec 32) : BitVec 32 := if sval a ≤ sval b then a else b

/-- Signed maximum. -/
def maxS (a b : BitVec 32) : BitVec 32 := if sval a ≤ sval b then b else a

/-- Saturating absolute value. -/
def absSat (a : BitVec 32) : BitVec 32 := satWord (if sval a < 0 then -sval a else sval a)

/-- High 32 bits of the signed product. -/
def mulHigh (a b : BitVec 32) : BitVec 32 := BitVec.ofInt 32 ((sval a * sval b) / 4294967296)

/-- High 32 bits of the unsigned product. -/
def mulHighU (a b : BitVec 32) : BitVec 32 := BitVec.ofNat 32 (a.toNat * b.toNat / 4294967296)

/-- Leading zeros, 0 to 32: how many of the bits from bit 31 downwards are 0 before the first 1. -/
def clzFrom (a : BitVec 32) : Nat → Nat
  | 0 => 0
  | k + 1 => if a.getLsbD k then 0 else 1 + clzFrom a k

/-- Leading zeros of a word. -/
def clz (a : BitVec 32) : BitVec 32 := BitVec.ofNat 32 (clzFrom a 32)

/-- 1 or 0 (slt, sltu, slti, sltiu). -/
def boolWord (b : Bool) : BitVec 32 := if b then 1#32 else 0#32

/-- A shift amount: bits 4:0 (R198). -/
def shamt (v : BitVec 32) : Nat := v.toNat % 32

/-- The quotient or remainder by 0 is 0 and sets dz; the run continues (Table MK-6). -/
def divide (x : Engine) (a b : BitVec 32) (rem : Bool) : Engine × BitVec 32 :=
  if b = 0#32 then ({ x with dz := true }, 0#32)
  else (x, BitVec.ofNat 32 (if rem then a.toNat % b.toNat else a.toNat / b.toNat))

/-- A saturating 64-bit accumulation (vmac). -/
def accAdd (acc : BitVec 64) (a b : BitVec 32) : BitVec 64 :=
  BitVec.ofInt 64 (saturate 64 (acc.toInt + sval a * sval b))

/-- The rounded, shifted, saturated sum of the accumulators (vrda). -/
def readAcc (a0 a1 : BitVec 64) (sh : Nat) : BitVec 32 :=
  let r : Int := if sh = 0 then 0 else (2 ^ (sh - 1) : Nat)
  satWord ((a0.toInt + a1.toInt + r) / ((2 ^ sh : Nat) : Int))

end Sys2Proof.Machine
end

