-- ==== Sys2Proof/Machine/Crc.lean ====
section
/-! DEFINITION. The cyclic redundancy checks the spec uses: one bit-serial reflected CRC, with its parameters
named where each rule gives them. -/

namespace Sys2Proof.Machine

/-- One step of a reflected CRC: shift out one bit, and fold in the polynomial when it is 1. -/
def crcBit (w : Nat) (poly c : BitVec w) : BitVec w :=
  if c.getLsbD 0 then (c >>> 1) ^^^ poly else c >>> 1

/-- Fold one byte, least significant bit first. -/
def crcByte (w : Nat) (poly c : BitVec w) (b : Byte) : BitVec w :=
  let c0 := c ^^^ b.setWidth w
  crcBit w poly (crcBit w poly (crcBit w poly (crcBit w poly (crcBit w poly (crcBit w poly (crcBit w poly (crcBit w poly c0)))))))

/-- A reflected CRC with all-ones start and complemented end. -/
def crcReflected (w : Nat) (poly : BitVec w) (bs : List Byte) : BitVec w :=
  ~~~ (bs.foldl (crcByte w poly) (BitVec.allOnes w))

/-- CRC-32, reflected polynomial 0xEDB88320 (the IEEE 802.3 check). -/
def crc32 (bs : List Byte) : BitVec 32 := crcReflected 32 0xEDB88320#32 bs

/-- CRC-32C, reflected polynomial 0x82F63B78 (the Castagnoli check). -/
def crc32c (bs : List Byte) : BitVec 32 := crcReflected 32 0x82F63B78#32 bs

/-- One step of a CRC shifted most significant bit first. -/
def crcMsbBit (w : Nat) (poly c : BitVec w) : BitVec w :=
  if c.getLsbD (w - 1) then (c <<< 1) ^^^ poly else c <<< 1

/-- The CRC-16 of wake patterns (R371): polynomial x^16 + x^12 + x^5 + 1, initial value 0xFFFF, neither reflected
nor complemented. -/
def crc16 (bs : List Byte) : BitVec 16 :=
  bs.foldl (fun c b =>
    let x : BitVec 16 := b.setWidth 16
    (List.range 8).foldl (fun c _ => crcMsbBit 16 0x1021#16 c) (c ^^^ (x <<< (8 : Nat)))) 0xFFFF#16

end Sys2Proof.Machine
end

