-- ==== Sys2Proof/Machine/Base.lean ====
section
/-! DEFINITION. What every chapter of the line asks of the node: power state, dies, numbers, modes, ports, channels,
and the live state image (R12, R15, R24, R55, R130). -/

namespace Sys2Proof.Machine

/-! ### Power and dies -/

/-- PW_STAT.STATE (Table PW-1). -/
def powerState (n : Node) : Nat := gf n R.PW_STAT F.PW_STAT_STATE
/-- RUN. -/
def isRun (n : Node) : Bool := !n.pw.unbooted && powerState n == 4
/-- LINE-ONLY or RUN: the Line power group is on (Table AC-3). -/
def lineOn (n : Node) : Bool := !n.pw.unbooted && (powerState n == 3 || powerState n == 4)
/-- PARKED or DOZE; a node that waits for its boot stays in PARKED (R404). -/
def asleep (n : Node) : Bool := powerState n == 1 || powerState n == 2 || (n.pw.unbooted && powerState n != 0)

/-- Is die `i` FAILED (Table AC-8)? -/
def dieFailed (n : Node) (i : Nat) : Bool := gf n (R.AC_DIEHEALTH i) F.AC_DIEHEALTH_STATE == 4

/-- The CX heartbeat runs (Table AC-7). -/
def cxAlive (n : Node) : Bool := !n.line.cxLost

/-- Line die of channel `c` is in use. -/
def lineDieOk (n : Node) (c : Nat) : Bool := !dieFailed n (1 + c)

/-- The node is a member of a formed pair (DU_PAIRSTAT.FORMED, R172). -/
def inPair (n : Node) : Bool := gf n R.DU_PAIRSTAT F.DU_PAIRSTAT_FORMED == 1
/-- The node holds the active token, or is not in a formed pair (R357). -/
def holdsToken (n : Node) : Bool := !inPair n || gf n R.DU_PAIRSTAT F.DU_PAIRSTAT_TOKEN == 1
/-- The node is a pair standby, fit (ROLE 0b10) or not (ROLE 0b11) (Table IN-12, R190). -/
def isStandby (n : Node) : Bool := decide (2 ≤ gf n R.DU_PAIRSTAT F.DU_PAIRSTAT_ROLE)

/-! ### Numbers -/

/-- Local CN. -/
def cnNow (n : Node) : Nat := n.tb.cn.toNat
/-- 48-bit wrap of a CN. -/
def cnWrap (c : Nat) : Nat := c % 2 ^ 48
/-- Signed distance of CN `a` from CN `b`, modulo 2^48. -/
def cnDiff (a b : Nat) : Int := signed 48 (subMod 48 a b)
/-- Epoch in force. -/
def epochNow (n : Node) : Nat := gf n R.IN_EPOCH F.IN_EPOCH_EPOCH
/-- Own node number; 0 unassigned. -/
def ownNumber (n : Node) : Nat := gf n R.IN_EPOCH F.IN_EPOCH_NODE
/-- Time domain. -/
def ownTdom (n : Node) : Nat := rd64 n R.IN_TDOM_LO R.IN_TDOM_HI
/-- Nodes of the epoch. -/
def nodesNow (n : Node) : Nat := gf n R.IN_STAT F.IN_STAT_NODES
/-- IN_STAT.STATE: 0 OFF, 1 LISTEN, 2 CONTEND, 3 INTEGRATE, 4 MEMBER. -/
def inState (n : Node) : Nat := gf n R.IN_STAT F.IN_STAT_STATE
/-- Is this node leader? -/
def isLeader (n : Node) : Bool := gf n R.IN_STAT F.IN_STAT_LEADER == 1
/-- Is the image STALE? -/
def isStale (n : Node) : Bool := gf n R.AC_IMGSTAT F.AC_IMGSTAT_STALE == 1
/-- Does the node hold an epoch: as a member, or integrated with a verified key (R98, R339)? -/
def hasEpoch (n : Node) : Bool := inState n == 4 || (inState n == 3 && n.line.key.isSome)

/-! ### Ports and channels -/

/-- Line port of channel `c` on a side: 0 front, 1 rear. -/
def portOf (c side : Nat) : Nat := 2 * c + side
/-- What the node keeps for port `p`. -/
def port (n : Node) (p : Nat) : Port := look {} n.line.ports p
/-- Set it. -/
def setPort (n : Node) (p : Nat) (x : Port) : Node := { n with line := { n.line with ports := put {} n.line.ports p x } }
/-- What the node keeps for channel `c`. -/
def chan (n : Node) (c : Nat) : Chan := look {} n.line.chans c
/-- Set it. -/
def setChan (n : Node) (c : Nat) (x : Chan) : Node := { n with line := { n.line with chans := put {} n.line.chans c x } }

/-- LP_PORTSTAT.STATE (Table LP-3). -/
def portState (n : Node) (p : Nat) : Nat := gf n (R.LP_PORTSTAT p) F.LP_PORTSTAT_STATE
/-- Is the port in UP? -/
def portUp (n : Node) (p : Nat) : Bool := portState n p == 7
/-- HOLDRSN (Table LP-5). -/
def holdReason (n : Node) (p : Nat) : Nat := gf n (R.LP_PORTSTAT p) F.LP_PORTSTAT_HOLDRSN
/-- LP_PORTSTAT.FWD: the port forwards. -/
def portFwd (n : Node) (p : Nat) : Bool := gf n (R.LP_PORTSTAT p) F.LP_PORTSTAT_FWD == 1
/-- A port passes traffic while it forwards and is not quarantined (R90). -/
def portPasses (n : Node) (p : Nat) : Bool := portFwd n p && (port n p).quar.isNone
/-- Partner identity of a port. -/
def partnerUid (n : Node) (p : Nat) : Nat := rd64 n (R.LP_PARTNERID_LO p) (R.LP_PARTNERID_HI p)

/-- Line mode in force: 0 native, 1 ring, 2 forerunner (LC_STAT.MODE). -/
def lineMode (n : Node) : Nat := gf n (R.LC_STAT 0) F.LC_STAT_MODE
/-- Native mode. -/
def isNative (n : Node) : Bool := lineMode n == 0
/-- Forerunner mode. -/
def isFore (n : Node) : Bool := lineMode n == 2
/-- LC_STAT.ROLE of channel `c`: 0 none, 1 leader, 2 segment head, 3 ring-B origin, 4 intermediate, 5 tail, 6 alone. -/
def role (n : Node) (c : Nat) : Nat := gf n (R.LC_STAT c) F.LC_STAT_ROLE
/-- Does the node originate channel `c` (Table LC-1)? -/
def originates (n : Node) (c : Nat) : Bool := role n c == 1 || role n c == 2 || role n c == 3 || role n c == 6
/-- Inner port of channel `c` (LC_STAT.INNER). -/
def innerPort (n : Node) (c : Nat) : Nat := portOf c (gf n (R.LC_STAT c) F.LC_STAT_INNER)
/-- Outer port of channel `c`. -/
def outerPort (n : Node) (c : Nat) : Nat := portOf c (1 - gf n (R.LC_STAT c) F.LC_STAT_INNER)
/-- Does the node turn frames of channel `c`: tail, alone, or its outer port does not pass (R46, R55, R90)? -/
def turns (n : Node) (c : Nat) : Bool :=
  role n c == 5 || role n c == 6 || (!originates n c && !portPasses n (outerPort n c))
/-- Channel whose LC configuration applies to channel `c` (R57). -/
def cfgChan (n : Node) (c : Nat) : Nat := if isNative n then c else 0
/-- Side that faces node 1 (IN_STAT.ORIENT): 0 front, 1 rear. -/
def orient (n : Node) : Nat := gf n R.IN_STAT F.IN_STAT_ORIENT
/-- Does any port of channel `c` forward? -/
def chanFwd (n : Node) (c : Nat) : Bool := portFwd n (portOf c 0) || portFwd n (portOf c 1)

/-- First audio or data slot (Table LC-4). -/
def firstAudioSlot (mode : Nat) : Nat := if mode = 2 then 4 else 8
/-- Slots of a cycle. -/
def slotCount (mode : Nat) : Nat := if mode = 2 then 12 else 80
/-- Lanes of a container. -/
def laneCount (mode : Nat) : Nat := if mode = 2 then 48 else 60
/-- Mini-slots of a cycle. -/
def miniCount (mode : Nat) : Nat := if mode = 2 then 4 else 118
/-- Roster lanes of a roster slot (R75). -/
def rosterLanes (mode : Nat) : Nat := if mode = 2 then 72 else 90
/-- The sequencer slot (Table LC-4). -/
def sequencerSlot (mode : Nat) : Nat := if mode = 2 then 2 else 6
/-- The service slot (Table LC-4). -/
def serviceSlot (mode : Nat) : Nat := if mode = 2 then 3 else 7

/-- Set an event bit of channel `c`'s LC_EVT without a record. -/
def lcEvt (n : Node) (c : Nat) (f : Field) : Node := sf n (R.LC_EVT c) f 1
/-- Count in LC_CNT[k] of channel `c`. -/
def lcCount (n : Node) (c k : Nat) : Node := count n (R.LC_CNT c k)

/-! ### The live state image (Tables AC-6, IN-13) -/

/-- Offset of the roster. -/
def imgRoster : Nat := 0x100
/-- Offset of the announcements. -/
def imgAnn : Nat := 0x4100
/-- Offset of the alarm states. -/
def imgAlarm : Nat := 0x6100
/-- Offset of the pair roles. -/
def imgPair : Nat := 0x7100
/-- Offset of the zones. -/
def imgZone : Nat := 0x7900
/-- Offset of the settings. -/
def imgSet : Nat := 0x9900
/-- End of the sections. -/
def imgEnd : Nat := 0xA900

/-- Bytes of the live image. -/
def img (n : Node) (off len : Nat) : List Byte := readBytes n.image off len
/-- A number of the live image. -/
def imgLe (n : Node) (off len : Nat) : Nat := readLe n.image off len
/-- Write bytes of the live image. -/
def setImg (n : Node) (off : Nat) (bs : List Byte) : Node := { n with image := writeBytes n.image off bs }

/-- Offset of the roster entry of node m. -/
def rosterAt (m : Nat) : Nat := imgRoster + 32 * (m - 1)
/-- UID of the roster entry of node m (Table IN-13). -/
def rosterUid (n : Node) (m : Nat) : Nat := imgLe n (rosterAt m) 8
/-- Node number of an identity: a roster entry 1 to NODES with that UID, whatever its PRESENT bit (R113); 0 none. -/
def numberOf (n : Node) (uid : Nat) : Nat :=
  ((List.range (nodesNow n)).find? (fun i => rosterUid n (i + 1) == uid)).elim 0 (· + 1)
/-- Word k of the train-wide settings. -/
def setting (n : Node) (k : Nat) : Nat := imgLe n (imgSet + 4 * k) 4
/-- REPORT of node m as last committed: 7 bytes. -/
def rosterReport (n : Node) (m : Nat) : List Byte := img n (rosterAt m + 11) 7
/-- PORTS byte of node m as committed (Table IN-12). -/
def rosterPorts (n : Node) (m : Nat) : Nat := imgLe n (rosterAt m + 12) 1
/-- LEADERID of the image header. -/
def imgLeader (n : Node) : Nat := imgLe n 16 8

/-- A byte of the image lies in section 1 to 7 of Table MK-13. -/
def imgSection (off : Nat) : Nat :=
  if off < imgRoster then 1 else if off < imgAnn then 2 else if off < imgAlarm then 3 else if off < imgPair then 4
  else if off < imgZone then 5 else if off < imgSet then 6 else 7

end Sys2Proof.Machine
end

