-- ==== Sys2Proof/Machine/Wire.lean ====
section
/-! DEFINITION. DLP frames on the wire: fields, lengths, CRC classes, tags, and sending and forwarding
(R62 to R67, R86, R87, Tables LC-5 to LC-8, LC-16, LC-17). -/

namespace Sys2Proof.Machine

/-! ### Fields (Table LC-5) -/

/-- TYPE. -/
def fType (b : List Byte) : Nat := be b 8 1
/-- INDEX. -/
def fIndex (b : List Byte) : Nat := be b 9 1
/-- CNLO. -/
def fCnlo (b : List Byte) : Nat := be b 10 2
/-- EPOCHLO. -/
def fEpochlo (b : List Byte) : Nat := be b 12 1
/-- FLAGS. -/
def fFlags (b : List Byte) : Nat := be b 13 1
/-- SRCNODE. -/
def fSrc (b : List Byte) : Nat := be b 14 2
/-- LEN. -/
def fLen (b : List Byte) : Nat := be b 16 2
/-- DEST. -/
def fDest (b : List Byte) : Nat := be b 18 2
/-- STREAM. -/
def fStream (b : List Byte) : Nat := be b 20 4
/-- TAGGED (Table LC-7). -/
def fTagged (b : List Byte) : Bool := bitOf (fFlags b) 7
/-- NULL. -/
def fNull (b : List Byte) : Bool := bitOf (fFlags b) 6
/-- FIRST. -/
def fFirst (b : List Byte) : Bool := bitOf (fFlags b) 5
/-- LAST. -/
def fLast (b : List Byte) : Bool := bitOf (fFlags b) 4
/-- TURNED. -/
def fTurned (b : List Byte) : Bool := bitOf (fFlags b) 3

/-- Full length of a frame of TYPE `t` in a line mode (R64); 52 bytes for a BEACON (Table IN-3). -/
def frameLen (mode t : Nat) : Nat :=
  if t = 1 then 100
  else if 2 ≤ t ∧ t ≤ 6 then (if mode = 2 then 1196 else 1484)
  else if 8 ≤ t ∧ t ≤ 13 then 188
  else if t = 14 then 52 else 48

/-- The header of Table LC-5 as 16 bytes. -/
def header (type index cnlo epochlo flags src len dest stream : Nat) : List Byte :=
  beBytes 1 type ++ beBytes 1 index ++ beBytes 2 cnlo ++ beBytes 1 epochlo ++ beBytes 1 flags ++ beBytes 2 src
    ++ beBytes 2 len ++ beBytes 2 dest ++ beBytes 4 stream

/-- Preamble and start delimiter (log entry 8). -/
def preamble : List Byte := (List.range 8).map Config.preambleByte

/-- CRC-32 of a frame: over all bytes from offset 8 up to the CRC (R64). -/
def frameCrc (b : List Byte) : BitVec 32 := crc32 ((b.take (b.length - 4)).drop 8)

/-- How a received CRC compares (R65). -/
inductive CrcClass where
  | good | stomped | fresh
  deriving DecidableEq, Repr

/-- The CRC class of a received frame (R65). -/
def crcClass (b : List Byte) : CrcClass :=
  let got := BitVec.ofNat 32 (be b (b.length - 4) 4)
  if got = frameCrc b then .good else if got = ~~~ frameCrc b then .stomped else .fresh

/-- A frame with its CRC field set to the matching CRC, or to its complement (R65). -/
def withCrc (b : List Byte) (stomp : Bool) : List Byte :=
  let c := frameCrc b
  b.take (b.length - 4) ++ beBytes 4 (if stomp then ~~~ c else c).toNat

/-- A whole frame of a type: header, payload padded with 0 to the full length, matching CRC (R64). -/
def buildFrame (mode type : Nat) (hdr payload : List Byte) : List Byte :=
  withCrc (preamble ++ hdr ++ cut payload 0 (frameLen mode type - 28) ++ [0#8, 0#8, 0#8, 0#8]) false

/-- A whole container that is not audio: offsets 24 to 39 are reserved, sent as 0, and the payload lies at offset 40. -/
def buildContainer (mode type : Nat) (hdr payload : List Byte) : List Byte :=
  buildFrame mode type hdr (List.replicate 16 0#8 ++ payload)

/-- FLAGS of a frame set. -/
def setFlags (b : List Byte) (f : Nat) : List Byte := overlay b 13 (beBytes 1 f)

/-- The frame with FLAGS bits or-ed in. -/
def orFrameFlags (b : List Byte) (m : BitVec 8) : List Byte := setFlags b ((BitVec.ofNat 8 (fFlags b)) ||| m).toNat

/-! ### CN and epoch (R66) -/

/-- Full CN rebuilt from its low 16 bits: the value within local CN - 32,767 to local CN + 32,768 (R66). -/
def rebuildCn (localCn lo : Nat) : Nat :=
  let base := subMod 48 localCn 32767
  cnWrap (base + subMod 16 lo base)

/-- The full CN of a received frame. -/
def fullCn (n : Node) (b : List Byte) : Nat := rebuildCn (cnNow n) (fCnlo b)

/-- Commit cycle of the epoch in force (IN_EPOCHCN). -/
def epochCn (n : Node) : Nat := rd64 n R.IN_EPOCHCN_LO R.IN_EPOCHCN_HI

/-- The key of an epoch that commits at or before a CN, where its COMMIT has been read and it is not yet in force. -/
def comingKey (n : Node) (cn : Nat) : Option EpochKey :=
  match n.inn.prepared with
  | some p =>
    match p.commitCn with
    | some cc => if cnDiff cn cc < 0 then none else n.line.nextKeys.find? (fun k => k.epoch == p.epoch && k.tdom == p.tdom)
    | none => none
  | none => none

/-- The train key in force at a CN: of the coming epoch from its commit cycle, of the epoch in force, or of the
previous one before its commit cycle while it is kept (R61, R87, R88). -/
def keyAt (n : Node) (cn : Nat) : Option EpochKey :=
  match comingKey n cn with
  | some k => some k
  | none =>
    match n.line.prevKey with
    | some (k, _) => if cnDiff cn (epochCn n) < 0 then some k else n.line.key
    | none => n.line.key

/-- The epoch in force at a CN (R66, R339). -/
def epochAt (n : Node) (cn : Nat) : Nat :=
  match keyAt n cn with
  | some k => k.epoch
  | none => epochNow n

/-- Does a frame agree with the CSF that opened its cycle, and with the epoch in force at its CN (R66)?
MS_INAUG and BEACON are exempt from the epoch check. -/
def cnAgrees (n : Node) (opened : Option Csf) (b : List Byte) : Bool :=
  (match opened with
   | some c => fCnlo b == c.cn % 65536
   | none => fCnlo b == cnNow n % 65536)
  && (fType b == 12 || fType b == 14 || fEpochlo b == epochAt n (fullCn n b) % 256)

/-! ### Tags (R86, R87, Tables LC-16, LC-17) -/

/-- The associated data of Table LC-17. -/
def assocData (cn epoch c type index sub writer : Nat) : List Byte :=
  beBytes 6 cn ++ beBytes 2 epoch ++ beBytes 1 c ++ beBytes 1 type ++ beBytes 2 index ++ beBytes 2 sub ++ beBytes 2 writer

/-- The first 8 bytes of AES-256-CMAC (R87). -/
def tag8 (key msg : List Byte) : List Byte := cut (Config.aesCmac key msg) 0 8

/-- The tag of an item on channel c in cycle cn. -/
def itemTag (k : EpochKey) (cn c type index sub writer : Nat) (covered : List Byte) : List Byte :=
  tag8 k.key (assocData cn k.epoch c type index sub writer ++ covered)

/-- Does an item's tag verify under the key in force at its CN? -/
def tagOk (n : Node) (cn c type index sub writer : Nat) (covered tag : List Byte) : Bool :=
  match keyAt n cn with
  | some k => decide (itemTag k cn c type index sub writer covered = tag)
  | none => false

/-- The tag the node writes: under the key in force at the CN; without a key, zero bytes. -/
def makeTag (n : Node) (cn c type index sub writer : Nat) (covered : List Byte) : List Byte :=
  match keyAt n cn with
  | some k => itemTag k cn c type index sub writer covered
  | none => List.replicate 8 0#8

/-- A header with FLAGS taken as 0 (Table LC-16). -/
def headerBare (b : List Byte) : List Byte := overlay (cut b 8 16) 5 [0#8]

/-- A tag has failed or is missing (R87): counted, and at most one class N event per channel and cycle. -/
def tagFailure (n : Node) (c : Nat) : Node :=
  let n := lcCount n c 3
  let x := chan n c
  if x.tagLogged then lcEvt n c F.LC_EVT_TAGFAIL
  else raise (setChan n c { x with tagLogged := true }) .n 3 c (R.LC_EVT c) F.LC_EVT_TAGFAIL

/-- Use a tagged item: `ok` says whether TAGGED is set and the tag verifies; a failure is counted (R87). -/
def checkTag (n : Node) (c : Nat) (ok : Bool) : Node × Bool := if ok then (n, true) else (tagFailure n c, false)

/-! ### Sending and receiving -/

/-- Send a frame on port p: counted in LP_CNT[8]; nothing leaves a port that does not forward (R46). -/
def sendFrame (n : Node) (p : Nat) (b : List Byte) : Node :=
  if portFwd n p then count (emit n (.line p b)) (R.LP_CNT p 8) else n

/-- A frame is received on port p: its CRC is counted on the port and on the channel (R65). -/
def countCrc (n : Node) (p : Nat) (b : List Byte) : Node :=
  let c := p / 2
  if role n c = 6 then n
  else match crcClass b with
  | .good => lcCount (count n (R.LP_CNT p 0)) c 0
  | .stomped => lcCount (count n (R.LP_CNT p 1)) c 2
  | .fresh => lcCount (count n (R.LP_CNT p 1)) c 1

/-- Forward a frame, as changed, on port p: its CRC matches the bytes sent, complemented when the frame received had
a bad CRC or when it is to be stomped (R65, R170). -/
def forwardFrame (n : Node) (p : Nat) (rx out : List Byte) (stomp : Bool) : Node :=
  sendFrame n p (withCrc out (stomp || decide (crcClass rx ≠ .good)))

/-- In ring and forerunner modes, a node that turns a channel at a port whose partner is a member of its epoch stomps
what it turns (R170). -/
def breakStomp (n : Node) (c : Nat) : Bool :=
  !isNative n && turns n c && decide (numberOf n (partnerUid n (outerPort n c)) ≠ 0)

/-- Has an item of a frame already been used from the other channel's copy (R57)? -/
def isUsed (n : Node) (k : Nat × Nat × Nat × Nat) : Bool := !isNative n && n.line.used.contains k

/-- Note that an item has been used. -/
def markUsed (n : Node) (k : Nat × Nat × Nat × Nat) : Node :=
  if isNative n then n else { n with line := { n.line with used := (k :: n.line.used).take 4096 } }

/-- One class G event per cycle for blocked local writes (R91). -/
def localBlocked (n : Node) (c : Nat) : Node :=
  let n := lcCount n c 15
  let x := chan n c
  if x.blockLogged then lcEvt n c F.LC_EVT_LOCALVIOL
  else raise (setChan n c { x with blockLogged := true }) .g 3 c (R.LC_EVT c) F.LC_EVT_LOCALVIOL

/-- A received frame violates Table LC-18 (R89, R90). -/
def rxViolation (n : Node) (p : Nat) : Node :=
  let c := p / 2
  let n := lcEvt (lcCount n c 14) c F.LC_EVT_RXVIOL
  setPort n p { port n p with violNow := true }

/-- A frame whose CNLO or EPOCHLO does not agree (R66): counted, not used. -/
def cnMismatch (n : Node) (c : Nat) : Node := lcEvt (lcCount n c 4) c F.LC_EVT_CNMIS

/-- TYPE permitted in static slot s (Tables LC-4, LC-6). -/
def slotTypeOk (mode s t : Nat) : Bool :=
  if s < sequencerSlot mode then t == 4
  else if s = sequencerSlot mode then t == 5
  else if s = serviceSlot mode then t == 6
  else decide (s < slotCount mode) && (t == 2 || t == 3)

/-- TYPE permitted in a mini-slot. -/
def miniTypeOk (t : Nat) : Bool := decide (8 ≤ t) && decide (t ≤ 13)

/-- The instant of the next-to-be-composed frame: EPOCHLO and CNLO of a frame of cycle `cn`. -/
def headerOf (n : Node) (type index cn flags src len dest stream : Nat) : List Byte :=
  header type index (cn % 65536) (epochAt n cn % 256) flags src len dest stream

end Sys2Proof.Machine
end

