-- ==== Sys2Proof/Machine/LinePort.lean ====
section
/-! DEFINITION. The line ports: training, link-up checks, link loss, forwarding (spec/02_line_ports.md, R38 to R48). -/

namespace Sys2Proof.Machine

/-- The line dies' ports are powered: LINE-ONLY or RUN, and the die is in use (R38, Table AC-3). -/
def portPowered (n : Node) (p : Nat) : Bool := lineOn n && lineDieOk n (p / 2)

/-- Set LP_PORTSTAT.STATE. -/
def setPortState (n : Node) (p st : Nat) : Node := sf n (R.LP_PORTSTAT p) F.LP_PORTSTAT_STATE st

/-- Set an event bit of LP_PORTEVT and record its class N event (R44). -/
def portEvent (n : Node) (p : Nat) (f : Field) (detail : List Byte := []) : Node :=
  raise n .n 2 p (R.LP_PORTEVT p) f detail

/-- One of the node's ports has entered or left UP or forwarding (R105, Table IN-2). -/
def notePortChange (n : Node) (upChanged : Bool) : Node :=
  { n with inn := { n.inn with portCn := some (cnNow n), portMoved := n.inn.portMoved || upChanged } }

/-- A port starts or stops forwarding: FWD and LINEEND, one class N event (R46, R48), and the delay averages of a
port that stops (R137). -/
def setForwarding (n : Node) (p : Nat) (fwd : Bool) : Node :=
  if portFwd n p = fwd then sflag n (R.LP_PORTSTAT p) F.LP_PORTSTAT_LINEEND !fwd
  else
    let n := sflag n (R.LP_PORTSTAT p) F.LP_PORTSTAT_FWD fwd
    let n := sflag n (R.LP_PORTSTAT p) F.LP_PORTSTAT_LINEEND !fwd
    let n := notePortChange n false
    let n := statusChange n .n 2 p (R.LP_PORTSTAT p)
    if fwd then n
    else
      let n := setPort n p { port n p with exch := [], exchRun := 0, exchNow := false, dreqs := [], rxDreq := none }
      sf n (R.TB_LINKDLY p) F.TB_LINKDLY_VALID 0

/-- Does condition `k` of Table LP-5 hold on a port in UP? -/
def holdCondition (n : Node) (p k : Nat) : Bool :=
  let id := partnerUid n p
  if k = 2 then gf n (R.LP_PARTNERPORT p) F.LP_PARTNERPORT_CHAN != p / 2
  else if k = 3 then id == n.uid.toNat
  else if k = 4 then
    let rate := gf n (R.LP_PORTSTAT p) F.LP_PORTSTAT_RATE
    if isFore n then rate == 1 else rate == 2
  else if k = 5 then
    let m := numberOf n id
    let own := ownNumber n
    let adjacent := if p % 2 = orient n then own - 1 else own + 1
    hasEpoch n && own != 0 && m != 0 && m != adjacent
  else hasEpoch n && (!(port n p).admitted || (port n p).shut)

/-- The HOLDRSN of a port in UP: the first condition that holds in the order 2, 3, 4, 5, 1 (R41). -/
def holdReasonNow (n : Node) (p : Nat) : Nat := (([2, 3, 4, 5, 1] : List Nat).find? (holdCondition n p)).getD 0

/-- The event bit of a HOLDRSN that arises (Table LP-5). -/
def holdEvent (n : Node) (p r : Nat) : Node :=
  if r = 2 then portEvent n p F.LP_PORTEVT_CROSS
  else if r = 3 then portEvent n p F.LP_PORTEVT_SELF
  else if r = 4 then portEvent n p F.LP_PORTEVT_RATEMIS
  else if r = 5 then portEvent n p F.LP_PORTEVT_LOOP
  else n

/-- Show a HOLDRSN; its event when it arises (R41). -/
def showHold (n : Node) (p r : Nat) : Node :=
  let old := holdReason n p
  let n := sf n (R.LP_PORTSTAT p) F.LP_PORTSTAT_HOLDRSN r
  if r = old then n else holdEvent n p r

/-- Whether the partner is admitted (R98, R113): every partner while the node holds no epoch; a member once it holds
a number in an epoch after 0; otherwise as before. -/
def admittedNow (n : Node) (p : Nat) (before : Bool) : Bool :=
  if !hasEpoch n then true
  else if ownNumber n != 0 && epochNow n != 0 then decide (numberOf n (partnerUid n p) ≠ 0)
  else before

/-- HOLD_REASON_CHANGE and FORWARDING_CHANGE at a boundary (R41, R48, R113), on one port; a quarantined port does not
forward (R46, R90). -/
def refreshPort (n : Node) (p : Nat) : Node :=
  if portUp n p then
    let x := port n p
    let n := setPort n p { x with
      admitted := admittedNow n p x.admitted
      shut := x.shut && !(hasEpoch n && numberOf n (partnerUid n p) == 0) }
    let r := holdReasonNow n p
    setForwarding (showHold n p r) p (r == 0 && x.quar.isNone)
  else setForwarding n p false

/-- A port leaves UP (R43, R45, Table LP-4): VALID of the partner clears, forwarding stops at once, a frame in
cut-through ends with an error control block on the other port. -/
def leaveUp (n : Node) (p : Nat) (midFrame : Bool) : Node :=
  let n := sf n (R.LP_PARTNERPORT p) F.LP_PARTNERPORT_VALID 0
  let n := sf n (R.LP_PORTSTAT p) F.LP_PORTSTAT_HOLDRSN 0
  let n := sf n (R.LP_PORTSTAT p) F.LP_PORTSTAT_RATE 0
  let wasFwd := portFwd n p
  let other := 2 * (p / 2) + (1 - p % 2)
  let n := notePortChange (setForwarding n p false) true
  let n := setPort n p { port n p with
    hold := true, admUsed := 0, admSeq := none, admRec := [], coupled := false, accept := false
    lostCn := some (cnNow n), lostId := partnerUid n p, pairRec := none }
  if midFrame && wasFwd then portEvent (emit n (.lineError other)) p F.LP_PORTEVT_ABORT else n

/-- A training attempt fails (R44): counted; a class N event on the first and the eighth failure in a row. -/
def trainFail (n : Node) (p cause : Nat) : Node :=
  let n := countField n (R.LP_PORTSTAT p) F.LP_PORTSTAT_FAILCNT
  let n := sf n (R.LP_PORTSTAT p) F.LP_PORTSTAT_FAILCAUSE cause
  let n := count n (R.LP_CNT p 6)
  let n := setPortState n p 8
  let n := sf n (R.LP_PORTSTAT p) F.LP_PORTSTAT_RATE 0
  let k := gf n (R.LP_PORTSTAT p) F.LP_PORTSTAT_FAILCNT
  if k = 1 || k = 8 then portEvent n p F.LP_PORTEVT_TRAINFAIL (leBytes 4 cause)
  else sf n (R.LP_PORTEVT p) F.LP_PORTEVT_TRAINFAIL 1

/-- The node sends a wake tone on a port (R49) and blanks its detectors (R51). -/
def sendWakeTone (n : Node) (p : Nat) : Node :=
  let n := emit n (.wakeTone p)
  { n with line := { n.line with blanking := true } }

/-- PORT_ENABLE and PORT_DISABLE at a boundary (R38). -/
def applyPortEnable (n : Node) (p : Nat) : Node :=
  let en := ff n (R.LP_PORTCFG p) F.LP_PORTCFG_EN == 1
  let st := portState n p
  if st = 0 then (if en && portPowered n p then setPortState n p 1 else n)
  else if en then n
  else
    let n := if st = 7 then leaveUp n p false else n
    let n := emit n (.linkDrop p)
    setPort (setPortState n p 0) p { port n p with hold := false }

/-! ### The pair port: port 4 of the training commands (R174) -/

/-- State of the pair port (DU_PPSTAT.STATE). -/
def pairPortState (n : Node) : Nat := gf n R.DU_PPSTAT F.DU_PPSTAT_STATE
/-- Set it. -/
def setPairPort (n : Node) (st : Nat) : Node := sf n R.DU_PPSTAT F.DU_PPSTAT_STATE st
/-- The pair port goes from one state to another; in any other state nothing happens. -/
def movePairPort (n : Node) (a b : Nat) : Node := if pairPortState n = a then setPairPort n b else n
/-- The pair port leaves UP: the identity no longer holds (R174). -/
def pairPortDown (n : Node) : Node := sf (setPairPort n 2) R.DU_PPSTAT F.DU_PPSTAT_IDOK 0
/-- Identity of the pair partner configured (DU_PAIRID, in force). -/
def pairId (n : Node) : Nat := ff64 n R.DU_PAIRID_LO R.DU_PAIRID_HI
/-- Identities exchanged on the pair port (R172, R174). -/
def pairPortUp (n : Node) (u : Nat) : Node :=
  if pairPortState n ≠ 6 then n
  else
    let n := sflag (setPairPort n 7) R.DU_PPSTAT F.DU_PPSTAT_IDOK (u == pairId n)
    { n with du := { n.du with partnerId := u } }

/-- PLL_LOCKED (R38). -/
def execPllLocked (p : Fin 5) (s : State) : Host.Outcome State Fault Refusal :=
  onNode s (fun n =>
    if p.val = 4 then movePairPort n 1 2 else
    if portState n p.val ≠ 1 then n
    else
      let n := doIf (ff n (R.LP_PORTCFG p.val) F.LP_PORTCFG_WAKEFIRST == 1) (fun n => sendWakeTone n p.val) n
      setPortState n p.val 2)

/-- PARTNER_ENERGY_DETECT (R38, R43): an attempt is counted, outside a re-entry hold. -/
def execPartnerEnergyDetect (p : Fin 5) (s : State) : Host.Outcome State Fault Refusal :=
  onNode s (fun n =>
    if p.val = 4 then movePairPort n 2 4 else
    if portState n p.val ≠ 2 || (port n p.val).hold then n
    else setPortState (count n (R.LP_CNT p.val 5)) p.val 3)

/-- The rates a port offers (R40, R157): 10 Gbit/s and 1 Gbit/s. -/
def offeredRates (n : Node) (p : Nat) : Bool × Bool :=
  let r := ff n (R.LP_PORTCFG p) F.LP_PORTCFG_RATE
  let foreOnly := gf n R.DU_CFG F.DU_CFG_MODE == 2
  if r = 1 then (true, false) else if r = 2 then (false, true)
  else if foreOnly then (false, true) else (true, true)

/-- RATES_AGREED: the port selects its rate from what both partners offer, 10 Gbit/s first (R40), or fails with
cause RATE. -/
def execRatesAgreed (p : Fin 5) (partner10 partner1 : Bool) (s : State) : Host.Outcome State Fault Refusal :=
  onNode s (fun n =>
    if p.val = 4 then n else
    if portState n p.val ≠ 3 then n
    else
      let (own10, own1) := offeredRates n p.val
      if own10 && partner10 then setPortState (sf n (R.LP_PORTSTAT p.val) F.LP_PORTSTAT_RATE 1) p.val 4
      else if own1 && partner1 then setPortState (sf n (R.LP_PORTSTAT p.val) F.LP_PORTSTAT_RATE 2) p.val 4
      else trainFail n p.val 2)

/-- TRAINING_CONVERGED (R38). -/
def execTrainingConverged (p : Fin 5) (s : State) : Host.Outcome State Fault Refusal :=
  onNode s (fun n =>
    if p.val = 4 then movePairPort n 4 5 else if portState n p.val = 4 then setPortState n p.val 5 else n)

/-- BLOCK_LOCK_ACQUIRED (R38). -/
def execBlockLockAcquired (p : Fin 5) (s : State) : Host.Outcome State Fault Refusal :=
  onNode s (fun n =>
    if p.val = 4 then movePairPort n 5 6 else if portState n p.val = 5 then setPortState n p.val 6 else n)

/-- IDENTITIES_EXCHANGED: LP_PARTNERID and LP_PARTNERPORT are written, the failure count is reset, the checks of
Table LP-5 are applied and the port enters UP (R38, R41, R44).  It forwards from a boundary at the earliest (R48). -/
def execIdentitiesExchanged (p : Fin 5) (partner : Uid) (vt6100 : Bool) (partnerChan : Fin 2) (side : Fin 4)
    (s : State) : Host.Outcome State Fault Refusal :=
  onNode s (fun n =>
    if p.val = 4 then pairPortUp n partner.toNat else
    let p := p.val
    if portState n p ≠ 6 then n
    else
      let n := wr64 n (R.LP_PARTNERID_LO p) (R.LP_PARTNERID_HI p) partner.toNat
      let n := sf n (R.LP_PARTNERPORT p) F.LP_PARTNERPORT_VALID 1
      let n := sflag n (R.LP_PARTNERPORT p) F.LP_PARTNERPORT_KIND vt6100
      let n := sf n (R.LP_PARTNERPORT p) F.LP_PARTNERPORT_CHAN partnerChan.val
      let n := sf n (R.LP_PARTNERPORT p) F.LP_PARTNERPORT_SIDE side.val
      let n := sf n (R.LP_PORTSTAT p) F.LP_PORTSTAT_FAILCNT 0
      let n := setPortState n p 7
      let n := setPort n p { port n p with admitted := admittedNow n p false, upCn := cnNow n }
      let n := notePortChange n true
      let n := showHold n p (holdReasonNow n p)
      portEvent n p F.LP_PORTEVT_UP)

/-- TRAINING_STEP_FAILURE (R44): a step exceeds its limit, or no rate is common in ANNOUNCE. -/
def execTrainingStepFailure (p : Fin 5) (noCommonRate : Bool) (s : State) : Host.Outcome State Fault Refusal :=
  onNode s (fun n =>
    if p.val = 4 then (if 4 ≤ pairPortState n ∧ pairPortState n ≤ 6 then setPairPort n 8 else n) else
    let st := portState n p.val
    if st = 3 then trainFail n p.val (if noCommonRate then 2 else 1)
    else if st = 4 then trainFail n p.val 3
    else if st = 5 then trainFail n p.val 4
    else if st = 6 then trainFail n p.val 5
    else n)

/-- BACKOFF_EXPIRY (R38). -/
def execBackoffExpiry (p : Fin 5) (s : State) : Host.Outcome State Fault Refusal :=
  onNode s (fun n =>
    if p.val = 4 then movePairPort n 8 2 else if portState n p.val = 8 then setPortState n p.val 2 else n)

/-- LINK_LOSS (R42, R43, R45): counted in LP_CNT[4]. -/
def execLinkLoss (p : Fin 5) (midFrame : Bool) (s : State) : Host.Outcome State Fault Refusal :=
  onNode s (fun n =>
    if p.val = 4 then (if pairPortState n = 7 then pairPortDown n else n) else
    if portUp n p.val then
      let n := portEvent (leaveUp n p.val midFrame) p.val F.LP_PORTEVT_DOWN
      setPortState (count n (R.LP_CNT p.val 4)) p.val 2
    else n)

/-- LINK_DROP_RECEIVED (R43, R45): DOWN and DROP. -/
def execLinkDropReceived (p : Fin 5) (midFrame : Bool) (s : State) : Host.Outcome State Fault Refusal :=
  onNode s (fun n =>
    if p.val = 4 then (if pairPortState n = 7 then pairPortDown n else n) else
    if portUp n p.val then
      let n := portEvent (leaveUp n p.val midFrame) p.val F.LP_PORTEVT_DOWN
      setPortState (portEvent n p.val F.LP_PORTEVT_DROP) p.val 2
    else n)

/-- REENTRY_HOLD_EXPIRY (R43). -/
def execReentryHoldExpiry (p : Fin 4) (s : State) : Host.Outcome State Fault Refusal :=
  onNode s (fun n => setPort n p.val { port n p.val with hold := false })

/-- WAKE_BLANKING_EXPIRY (R51). -/
def execWakeBlankingExpiry (s : State) : Host.Outcome State Fault Refusal :=
  onNode s (fun n => { n with line := { n.line with blanking := false } })

/-- LP_PORTSTAT.HELDQ: messages of the channel are held (R47). -/
def refreshHeldQueue (n : Node) : Node :=
  forRange 4 (fun n p =>
    let c := p / 2
    let none_ := if isNative n then !chanFwd n c else !chanFwd n 0 && !chanFwd n 1
    let own := originates n c && role n c == 6
    sflag n (R.LP_PORTSTAT p) F.LP_PORTSTAT_HELDQ (none_ && !own && lineOn n)) n

end Sys2Proof.Machine
end

