-- ==== Sys2Proof/Machine/LineCycle.lean ====
section
/-! DEFINITION. The line cycle: passing frames, cycle start frames, audio and data containers, roster lanes
(spec/03_line_cycle.md, R55 to R79, R163 to R170). -/

namespace Sys2Proof.Machine

/-! ### Passing frames -/

/-- The port on which a frame of channel c arrives: the inner port outbound, the outer port on the return pass,
the inner port at the originator (Table LC-1). -/
def rxPort (n : Node) (c : Nat) (b : List Byte) : Nat :=
  if fTurned b && !originates n c then outerPort n c else innerPort n c

/-- Pass a frame of channel c on: outbound to the outer port, or turned onto the return pass (TURNED set, R46, R55);
on the return pass to the inner port, or absorbed by the originator.  The truth value says whether the node reads
it here (R56). -/
def passFrame (n : Node) (c : Nat) (rx out : List Byte) (stompable : Bool) : Node × Bool :=
  if fTurned rx then
    (if originates n c then n else forwardFrame n (innerPort n c) rx out false, true)
  else if turns n c then
    (forwardFrame n (innerPort n c) rx (orFrameFlags out 0x08#8) (stompable && breakStomp n c), true)
  else (forwardFrame n (outerPort n c) rx out false, false)

/-- A frame as the tail reads it when it leaves the turnaround (R56): TURNED set, its CRC as that of the frame received. -/
def turnedCopy (rx out : List Byte) : List Byte := withCrc (orFrameFlags out 0x08#8) (decide (crcClass rx ≠ .good))

/-- The CN the node refers CNLO to on channel c: its own once it is in the time domain, the CSF's before (R116, R339). -/
def refCn (n : Node) (c : Nat) : Nat :=
  if gf n R.TB_STAT F.TB_STAT_STEPPED == 1 && !n.inn.provisional then cnNow n
  else match (chan n c).outCsf with
    | some f => f.cn
    | none => cnNow n

/-- Full CN of a frame of channel c. -/
def cnOf (n : Node) (c : Nat) (b : List Byte) : Nat := rebuildCn (refCn n c) (fCnlo b)

/-- Does a frame pass R66 on its pass of channel c? -/
def passesCn (n : Node) (c : Nat) (b : List Byte) : Bool :=
  let x := chan n c
  let opened := if fTurned b then x.retCsf else x.outCsf
  (match opened with
   | some f => fCnlo b == f.cn % 65536
   | none => originates n c && fCnlo b == cnNow n % 65536)
  && (fType b == 12 || fType b == 14 || fEpochlo b == epochAt n (cnOf n c b) % 256)

/-- A received frame is usable: its CRC is good (R64) and it passes R66. -/
def usable (n : Node) (c : Nat) (b : List Byte) : Bool := decide (crcClass b = .good) && passesCn n c b

/-- A frame at a position where its TYPE is not permitted: not forwarded, idle in its place (R89). -/
def notPermitted (n : Node) (c : Nat) (b : List Byte) : Node :=
  let n := rxViolation n (rxPort n c b)
  emit n (.lineIdle (if fTurned b then innerPort n c else outerPort n c))

/-- What arrives on channel c is received at all: the line die is in use, the port passes and a cycle runs there. -/
def hears (n : Node) (c : Nat) (b : List Byte) : Bool :=
  lineOn n && lineDieOk n c && (portPasses n (rxPort n c b) || (role n c == 6 && fTurned b)) && decide (role n c ≠ 0)

/-! ### Slot and lane configuration (R72) -/

/-- The configuration of the boundary of CN `cn`, while it is held. -/
def cfgAt (n : Node) (cn : Nat) : Option (Sparse (BitVec 32)) := (n.line.cfg.find? (fun x => x.cn == cn)).map (·.words)

/-- A word of a configuration. -/
def cfgWord (w : Sparse (BitVec 32)) (a : Nat) : Nat := (look (resetValue a) w a).toNat

/-- KIND of slot s of channel c; 0b11 is unused, and the fixed slots have none (LC_SLOTCFG). -/
def slotKind (mode : Nat) (w : Sparse (BitVec 32)) (c s : Nat) : Nat :=
  if s < firstAudioSlot mode ∨ slotCount mode ≤ s then 0
  else
    let k := bits (cfgWord w (R.LC_SLOTCFG c s)) 0 2
    if k = 3 then 0 else k

/-- OWN of data slot s. -/
def slotOwn (w : Sparse (BitVec 32)) (c s : Nat) : Bool := bitOf (cfgWord w (R.LC_SLOTCFG c s)) 4

/-- MODE of a lane: 0 NONE, 1 ADD, 2 WRITE; 0b11 is NONE (LC_LANEMODE). -/
def laneMode (w : Sparse (BitVec 32)) (c s k : Nat) : Nat :=
  let m := bits (cfgWord w (R.LC_LANEMODE c s (k / 16))) (2 * (k % 16)) 2
  if m = 3 then 0 else m

/-- Is a lane a lane of an audio slot range (Table LC-4)? -/
def laneInRange (mode s k : Nat) : Bool :=
  decide (firstAudioSlot mode ≤ s) && decide (s < slotCount mode) && decide (k < laneCount mode)

/-! ### Lanes of a container (R68 to R71) -/

/-- Code of a lane state in the lane map (Table LC-9). -/
def LaneState.code : LaneState → Nat
  | .null => 0 | .valid => 1 | .clipped => 2 | .concealed => 3

/-- Lane-map code of lane k. -/
def laneCode (b : List Byte) (k : Nat) : Nat := bits (be b (24 + k / 4) 1) (6 - 2 * (k % 4)) 2

/-- State of lane k; 0b11 is treated as clipped (R70). -/
def laneState (b : List Byte) (k : Nat) : LaneState :=
  match laneCode b k with
  | 0 => .null
  | 1 => .valid
  | _ => .clipped

/-- The six samples of lane k (R68). -/
def laneSamples (b : List Byte) (k : Nat) : List (BitVec 32) :=
  (List.range 6).map (fun i => BitVec.ofNat 32 (be b (40 + 24 * k + 4 * i) 4))

/-- Lane k of a container. -/
def getLane (b : List Byte) (k : Nat) : LaneVal := ⟨laneState b k, laneSamples b k⟩

/-- Put a lane into a container. -/
def putLane (b : List Byte) (k : Nat) (v : LaneVal) : List Byte :=
  let old := be b (24 + k / 4) 1
  let lo := 6 - 2 * (k % 4)
  let byte := old - bits old lo 2 * 2 ^ lo + v.st.code * 2 ^ lo
  let b := overlay b (24 + k / 4) (beBytes 1 byte)
  overlay b (40 + 24 * k) ((v.samples.take 6).flatMap (fun x => beBytes 4 x.toNat))

/-- Set CLIP in byte 15 of the lane map (R71). -/
def setClip (b : List Byte) : List Byte := overlay b 39 [(b.getD 39 0#8) ||| 0x80#8]

/-- A saturating 32-bit sum, and whether it saturated (R71). -/
def laneAddSat (x y : BitVec 32) : BitVec 32 × Bool :=
  let z := x.toInt + y.toInt
  (BitVec.ofInt 32 (saturate 32 z), decide (saturate 32 z ≠ z))

/-- Sum two lanes: the samples, and whether any saturated. -/
def addLanes (x y : List (BitVec 32)) : List (BitVec 32) × Bool :=
  let z := List.zipWith laneAddSat x y
  (z.map (·.1), z.any (·.2))

/-- A lane operation of Table LC-10: the lane that leaves, and whether it clipped here, was null for want of a block,
or overwrote a lane. -/
structure LaneResult where
  out : LaneVal
  clip : Bool := false
  noBlock : Bool := false
  overwrite : Bool := false
  deriving DecidableEq, Repr

/-- ADD of a ready block (Table LC-10, R71). -/
def laneAdd (inc own : LaneVal) : LaneResult :=
  match inc.st with
  | .null => { out := ⟨.valid, own.samples⟩ }
  | _ =>
    let (z, sat) := addLanes inc.samples own.samples
    { out := ⟨if sat || decide (inc.st ≠ .valid) then .clipped else .valid, z⟩, clip := sat }

/-- Table LC-10. -/
def laneOp (mode : Nat) (inc : LaneVal) (own : Option LaneVal) : LaneResult :=
  match mode, own with
  | 1, none => { out := inc, noBlock := true }
  | 1, some o => laneAdd inc o
  | 2, none => { out := {}, noBlock := true }
  | 2, some o => { out := ⟨.valid, o.samples⟩, overwrite := decide (inc.st ≠ .null) }
  | _, _ => { out := inc }

/-- Put the result of a lane operation into the container and count what it says. -/
def applyLane (n : Node) (c : Nat) (b : List Byte) (k : Nat) (r : LaneResult) : Node × List Byte :=
  let b := putLane b k r.out
  let n := doIf r.clip (fun n => lcEvt (lcCount n c 5) c F.LC_EVT_CLIP) n
  let n := doIf r.noBlock (fun n => lcCount n c 9) n
  let n := doIf r.overwrite (fun n => lcEvt (lcCount n c 6) c F.LC_EVT_OVERWRITE) n
  (n, if r.clip then setClip b else b)

/-! ### Moved lanes (R163 to R167) -/

/-- Target of an allocated source lane, as a lane address. -/
def moveTarget (n : Node) (a : Nat) : Option Nat := (n.du.moves.find? (fun m => m.1 == a)).map (·.2)

/-- Source whose target is a lane. -/
def moveSource (n : Node) (a : Nat) : Option Nat := (n.du.moves.find? (fun m => m.2 == a)).map (·.1)

/-- Was the CSF of channel x of CN `cn` one of a segment head (R166)? -/
def segHeadAt (n : Node) (x cn : Nat) : Bool := (chan n x).segHeadCns.contains cn

/-- Does the node bridge channel x into the containers of the other channel (R165)? -/
def bridges (n : Node) (x : Nat) : Bool :=
  let ch := chan n x
  let y := 1 - x
  isNative n && (ch.tailNow || ch.tailLast) && decide (0 < ownNumber n) && decide (ownNumber n < nodesNow n)
    && portPasses n (portOf y 0) && portPasses n (portOf y 1)

/-- Own ready block for a lane in the containers of CN `cn`. -/
def ownBlock (n : Node) (cn a : Nat) : Option LaneVal :=
  match n.line.blocks.find? (fun x => x.cn == cn) with
  | some s => (s.lanes.find? (fun e => e.1 == a)).map (·.2)
  | none => none

/-- The lane as it left the node on the outbound pass in CN `cn`. -/
def leftLane (n : Node) (x cn a : Nat) : Option LaneVal :=
  match (chan n x).left.find? (fun s => s.cn == cn) with
  | some s => (s.lanes.find? (fun e => e.1 == a)).map (·.2)
  | none => none

/-- What the node does to lane k of slot s in a container of channel c and CN `cn` (R70, R163, R165, R166). -/
def laneResult (n : Node) (w : Sparse (BitVec 32)) (c s k cn : Nat) (inc : LaneVal) : LaneResult :=
  let cc := cfgChan n c
  let a := laneAddr cc s k
  let plain := laneOp (laneMode w cc s k) inc (ownBlock n cn a)
  if !isNative n then plain
  else match moveSource n a with
    | some src =>
      let x := laneChan src
      if bridges n x then
        match leftLane n x (subMod 48 cn 1) src with
        | some v => if v.st = .null then { out := inc } else laneAdd inc v
        | none => { out := inc }
      else if segHeadAt n x cn || segHeadAt n x (subMod 48 cn 1) then
        laneOp (laneMode w x (laneSlot src) (laneNum src)) inc (ownBlock n (subMod 48 cn 1) src)
      else plain
    | none =>
      if (moveTarget n a).isSome && segHeadAt n c cn then { out := inc } else plain

/-- Apply the node's lane operations to a container (R70). -/
def mixContainer (n : Node) (w : Sparse (BitVec 32)) (c cn : Nat) (b : List Byte) : Node × List Byte :=
  let s := fIndex b
  (List.range (laneCount (lineMode n))).foldl (fun (st : Node × List Byte) k =>
    let inc := getLane st.2 k
    let r := laneResult st.1 w c s k cn inc
    if r.out = inc && !r.clip && !r.noBlock && !r.overwrite then st
    else applyLane st.1 c st.2 k r) (n, b)

/-- Keep a lane block in a set of blocks. -/
def keepBlocks (l : List BlockSet) (cn limit : Nat) (f : Sparse LaneVal → Sparse LaneVal) : List BlockSet :=
  let old := (l.find? (fun x => x.cn == cn)).elim [] (·.lanes)
  ((⟨cn, f old⟩ : BlockSet) :: l.filter (fun x => x.cn != cn)).take limit

/-- Keep the allocated source lanes as they left the node (R165). -/
def keepLeft (n : Node) (c cn : Nat) (b : List Byte) : Node :=
  if n.du.moves.isEmpty then n
  else
    let x := chan n c
    let lanes := which (laneCount (lineMode n)) (fun k => (moveTarget n (laneAddr c (fIndex b) k)).isSome)
    setChan n c { x with left := keepBlocks x.left cn 2 (fun m =>
      lanes.foldl (fun m k => put {} m (laneAddr c (fIndex b) k) (getLane b k)) m) }

/-- Deliver one lane to AX (R73, R167): the block of production cycle CN - 1, and where the lane is a target that
arrives valid or clipped, the block of its source of production cycle CN - 2. -/
def deliverLane (n : Node) (cn a : Nat) (v : LaneVal) : Node :=
  let keep := fun (n : Node) (p a : Nat) (v : LaneVal) =>
    { n with line := { n.line with heard := keepBlocks n.line.heard p 300 (fun m => insertKey a v (dropKey m a)) } }
  let n := keep n (subMod 48 cn 1) a v
  match moveSource n a with
  | some src => if v.st = .null then n else keep n (subMod 48 cn 2) src v
  | none => n

/-- Read an audio container (R56, R57, R73). -/
def readAudio (n : Node) (c : Nat) (b : List Byte) : Node :=
  let cn := cnOf n c b
  let key := (cn, 2, fIndex b, 0)
  if !usable n c b || isUsed n key then n
  else
    let n := markUsed n key
    let cc := cfgChan n c
    (List.range (laneCount (lineMode n))).foldl
      (fun n k => deliverLane n cn (laneAddr cc (fIndex b) k) (getLane b k)) n

/-- The outbound pass of an audio container (R66, R70, R72). -/
def audioOutbound (n : Node) (c : Nat) (b : List Byte) : Node :=
  let cn := cnOf n c b
  let ok := passesCn n c b
  let (n, out) :=
    if !ok then (cnMismatch n c, b)
    else match cfgAt n cn with
      | none => (lcCount n c 4, b)
      | some w => mixContainer n w c cn b
  let n := if ok then keepLeft n c cn out else n
  let (n, read) := passFrame n c b out true
  if read then readAudio n c (turnedCopy b out) else n

/-- AUDIO_CONTAINER_OUTBOUND (R70). -/
def execAudioContainerOutbound (c : Fin 2) (frame : List Byte) (s : State) : Host.Outcome State Fault Refusal :=
  onNode s (fun n =>
    if !hears n c.val frame then n
    else if fType frame ≠ 2 || !slotTypeOk (lineMode n) (fIndex frame) 2 then notPermitted n c.val frame
    else audioOutbound (countCrc n (rxPort n c.val frame) frame) c.val frame)

/-- AUDIO_CONTAINER_RETURN (R73). -/
def execAudioContainerReturn (c : Fin 2) (frame : List Byte) (s : State) : Host.Outcome State Fault Refusal :=
  onNode s (fun n =>
    if !hears n c.val frame then n
    else if fType frame ≠ 2 || !slotTypeOk (lineMode n) (fIndex frame) 2 then notPermitted n c.val frame
    else
      let n := countCrc n (rxPort n c.val frame) frame
      let n := if passesCn n c.val frame then n else cnMismatch n c.val
      let n := (passFrame n c.val frame frame true).1
      readAudio n c.val frame)

/-! ### Data slots (R74) -/

/-- Write a data slot the node owns (R74): the head frame of a queue, or a null frame. -/
def writeDataSlot (n : Node) (c : Nat) (b : List Byte) (q dest stream : Nat) : Node × List Byte :=
  let own := ownNumber n
  let ready := isRun n && cxAlive n
  match (if ready then peekFrame n q else none) with
  | some (_, payload) =>
    if payload.length ≤ 1440 ∧ payload.length + 44 ≤ b.length then
      let n := (popFrame n q).1
      let b := overlay b 14 (beBytes 2 own ++ beBytes 2 payload.length ++ beBytes 2 dest ++ beBytes 4 stream)
      let b := setFlags b (fFlags b - bits (fFlags b) 6 1 * 64)
      (n, overlay b 40 (cut payload 0 (b.length - 44)))
    else (lcCount n c 8, overlay b 14 (beBytes 2 own))
  | none => (lcCount n c 8, overlay b 14 (beBytes 2 own))

/-! ### Roster lanes (R75, R76, R83, R124) -/

/-- The seven REPORT bytes of LC_ROSTERTX0 and LC_ROSTERTX1 in force (Table LC-11). -/
def rosterTx (n : Node) (c : Nat) : List Byte :=
  beBytes 4 (inForce n (R.LC_ROSTERTX0 c)).toNat ++ (beBytes 4 (inForce n (R.LC_ROSTERTX1 c)).toNat).take 3

/-- Offset in a roster frame of node m's lane. -/
def rosterLaneAt (mode m : Nat) : Nat := 40 + 16 * ((m - 1) % rosterLanes mode)

/-- Roster slot of node m. -/
def rosterSlotOf (mode m : Nat) : Nat := (m - 1) / rosterLanes mode

/-- Write the node's roster lane (R76). -/
def writeRosterLane (n : Node) (c cn : Nat) (b : List Byte) : List Byte :=
  let own := ownNumber n
  let flags := 128 + 64 * b2n (chan n c).starved + 32 * b2n (!cxAlive n)
  let body := beBytes 1 flags ++ rosterTx n (cfgChan n c)
  let t := makeTag n cn c 4 (fIndex b) own own body
  orFrameFlags (overlay b (rosterLaneAt (lineMode n) own) (body ++ t)) 0x80#8

/-- What one roster lane says on the return pass: absent, unusable, or its flags and REPORT. -/
inductive LaneRead where
  | absent | bad | used (starved : Bool) (report : List Byte)
  deriving DecidableEq, Repr

/-- Read node m's lane of a roster frame (R75, R87). -/
def readRosterLane (n : Node) (c cn : Nat) (b : List Byte) (m : Nat) : LaneRead :=
  let off := rosterLaneAt (lineMode n) m
  let body := cut b off 8
  let flags := be b off 1
  if !bitOf flags 7 then .absent
  else if fTagged b && tagOk n cn c 4 (fIndex b) m m body (cut b (off + 8) 8) then .used (bitOf flags 6) (body.drop 1)
  else .bad

/-- The leader keeps a report it has read (R124).  A PORTS byte that differs from the committed one asks for an
inauguration, once per new value (R103), and abandons one whose COMMIT is not sent (R105). -/
def leaderReadsReport (n : Node) (m : Nat) (report : List Byte) : Node :=
  let r := look {} n.inn.roster m
  let n := if bitOf (imgLe n (rosterAt m + 10) 1) 0 then n else { n with inn := { n.inn with mergeCheck := false } }
  let n := { n with inn := { n.inn with roster := put {} n.inn.roster m { r with report := report, fresh := true, seenNow := true } } }
  let ports := le report 1 1
  if decide (ports ≠ rosterPorts n m) && (r.report.isEmpty || decide (ports ≠ le r.report 1 1)) then
    let open_ := match n.inn.inaug with
      | some i => !i.committed
      | none => false
    { n with inn := { n.inn with wanted := true, abandonNow := n.inn.abandonNow || open_ } }
  else n

/-- Is node m farther from the originator of channel c than this node (R83)? -/
def farther (n : Node) (c m : Nat) : Bool :=
  match (chan n c).outCsf with
  | some f => if f.ringB then decide (m < ownNumber n) else decide (ownNumber n < m)
  | none => decide (ownNumber n < m)

/-- Read a whole roster frame. -/
def readRoster (n : Node) (c : Nat) (b : List Byte) : Node :=
  if !usable n c b then n
  else
    let cn := cnOf n c b
    let k := rosterLanes (lineMode n)
    (List.range k).foldl (fun n i =>
      let m := fIndex b * k + i + 1
      if m > 512 then n
      else match readRosterLane n c cn b m with
        | .absent => n
        | .bad => tagFailure n c
        | .used starved report =>
          let x := chan n c
          let n := setChan n c { x with yieldRead := some (x.yieldRead.getD false || (starved && farther n c m)) }
          let key := (cn, 4, fIndex b, m)
          if isLeader n && !isUsed n key then leaderReadsReport (markUsed n key) m report else n) n

/-- ROSTER_SLOT_OUTBOUND (R76): a node without a number writes no lane (R102). -/
def execRosterSlotOutbound (c : Fin 2) (frame : List Byte) (s : State) : Host.Outcome State Fault Refusal :=
  onNode s (fun n =>
    let c := c.val
    if !hears n c frame then n
    else if fType frame ≠ 4 || !slotTypeOk (lineMode n) (fIndex frame) 4 then notPermitted n c frame
    else
      let n := countCrc n (rxPort n c frame) frame
      if !passesCn n c frame then (passFrame (cnMismatch n c) c frame frame true).1
      else
        let own := ownNumber n
        let out := if own ≠ 0 && rosterSlotOf (lineMode n) own = fIndex frame then writeRosterLane n c (cnOf n c frame) frame else frame
        let (n, read) := passFrame n c frame out true
        if read then readRoster n c (turnedCopy frame out) else n)

/-- ROSTER_SLOT_RETURN (R124). -/
def execRosterSlotReturn (c : Fin 2) (frame : List Byte) (s : State) : Host.Outcome State Fault Refusal :=
  onNode s (fun n =>
    let c := c.val
    if !hears n c frame then n
    else if fType frame ≠ 4 || !slotTypeOk (lineMode n) (fIndex frame) 4 then notPermitted n c frame
    else
      let n := countCrc n (rxPort n c frame) frame
      let n := if passesCn n c frame then n else cnMismatch n c
      readRoster (passFrame n c frame frame true).1 c frame)

/-! ### Violations and quarantine (R89, R90) -/

/-- What is wrong with a received frame (Table LC-18), or an aborted frame (R45). -/
def violationEffect (n : Node) (p : Nat) (kind : RxViolation) : Node :=
  match kind with
  | .outsideWindow => emit (rxViolation n p) (.lineIdle (2 * (p / 2) + (1 - p % 2)))
  | .notPermitted => emit (rxViolation n p) (.lineIdle (2 * (p / 2) + (1 - p % 2)))
  | .tooLong => emit (rxViolation n p) (.lineError (2 * (p / 2) + (1 - p % 2)))
  | .noWindow => rxViolation n p
  | .aborted => count n (R.LP_CNT p 3)
  | .badHeader => count n (R.LP_CNT p 2)

/-- RECEIVED_FRAME_VIOLATION (R89). -/
def execReceivedFrameViolation (p : Fin 4) (kind : RxViolation) (s : State) : Host.Outcome State Fault Refusal :=
  onNode s (fun n => if lineOn n && lineDieOk n (p.val / 2) then violationEffect n p.val kind else n)

/-- QUARF or QUARR of a port. -/
def quarField (p : Nat) : Field := if p % 2 = 0 then F.LC_SLUICESTAT_QUARF else F.LC_SLUICESTAT_QUARR

/-- VCNTF or VCNTR of a port. -/
def vcntField (p : Nat) : Field := if p % 2 = 0 then F.LC_SLUICESTAT_VCNTF else F.LC_SLUICESTAT_VCNTR

/-- Start the quarantine of a port (R90): its bit, and one class N event; the port no longer forwards (R46). -/
def startQuarantine (n : Node) (p : Nat) : Node :=
  let c := p / 2
  let q := gf n (R.LC_SLUICECFG c) F.LC_SLUICECFG_QTIME
  let n := setPort n p { port n p with quar := some (if q = 0 then 1 else q), quarClear := false }
  let n := sf n (R.LC_SLUICESTAT c) (quarField p) 1
  setForwarding (raise n .n 3 c (R.LC_EVT c) F.LC_EVT_QUAR) p false

/-- End it; the violation window restarts (R90). -/
def endQuarantine (n : Node) (p : Nat) : Node :=
  let n := setPort n p { port n p with quar := none, quarClear := false, viols := [], violNow := false }
  sf (sf n (R.LC_SLUICESTAT (p / 2)) (quarField p) 0) (R.LC_SLUICESTAT (p / 2)) (vcntField p) 0

/-- QUARANTINE_EXPIRY (R90): QTIME cycles have passed; the port forwards again where nothing else holds it. -/
def execQuarantineExpiry (p : Fin 4) (s : State) : Host.Outcome State Fault Refusal :=
  onNode s (fun n => if (port n p.val).quar = some 0 then refreshPort (endQuarantine n p.val) p.val else n)

/-- QUARANTINE_CLEAR_WRITE (R90): the quarantine ends at the next boundary. -/
def quarantineClear (n : Node) (p : Nat) : Node :=
  if (port n p).quar.isSome then setPort n p { port n p with quarClear := true } else n

/-- QUARANTINE_CLEAR_WRITE (R90). -/
def execQuarantineClearWrite (p : Fin 4) (s : State) : Host.Outcome State Fault Refusal :=
  onNode s (fun n => quarantineClear n p.val)

/-- PREVIOUS_KEY_EXPIRY (R88): 64 cycles after the commit cycle. -/
def execPreviousKeyExpiry (s : State) : Host.Outcome State Fault Refusal :=
  onNode s (fun n =>
    match n.line.prevKey with
    | some (_, last) => if cnDiff (cnNow n) last < 0 then n else { n with line := { n.line with prevKey := none } }
    | none => n)

/-- STARVED_SET (R83): a class M or L message has waited STARVEW cycles, or two chains in a row were abandoned. -/
def execStarvedSet (c : Fin 2) (s : State) : Host.Outcome State Fault Refusal :=
  onNode s (fun n =>
    let c := c.val
    let x := chan n c
    let w := ff n (R.LC_CFG (cfgChan n c)) F.LC_CFG_STARVEW
    let limit := if w = 0 then 1 else w
    if x.starved || (x.waited < limit && x.abandoned < 2) then n
    else lcEvt (setChan n c { x with starved := true }) c F.LC_EVT_STARVED)

end Sys2Proof.Machine
end

