-- ==== Sys2Proof/Machine/AudioBlocks.lean ====
section
/-! DEFINITION. Blocks, concealment, sources and the I/O buffer region of AX (spec/08_audio.md, R228 to R237). -/

namespace Sys2Proof.Machine

/-- AX works: RUN, with CX and AX in use (Tables AC-3, AC-7). -/
def audioOn (n : Node) : Bool := isRun n && cxAlive n && !dieFailed n 3

/-- Change the audio plane. -/
def withAu (n : Node) (f : AuState → AuState) : Node := { n with au := f n.au }

/-- Set an event bit of AU_EVT without a record. -/
def auEvt (n : Node) (f : Field) : Node := sf n R.AU_EVT f 1

/-- A quotient whose rounding the spec does not state (log entry 19): one of its two integer neighbours. -/
def roundDiv (num : Int) (den : Nat) : Int :=
  let q := num / (den : Int)
  if num % (den : Int) = 0 then q else q + (if Config.roundUp num den then 1 else 0)

/-- A good state (R231). -/
def LaneState.good : LaneState → Bool
  | .valid => true
  | .clipped => true
  | _ => false

/-- Samples that are all zero. -/
def zeroSamples (k : Nat) : List (BitVec 32) := List.replicate k 0#32

/-- Weight sample k by `w k` sixths (R231). -/
def weighted (w : Nat → Nat) (xs : List (BitVec 32)) : List (BitVec 32) :=
  xs.zipIdx.map (fun x => BitVec.ofInt 32 (roundDiv (x.1.toInt * (w x.2 : Nat)) 6))

/-- Concealment (R231): the block of a stream after the one before it. -/
def conceal (prev cur : AuBlock) : AuBlock :=
  if cur.st.good then
    if prev.st.good then cur else { cur with samples := weighted (fun k => k + 1) cur.samples }
  else if prev.st.good then { cur with samples := weighted (fun k => 5 - k) prev.samples }
  else { cur with samples := zeroSamples cur.samples.length }

/-- Count a concealed lane or input block (R231). -/
def countConceal (n : Node) (b : AuBlock) : Node :=
  if b.st = .concealed then auEvt (count n (R.AU_CNT 0)) F.AU_EVT_CONCEAL else n

/-! ### Received lanes (R205, R231 to R233, R258) -/

/-- Is a lane in an audio slot of the configuration in force? -/
def laneConfigured (n : Node) (a : Nat) : Bool :=
  laneInRange (lineMode n) (laneSlot a) (laneNum a)
    && ff n (R.LC_SLOTCFG (cfgChan n (laneChan a)) (laneSlot a)) F.LC_SLOTCFG_KIND == 1

/-- The block of production cycle p of a lane as it arrived: concealed where its container is missing (R73). -/
def laneArrived (n : Node) (p : Nat × Bool) (a : Nat) : AuBlock :=
  if p.2 then { cyc := p.1 }
  else match (n.line.heard.find? (fun s => s.cn == p.1)).bind (fun s => (s.lanes.find? (fun e => e.1 == a)).map (·.2)) with
    | some v => { st := v.st, samples := v.samples, cyc := p.1 }
    | none => { st := if laneConfigured n a then .concealed else .null, cyc := p.1 }

/-- The block of a received lane that the pass of this cycle works on (R231). -/
def laneBlock (n : Node) (a : Nat) : AuBlock :=
  conceal (laneArrived n n.au.pPrev a) (laneArrived n n.au.pNow a)

/-- A lane address as the node takes it: CHAN as 0 in ring and forerunner modes (R204); bits 15, 14:8 and 5:0. -/
def takeLane (n : Node) (a : Nat) : Nat := laneAddr (cfgChan n (laneChan a)) (laneSlot a) (laneNum a)

/-- Does AX receive a lane (R232)? -/
def laneReceived (n : Node) (a : Nat) : Bool := n.au.rx.contains a

/-- Is a lane a 16 kHz lane (AU_LANE16)? -/
def lane16 (n : Node) (a : Nat) : Bool :=
  bitOf (inForce n (R.AU_LANE16 (cfgChan n (laneChan a)) (laneSlot a) (laneNum a / 32))).toNat (laneNum a % 32)

/-- Lanes enabled in AU_LANERX, in the order of channel, slot and lane (R232). -/
def lanesEnabled (n : Node) : List Nat :=
  let chans := if isNative n then [0, 1] else [0]
  let mode := lineMode n
  chans.flatMap (fun c => (which (slotCount mode) (fun s => decide (firstAudioSlot mode ≤ s) && decide (8 ≤ s))).flatMap (fun s =>
    (which (laneCount mode) (fun k => bitOf (inForce n (R.AU_LANERX c s (k / 32))).toNat (k % 32))).map (laneAddr c s)))

/-- RX_LANE_LIMIT (R232): at a boundary. -/
def updateRxLanes (n : Node) : Node :=
  let all := lanesEnabled n
  let keep := all.take 2048
  let excess := decide (2048 < all.length)
  let was := decide (2048 ≤ n.au.rx.length) && gf n R.AU_EVT F.AU_EVT_RXLIM == 1
  let n := sf (withAu n (fun a => { a with rx := keep })) R.AU_STAT F.AU_STAT_RXLANES keep.length
  if !excess then n else if was then auEvt n F.AU_EVT_RXLIM else raise n .a 7 0 R.AU_EVT F.AU_EVT_RXLIM

/-! ### Rates (R233) -/

/-- `k` free samples (log entry 2): filter outputs whose coefficients the spec does not give. -/
def freeSamples : Nat → Node → Node × List (BitVec 32)
  | 0, n => (n, [])
  | k + 1, n =>
    let (v, n) := freshWord n
    let (n, l) := freeSamples k n
    (n, v.setWidth 32 :: l)

/-- A block at 48 kHz: a 16 kHz block is interpolated by 3. -/
def to48 (n : Node) (b : AuBlock) : Node × AuBlock :=
  if !b.k16 then (n, b)
  else if !b.st.good then (n, { b with k16 := false, samples := zeroSamples 6 })
  else let (n, l) := freeSamples 6 n; (n, { b with k16 := false, samples := l })

/-- A block at 16 kHz: a 48 kHz block is decimated. -/
def to16 (n : Node) (b : AuBlock) : Node × AuBlock :=
  if b.k16 then (n, b)
  else if !b.st.good then (n, { b with k16 := true, samples := zeroSamples 2 })
  else let (n, l) := freeSamples 2 n; (n, { b with k16 := true, samples := l })

/-! ### The I/O buffer region (R234) -/

/-- Offset of the region within AX SRAM. -/
def ioBase : Nat := 0x700000

/-- What a unit of the region is (Table AU-2). -/
inductive IoUnit where
  | output (u : Nat)
  | program (i : Nat)
  | input (u : Nat)
  | player (j : Nat)
  | zone (z : Nat)
  | ec48 (h : Nat)
  | ec16 (h : Nat)
  | reserved
  deriving DecidableEq, Repr

/-- The unit at an offset of the region (Tables AU-2, R236). -/
def ioUnit (off : Nat) : IoUnit :=
  if off < 0x1000 then .output (off / 32)
  else if off < 0x2000 then .input ((off - 0x1000) / 32)
  else if off < 0x2100 then .output (128 + (off - 0x2000) / 32)
  else if off < 0x2200 then .input (128 + (off - 0x2100) / 32)
  else if off < 0x2400 then .player ((off - 0x2200) / 32)
  else if off < 0x2600 then .zone ((off - 0x2400) / 32)
  else if off < 0x3000 then .reserved
  else if off < 0x3800 then .ec48 ((off - 0x3000) / 32)
  else if off < 0x4000 then .ec16 ((off - 0x3800) / 32)
  else if off < 0x6000 then .program ((off - 0x4000) / 32)
  else if 0x6000 ≤ off ∧ off < 0x6800 then .output (136 + (off - 0x6000) / 32)
  else .reserved

/-- Offset of output unit u. -/
def outOffset (u : Nat) : Nat :=
  if u < 128 then 32 * u else if u < 136 then 0x2000 + 32 * (u - 128) else 0x6000 + 32 * (u - 136)

/-- KIND of a selector; a reserved KIND acts as 0 (R235). -/
def selKind (v : BitVec 32) : Nat := if bits v.toNat 28 4 < 8 then bits v.toNat 28 4 else 0

/-- Does the mixer pass fill output unit u (R236)? -/
def hwFilled (n : Node) (u : Nat) : Bool := selKind (inForce n (R.AU_OUTSRC u)) != 0

/-- The state a unit's byte 24 spells. -/
def stateOfCode : Nat → LaneState
  | 0 => .null
  | 1 => .valid
  | 2 => .clipped
  | _ => .concealed

/-- The 32 bytes of a unit. -/
def AuBlock.unitBytes (b : AuBlock) : List Byte :=
  cut (b.samples.flatMap (fun x => leBytes 4 x.toNat)) 0 24 ++ leBytes 4 b.st.code ++ leBytes 4 (b.cyc % 2 ^ 32)

/-- The block a unit's bytes spell. -/
def unitBlock (bs : List Byte) : AuBlock :=
  { st := stateOfCode (le bs 24 4), samples := (List.range 6).map (fun k => BitVec.ofNat 32 (le bs (4 * k) 4)), cyc := le bs 28 4 }

/-- The block programs stored into the unit at an offset in this cycle; missing where no run did, or the last one trapped (R207, R236). -/
def storedBlock (n : Node) (off : Nat) : AuBlock :=
  match n.mil.unitWriter.find? (fun e => e.1 == off / 32) with
  | some (_, _, false) => unitBlock (readBytes n.mil.axram (ioBase + off) 32)
  | _ => { st := .concealed }

/-- A store into the I/O buffer region was discarded (R230, R234, R236). -/
def lateStore (n : Node) : Node := auEvt (count n (R.AU_CNT 7)) F.AU_EVT_LATESTORE

/-- Store bytes at an offset of the region in a run of program k (R207, R230, R234, R236).  A store of at most 32
aligned bytes lies in one unit. -/
def ioStore (n : Node) (off k : Nat) (bs : List Byte) : Node :=
  let keep := fun (n : Node) =>
    { n with mil := { n.mil with
        axram := writeBytes n.mil.axram (ioBase + off) bs
        unitWriter := put (512, false) n.mil.unitWriter (off / 32) (k, false) } }
  match ioUnit off with
  | .output u => if n.au.passDone || hwFilled n u then lateStore n else keep n
  | .program _ => if n.au.passDone then lateStore n else keep n
  | _ => lateStore n

/-- The input unit u after concealment: TDM 16 k + s, analogue 128 + k. -/
def inputBlock (n : Node) (u : Nat) : AuBlock :=
  conceal (look {} n.au.inPrev u) (look {} n.au.inNow u)

/-! ### Library players (R252, R253) -/

/-- Player j. -/
def player (n : Node) (j : Nat) : Player := look {} n.au.players j
/-- Set player j. -/
def setPlayer (n : Node) (j : Nat) (p : Player) : Node := withAu n (fun a => { a with players := put {} a.players j p })

/-- Sample i of an item, in Q8.24 (Table AU-6). -/
def itemSample (n : Node) (x : LibItem) (i : Nat) : BitVec 32 :=
  if x.words then BitVec.ofNat 32 (leVal (dramRead n (x.addr + 4 * i) 4))
  else BitVec.ofInt 32 (signed 16 (leVal (dramRead n (x.addr + 2 * i) 2)) * 256)

/-- First sample index a player supplies to the pass of this cycle (R253), and how many. -/
def playIndex (n : Node) (p : Player) (x : LibItem) : Int × Nat :=
  let per : Nat := if x.k16 then 2 else 6
  (cnDiff n.au.pNow.1 p.start * (per : Int), per)

/-- Has a player run past the end of an item that does not loop? -/
def playEnds (n : Node) (p : Player) (x : LibItem) : Bool :=
  let (i, per) := playIndex n p x
  !x.loop && decide ((x.nsamp : Int) ≤ i + per)

/-- The block a player supplies in this cycle (R253, R258). -/
def playerBlock (n : Node) (j : Nat) : AuBlock :=
  let p := player n j
  match p.st, p.item with
  | .idle, _ | .ended, _ | .error, _ | _, none => { cyc := n.au.pNow.1 }
  | _, some x =>
    let (i, per) := playIndex n p x
    if n.au.pNow.2 || decide (i < 0) || x.nsamp == 0 then { k16 := x.k16, samples := zeroSamples per, cyc := n.au.pNow.1 }
    else
      let i0 := i.toNat
      let l := (List.range per).map (fun k =>
        let i := i0 + k
        if x.loop then itemSample n x (i % x.nsamp) else if i < x.nsamp then itemSample n x i else 0#32)
      { st := .valid, k16 := x.k16, cyc := n.au.pNow.1
        samples := if p.stopping then weighted (fun k => 5 - k) l else l }

/-! ### Sources (R235) -/

/-- Zone output z of the last pass. -/
def zoneBlock (n : Node) (z : Nat) : AuBlock := look {} n.au.zoneOut z

/-- Echo canceller h. -/
def canceller (n : Node) (h : Nat) : Canceller := look {} n.au.cancellers h

/-- The bytes of a read unit, and of anything else 0 (R234). -/
def ioUnitBytes (n : Node) (off : Nat) : List Byte :=
  match ioUnit off with
  | .input u => (inputBlock n u).unitBytes
  | .player j => (playerBlock n j).unitBytes
  | .zone z => (zoneBlock n z).unitBytes
  | .ec48 h => (canceller n h).out48.unitBytes
  | .ec16 h => (canceller n h).out16.unitBytes
  | _ => List.replicate 32 0#8

/-- A load of at most 32 aligned bytes from the region. -/
def ioLoad (n : Node) (off len : Nat) : List Byte := cut (ioUnitBytes n off) (off % 32) len

/-- The block of a source (Table AU-3), with the item gain of a player source. -/
def source (n : Node) (v : BitVec 32) : Node × AuBlock × Int :=
  let i := v.toNat
  match selKind v with
  | 1 =>
    let a := takeLane n (bits i 0 16)
    if !laneReceived n a then (count n (R.AU_CNT 8), {}, 0)
    else
      let b := laneBlock n a
      if lane16 n a then
        let k := bits i 16 2
        (n, { b with k16 := true, samples := if k < 3 then (b.samples.drop (2 * k)).take 2 else zeroSamples 2 }, 0)
      else (n, b, 0)
  | 2 => (n, inputBlock n (bits i 0 7), 0)
  | 3 => (n, inputBlock n (128 + bits i 0 3), 0)
  | 4 =>
    let j := bits i 0 4
    (n, playerBlock n j, ((player n j).item.map (·.gain)).getD 0)
  | 5 =>
    let k := bits i 0 8
    (n, conceal (look {} n.au.progPrev k) (storedBlock n (0x4000 + 32 * k)), 0)
  | 6 =>
    let c := canceller n (bits i 0 6)
    (n, if bitOf i 8 then c.out16 else c.out48, 0)
  | 7 => (n, zoneBlock n (bits i 0 4), 0)
  | _ => (n, {}, 0)

/-- A source for a 48 kHz path. -/
def source48 (n : Node) (v : BitVec 32) : Node × AuBlock × Int :=
  let (n, b, g) := source n v
  let (n, b) := to48 n b
  (n, b, g)

/-- A source for a 16 kHz path. -/
def source16 (n : Node) (v : BitVec 32) : Node × AuBlock :=
  let (n, b, _) := source n v
  to16 n b

/-! ### Own lane blocks (R206, R237) -/

/-- Contribute samples to the own block of a lane: the first sets it, later ones add with saturation (R206). -/
def contribute (n : Node) (a : Nat) (xs : List (BitVec 32)) : Node :=
  let old := n.mil.ownBlocks.find? (fun e => e.1 == a)
  let new := match old with
    | none => xs
    | some o => (addLanes o.2 xs).1
  { n with mil := { n.mil with ownBlocks := insertKey a new (dropKey n.mil.ownBlocks a) } }

/-- LOUT into a lane whose mode is NONE is blocked (R91, R206). -/
def contributeChecked (n : Node) (a : Nat) (xs : List (BitVec 32)) : Node :=
  if laneMode n.force (cfgChan n (laneChan a)) (laneSlot a) (laneNum a) = 0 then localBlocked n (laneChan a)
  else contribute n a xs

end Sys2Proof.Machine
end

