-- ==== Sys2Proof/Machine/Audio.lean ====
section
/-! DEFINITION. Zones, announcements, the mixer pass, the library, outputs and mute (spec/08_audio.md, R238 to R258). -/

namespace Sys2Proof.Machine

/-! ### Zones and announcements (R238 to R240) -/

/-- Entry i of the active announcements (Table IN-13). -/
def annByte (n : Node) (i off len : Nat) : Nat := imgLe n (imgAnn + 32 * i + off) len

/-- The image zone entry bound to local zone z (R238). -/
def zoneBinding (n : Node) (z : Nat) : Option Nat :=
  (List.range 1024).find? (fun i =>
    let a := imgZone + 8 * i
    imgLe n a 2 == ownNumber n && ownNumber n != 0 && imgLe n (a + 2) 1 == z && bitOf (imgLe n (a + 3) 1) 7)

/-- Zone z. -/
def zone (n : Node) (z : Nat) : Zone := look {} n.au.zones z
/-- Set zone z. -/
def setZone (n : Node) (z : Nat) (x : Zone) : Node := withAu n (fun a => { a with zones := put {} a.zones z x })

/-- ZONE_BINDING (R238): at step 3 of a boundary. -/
def bindZones (n : Node) : Node :=
  forRange 16 (fun n z =>
    let b := zoneBinding n z
    let n := setZone n z { zone n z with bound := b }
    let n := sf n (R.AU_ZONESTAT z) F.AU_ZONESTAT_IMGIDX (b.getD 0)
    sflag n (R.AU_ZONESTAT z) F.AU_ZONESTAT_IMGVALID b.isSome) n

/-- Presentation delay in force. -/
def delayNow (n : Node) : Nat := gf n (R.LC_PRES 0) F.LC_PRES_D

/-- Is announcement entry i in effect for the pass of this cycle (R239)? -/
def annInEffect (n : Node) (i : Nat) : Bool :=
  bitOf (annByte n i 5 1) 7 && decide (0 ≤ cnDiff n.au.pNow.1 (annByte n i 20 6))

/-- Does announcement entry i address local zone z (R239)? -/
def annAddresses (n : Node) (i z : Nat) : Bool :=
  match (zone n z).bound with
  | none => false
  | some x =>
    let first := annByte n i 16 2
    let last := annByte n i 18 2
    if first = 0xFFFF then imgLe n (imgZone + 8 * x + 4) 2 == last
    else decide (first ≤ x) && decide (x ≤ last)

/-- CLASS of an announcement; 7 and above act as 6. -/
def annClass (n : Node) (i : Nat) : Nat := min (annByte n i 4 1) 6
/-- Is the announcement live? -/
def annLive (n : Node) (i : Nat) : Bool := bitOf (annByte n i 5 1) 6
/-- Selector of a live announcement's lane (Table AU-4). -/
def annSelector (n : Node) (i : Nat) : BitVec 32 :=
  BitVec.ofNat 32 (0x10000000 + laneAddr (annByte n i 12 1 % 2) (annByte n i 13 1 % 128) (annByte n i 14 1 % 64))

/-- The announcement entries in effect. -/
def annsInEffect (n : Node) : List Nat := (List.range 256).filter (annInEffect n)

/-- Player that serves announcement entry i. -/
def playerOf (n : Node) (i : Nat) : Option Nat :=
  (List.range 16).find? (fun j => (player n j).ann == some (i, annByte n i 0 4))

/-- Start a player on an item (R252, R253). -/
def startPlayer (n : Node) (j : Nat) (id start : Nat) (ann : Option (Nat × Nat)) : Node :=
  let item := n.au.lib.find? (fun x => x.id == id)
  let n := count n (R.AU_CNT 5)
  setPlayer n j { st := if item.isSome then .waiting else .error, ann := ann, item := item, start := start }

/-- PLAYER_POOL_ASSIGN (R252): a player for each library announcement in effect. -/
def assignPlayers (n : Node) : Node :=
  -- players whose entry is no longer in effect stop with one last block
  let n := forRange 16 (fun n j =>
    let p := player n j
    match p.ann with
    | some (i, id) =>
      if annInEffect n i && annByte n i 0 4 == id && !annLive n i then n
      else if p.st = .playing then (if p.stopping then n else setPlayer n j { p with stopping := true })
      else setPlayer n j {}
    | none => n) n
  (annsInEffect n).foldl (fun n i =>
    if annLive n i || !(List.range 16).any (annAddresses n i) || (playerOf n i).isSome then n
    else
      let free := fun j => gf n (R.AU_PLAYCTL j) F.AU_PLAYCTL_AUTO == 1 && (player n j).ann.isNone && !(player n j).go
        && ((player n j).st == .idle || (player n j).st == .ended)
      match (List.range 16).find? free with
      | some j => startPlayer n j (annByte n i 28 4) (annByte n i 20 6) (some (i, annByte n i 0 4))
      | none => auEvt (count n (R.AU_CNT 4)) F.AU_EVT_NOPLAYER) n

/-- Does entry `i` come before entry `j` (R240)? -/
def annBefore (n : Node) (i j : Nat) : Bool :=
  if annClass n i ≠ annClass n j then decide (annClass n i < annClass n j)
  else
    let d := cnDiff (annByte n i 20 6) (annByte n j 20 6)
    if d ≠ 0 then decide (d < 0) else decide (i < j)

/-- Insert by precedence. -/
def annInsert (n : Node) (i : Nat) : List Nat → List Nat
  | [] => [i]
  | j :: l => if annBefore n i j then i :: j :: l else j :: annInsert n i l

/-- Entries that zone z mixes or leaves out, by precedence (R240, R252). -/
def zoneAnns (n : Node) (z : Nat) : List Nat :=
  ((annsInEffect n).filter (fun i => annAddresses n i z && (annLive n i || (playerOf n i).isSome))).foldr (annInsert n) []

/-! ### Gains (R244 to R246) -/

/-- One dB in 2^-16 of 1/256 dB. -/
def dB : Int := 256 * 65536

/-- A gain field in 1/256 dB as a component. -/
def gainOf (v : Nat) : Int := signed 16 v * 65536

/-- Constants 2^32 x 10^(2^j / 5120). -/
def gainSteps : List Nat := [4296899279, 4298832131, 4302700443, 4310447514, 4325983526, 4357223741, 4420382605, 4549460108] ++
  [4819032567, 5407043472, 6807064429, 10788470075, 27099411597, 170985727783, 6807064429274, 10788470074599790]

/-- The Q8.24 factor of a gain of u / 256 dB above -120 dB, to within the rounding of the constants. -/
def gainNominal (u : Nat) : Nat :=
  (gainSteps.zipIdx.foldl (fun acc x => if bitOf u x.2 then acc * x.1 / 2 ^ 32 else acc) 18446744073710) / 2 ^ 40

/-- The linear factor of a gain (R246): exactly 0 at -120 dB; otherwise a free value within the bound of R246,
rounded out to the neighbouring Q8.24 codes and 1/256 dB steps. -/
def linGain (g : Int) : Nat :=
  if g ≤ -120 * dB then 0
  else
    let u := ((g + 120 * dB) / 65536).toNat
    let lo := gainNominal u * 99885 / 100000
    let hi := gainNominal (u + 1) * 100116 / 100000 + 1
    max lo (min hi (Config.gainFactor g))

/-- One step of a slewed component towards its target (R245). -/
def slew (step : Nat) (target cur : Int) : Int :=
  if cur < target then min target (cur + step) else max target (cur - step)

/-- The step of a rate num / den in dB/s (R245). -/
def slewStep (num den : Nat) : Nat := ceilDiv (num * 256 * 65536) (8000 * den)

/-- DUCKDB in force (AU_CFG). -/
def duckDb (n : Node) : Nat :=
  let v := ff n R.AU_CFG F.AU_CFG_DUCKDB
  if 40 ≤ v ∧ v ≤ 96 then v else 40
/-- DUCKMS in force. -/
def duckMs (n : Node) : Nat :=
  let v := ff n R.AU_CFG F.AU_CFG_DUCKMS
  if 10 ≤ v ∧ v ≤ 1000 then v else 50
/-- RELMS in passes. -/
def releasePasses (n : Node) : Nat := 8 * min (ff n R.AU_CFG2 F.AU_CFG2_RELMS) 8000
/-- Step of the duck and mute components (R242, R243). -/
def duckStep (n : Node) : Nat := slewStep (duckDb n * 1000) (duckMs n)
/-- Step of the set-point and zone level. -/
def setStep (n : Node) : Nat := slewStep (max 1 (ff n R.AU_CFG2 F.AU_CFG2_SETRATE)) 1

/-- What a zone mixes from one input in a pass. -/
structure ZoneInput where
  key : Nat
  cls : Nat
  sel : BitVec 32
  gain : Nat
  /-- 0 manual, 1 state, 2 always -/
  act : Nat
  manual : Bool
  ann : Option (Nat × Nat)
  deriving DecidableEq, Repr

/-- The manual inputs of a zone that are enabled. -/
def manualInputs (n : Node) (z : Nat) : List ZoneInput :=
  (which 16 (fun i => ff n (R.AU_MIXCFG z i) F.AU_MIXCFG_EN == 1)).map (fun i =>
    let v := inForce n (R.AU_MIXCFG z i)
    { key := 32 * z + i, cls := min (fget v F.AU_MIXCFG_CLASS) 6, sel := inForce n (R.AU_MIXSRC z i)
      gain := fget v F.AU_MIXCFG_GAIN, act := fget v F.AU_MIXCFG_ACTSRC, manual := fget v F.AU_MIXCFG_ACT == 1, ann := none })

/-- The announcement inputs of a zone (R240). -/
def annInputs (n : Node) (z : Nat) (l : List Nat) : List ZoneInput :=
  (l.take 8).zipIdx.map (fun (i, k) =>
    { key := 32 * z + 16 + k, cls := annClass n i
      sel := if annLive n i then annSelector n i else BitVec.ofNat 32 (0x40000000 + (playerOf n i).getD 0)
      gain := fget (inForce n (R.AU_CLSGAIN (annClass n i))) F.AU_CLSGAIN_GAIN, act := 2, manual := false
      ann := some (i, annByte n i 0 4) })

/-- One input of a zone. -/
def mixInput (n : Node) (k : Nat) : MixInput := look {} n.au.mix k
/-- Set it. -/
def setMix (n : Node) (k : Nat) (x : MixInput) : Node := withAu n (fun a => { a with mix := put {} a.mix k x })

/-- Is an input active in this pass, its source's block being `good` (R241)? -/
def inputActive (x : ZoneInput) (m : MixInput) (good : Bool) : Bool :=
  if x.act = 2 then true else if x.act = 1 then good || decide (0 < m.alive) else x.manual

/-- Is zone z muted (R243)? -/
def zoneMuted (n : Node) (z : Nat) : Bool :=
  ff n (R.AU_ZONECFG z) F.AU_ZONECFG_MUTE == 1
    || (match (zone n z).bound with
        | some i => bitOf (imgLe n (imgZone + 8 * i + 3) 1) 6
        | none => false)

/-- An input's components after this pass (R242 to R245). -/
def moveInput (n : Node) (z : Nat) (x : ZoneInput) (m : MixInput) (ducks muted good : Bool) (ambGain item : Int) : MixInput :=
  let rel := if ducks then releasePasses n else m.release - 1
  let ducked := ducks || decide (0 < m.release)
  let tSet := gainOf x.gain
  let tLev := gainOf (ff n (R.AU_ZONECFG z) F.AU_ZONECFG_LEVEL)
  let tDuck := if ducked then -(duckDb n : Int) * dB else 0
  let tMute := if muted && x.cls != 0 then -120 * dB else 0
  let fresh := !m.on || m.ann != x.ann
  let mv := fun (step : Nat) (t c : Int) => if fresh then t else slew step t c
  let m := { m with
    setPoint := mv (setStep n) tSet m.setPoint, level := mv (setStep n) tLev m.level
    duck := mv (duckStep n) tDuck m.duck, mute := mv (duckStep n) tMute m.mute
    release := rel, alive := if good then 63 else m.alive - 1, ann := x.ann }
  let amb := if ff n (R.AU_ZONECFG z) F.AU_ZONECFG_AMBEN = 1 && bitOf (ff n (R.AU_ZONECFG z) F.AU_ZONECFG_AMBCLS) x.cls then ambGain else 0
  let g := clampInt (-120 * dB) (24 * dB) (m.setPoint + m.level + m.duck + m.mute + amb + item)
  let f := linGain g
  { m with on := true, factor := f }

/-- The weighted samples of a block (R246): factor g_prev + (g_new - g_prev)(k + 1) / 6. -/
def weigh (b : AuBlock) (gPrev gNew : Nat) : List Int :=
  b.samples.zipIdx.map (fun (x, k) =>
    roundDiv (x.toInt * (6 * (gPrev : Int) + ((gNew : Int) - gPrev) * ((k : Int) + 1))) (6 * 2 ^ 24))

/-- Inputs of zone z that no longer mix are forgotten (R245). -/
def dropInputs (n : Node) (z : Nat) (keys : List Nat) : Node :=
  forRange 24 (fun n i => if keys.contains (32 * z + i) then n else setMix n (32 * z + i) {}) n

/-- Fetch the blocks of a zone's inputs. -/
def fetchInputs : List ZoneInput → Node → Node × List (ZoneInput × AuBlock × Int)
  | [], n => (n, [])
  | x :: xs, n =>
    let (n, b, g) := source48 n x.sel
    let (n, l) := fetchInputs xs n
    (n, (x, b, g) :: l)

/-- Mix zone z (R239 to R246). -/
def mixZone (n : Node) (z : Nat) : Node :=
  if ff n (R.AU_ZONECFG z) F.AU_ZONECFG_EN = 0 then
    let n := dropInputs n z []
    let n := setZone n z { bound := (zone n z).bound }
    let n := sf (sf n (R.AU_ZONESTAT z) F.AU_ZONESTAT_TOPCLS 7) (R.AU_ZONESTAT z) F.AU_ZONESTAT_NOISE 0x80
    let n := sf (sf n (R.AU_ZONESTAT z) F.AU_ZONESTAT_AMBGAIN 0) (R.AU_ZONESTAT z) F.AU_ZONESTAT_HELD 0
    withAu n (fun a => { a with zoneOut := put {} a.zoneOut z {} })
  else
    let anns := zoneAnns n z
    let left := anns.length - 8
    let n := if left = 0 then n else auEvt (countBy n (R.AU_CNT 4) left) F.AU_EVT_NOAUTO
    let ins := manualInputs n z ++ annInputs n z anns
    let (n, got) := fetchInputs ins n
    let act := got.map (fun (x, b, _) => (x.cls, inputActive x (mixInput n x.key) b.st.good))
    let top := (act.filter (·.2)).foldl (fun t a => min t a.1) 7
    let muted := zoneMuted n z
    let n := sf (sflag n (R.AU_ZONESTAT z) F.AU_ZONESTAT_MUTED muted) (R.AU_ZONESTAT z) F.AU_ZONESTAT_TOPCLS top
    let amb := (zone n z).amb
    let step := fun (st : Node × List Int) (e : ZoneInput × AuBlock × Int) =>
      let (x, b, item) := e
      let m := mixInput st.1 x.key
      let m' := moveInput st.1 z x m (decide (top < x.cls)) muted b.st.good amb item
      let prev := if m.on && m.ann == x.ann then m.factor else m'.factor
      (setMix st.1 x.key m', List.zipWith (· + ·) st.2 (weigh b prev m'.factor))
    let (n, sum) := got.foldl step (n, [0, 0, 0, 0, 0, 0])
    let n := dropInputs n z (ins.map (·.key))
    let sat := (sum.filter (fun x => saturate 32 x != x)).length
    let n := if sat = 0 then n else auEvt (countBy n (R.AU_CNT 3) sat) F.AU_EVT_ZSAT
    let peak := sum.foldl (fun p x => max p (saturate 32 x).natAbs) 0
    let zs := zone n z
    let n := setZone n z { zs with on := true, peaks := (peak :: zs.peaks).take 260 }
    let out : AuBlock := { st := .valid, samples := sum.map (fun x => BitVec.ofInt 32 (saturate 32 x)), cyc := cnNow n }
    withAu n (fun a => { a with zoneOut := put {} a.zoneOut z out })

/-! ### Ambient adaptation (R247, R248) -/

/-- Is a peak below -gate dBFS? -/
def belowGate (peak gate : Nat) : Bool := decide (peak ^ 20 * 10 ^ gate < 0x7FFFFF ^ 20)

/-- Show NOISE after an admitted block: a free value once 800 blocks have been admitted. -/
def showNoise (n : Node) (z admitted : Nat) : Node :=
  if admitted < 800 then sf n (R.AU_ZONESTAT z) F.AU_ZONESTAT_NOISE 0x80
  else
    let (v, n) := freshWord n
    sf n (R.AU_ZONESTAT z) F.AU_ZONESTAT_NOISE ((129 + v.toNat % 255) % 256)

/-- The ambient target of a zone (R248). -/
def ambTarget (n : Node) (z : Nat) : Int :=
  let noise := gf n (R.AU_ZONESTAT z) F.AU_ZONESTAT_NOISE
  let v := inForce n (R.AU_ZONEAMB z)
  if noise = 0x80 then 0
  else clampInt 0 ((min (fget v F.AU_ZONEAMB_AMBMAX) 12 : Nat) * dB)
    ((signed 8 noise - signed 8 (fget v F.AU_ZONEAMB_NREF)) * (fget v F.AU_ZONEAMB_SLOPE : Nat) * dB / 16)

/-- AMBIENT_MEASURE of zone z (R247, R248).  The zone output presented AMBDLY cycles before the capture cycle c - 1 is
that of the pass of cycle c - 3 - AMBDLY. -/
def measureZone (n : Node) (z : Nat) : Node :=
  if ff n (R.AU_ZONECFG z) F.AU_ZONECFG_EN = 0 then n
  else
    let v := inForce n (R.AU_ZONEAMB z)
    let dly := max 1 (fget v F.AU_ZONEAMB_AMBDLY)
    let peak := (zone n z).peaks.getD (3 + dly) 0
    let open_ := belowGate peak (fget v F.AU_ZONEAMB_AMBGATE)
    let mic := fun (n : Node) (m : Nat) => let sel := inForce n (R.AU_ZONEMIC z m)
      if selKind sel = 0 then (n, 0) else
        let (n, b, _) := source n sel
        (n, if b.st.good && open_ then 1 else 0)
    let (n, a) := mic n 0
    let (n, b) := mic n 1
    let x := zone n z
    let k := a + b
    let x := { x with admitted := x.admitted + k, idle := if k = 0 then x.idle + 1 else 0 }
    let n := if k = 0 then n else showNoise n z x.admitted
    let n := if k ≠ 0 then sf n (R.AU_ZONESTAT z) F.AU_ZONESTAT_HELD 0
      else if x.idle ≥ 80000 then sf n (R.AU_ZONESTAT z) F.AU_ZONESTAT_HELD 1 else n
    let amb := slew (slewStep 3 1) (ambTarget n z) x.amb
    sf (setZone n z { x with amb := amb }) (R.AU_ZONESTAT z) F.AU_ZONESTAT_AMBGAIN (amb * 16 / dB).toNat

/-! ### Echo cancellers (R249, R250) -/

/-- Set canceller h. -/
def setCanceller (n : Node) (h : Nat) (x : Canceller) : Node :=
  withAu n (fun a => { a with cancellers := put {} a.cancellers h x })

/-- Sum of squares. -/
def power (xs : List (BitVec 32)) : Nat := xs.foldl (fun s x => s + x.toInt.natAbs * x.toInt.natAbs) 0

/-- ECHO_CANCELLER_DIVERGE (R250). -/
def ecDiverged (n : Node) (h : Nat) : Node :=
  let n := raise (count n (R.AU_CNT 9)) .a 7 0 R.AU_EVT F.AU_EVT_ECDIV
  setCanceller n h { canceller n h with loud := 0, shown := 8000 }

/-- The microphone block of canceller h at 16 kHz; another canceller's output is that of the pass before, `old`
(R249, Table AU-1). -/
def ecMic (n : Node) (old : Sparse Canceller) (h : Nat) : Node × AuBlock :=
  let now := n.au.cancellers
  let (n, b) := source16 (withAu n (fun a => { a with cancellers := old })) (inForce n (R.AU_ECMIC h))
  (withAu n (fun a => { a with cancellers := now }), b)

/-- One pass of canceller h (R249, R250): its output, ERLE and DT are free values, since the spec gives the filter no
algorithm; CONV, DIVERGE and the clearing follow from them. -/
def runCanceller (old : Sparse Canceller) (n : Node) (h : Nat) : Node :=
  let a := R.AU_ECSTAT h
  if ff n (R.AU_ECCFG h) F.AU_ECCFG_EN = 0 then wr (setCanceller n h { shape := (canceller n h).shape }) a 0#32
  else
    let (n, mic) := ecMic n old h
    let (n, o48) := freeSamples 6 n
    let (n, o16) := freeSamples 2 n
    let (v, n) := freshWord n
    let erle := v.toNat % 256
    let x := canceller n h
    let cyc := subMod 48 (cnNow n) 1
    let isLoud := decide (1995262 * power mic.samples < 1000000 * power o16)
    let x := { x with loud := if isLoud then x.loud + 1 else 0, shown := x.shown - 1 }
    let x := { x with out48 := { st := .valid, samples := o48, cyc := cyc } }
    let x := { x with out16 := { st := .valid, k16 := true, samples := o16, cyc := cyc } }
    let n := setCanceller n h x
    let n := if 800 ≤ x.loud then ecDiverged n h else n
    let n := sf (sf n a F.AU_ECSTAT_ERLE erle) a F.AU_ECSTAT_DT (v.toNat / 256 % 2)
    let n := sflag n a F.AU_ECSTAT_DIVERGE (decide (0 < (canceller n h).shown))
    sflag n a F.AU_ECSTAT_CONV (decide (30 ≤ erle))

/-- At a boundary: a change of BULK or TAIL clears the filter (R250). -/
def ecReshape (n : Node) : Node :=
  forRange 64 (fun n h =>
    let v := inForce n (R.AU_ECCFG h)
    let shape := fget v F.AU_ECCFG_TAIL * 1024 + fget v F.AU_ECCFG_BULK
    let x := canceller n h
    if x.shape = shape then n else setCanceller n h { x with shape := shape, loud := 0 }) n

/-! ### Players at the pass and the boundary (R252, R253) -/

/-- AU_PLAYSTAT of player j. -/
def playStatus (n : Node) (j : Nat) : BitVec 32 :=
  let p := player n j
  let code := match p.st with
    | .idle => 0 | .waiting => 1 | .playing => 2 | .ended => 3 | .error => 4
  let ann := match p.ann with
    | some (i, _) => i % 256
    | none => 0xFF
  fset (fset (fset 0#32 F.AU_PLAYSTAT_STATE code) F.AU_PLAYSTAT_ANN ann) F.AU_PLAYSTAT_AUTOUSE (b2n p.ann.isSome)

/-- LIBRARY_PLAYER_ADVANCE (R253): after the pass has used this cycle's blocks. -/
def advancePlayers (n : Node) : Node :=
  forRange 16 (fun n j =>
    let p := player n j
    let n := match p.st, p.item with
      | .waiting, some x | .playing, some x =>
        if p.stopping then setPlayer n j { st := if p.ann.isSome then .idle else .ended }
        else if n.au.pNow.2 then n
        else if (playIndex n p x).1 < 0 then n
        else if playEnds n p x then setPlayer n j { p with st := .ended }
        else setPlayer n j { p with st := .playing }
      | _, _ => n
    wr n (R.AU_PLAYSTAT j) (playStatus n j)) n

/-- PLAYER_MANUAL_START (R252): at a boundary. -/
def manualStarts (n : Node) : Node :=
  forRange 16 (fun n j =>
    if !(player n j).go then n
    else
      let cn := rd64 n (R.AU_PLAYCN_LO j) (R.AU_PLAYCN_HI j) % 2 ^ 48
      let n := startPlayer n j (rd n (R.AU_PLAYITEM j)).toNat (if cn = 0 then cnNow n else cn) none
      let n := sf n (R.AU_PLAYCTL j) F.AU_PLAYCTL_GO 0
      wr n (R.AU_PLAYSTAT j) (playStatus n j)) n

/-- A write of AU_PLAYCTL[j]: GO starts at the next boundary, STOP ends after one faded block. -/
def playCtlWrite (n : Node) (j : Nat) (v : BitVec 32) : Node :=
  let go := fget v F.AU_PLAYCTL_GO == 1
  let n := sf n (R.AU_PLAYCTL j) F.AU_PLAYCTL_AUTO (fget v F.AU_PLAYCTL_AUTO)
  let n := if go then setPlayer (sf n (R.AU_PLAYCTL j) F.AU_PLAYCTL_GO 1) j { player n j with go := true } else n
  let p := player n j
  if fget v F.AU_PLAYCTL_STOP = 1 && (p.st == .playing || p.st == .waiting) then setPlayer n j { p with stopping := true } else n

/-- PLAYER_GO. -/
def execPlayerGo (j : Fin 16) (s : State) : Host.Outcome State Fault Refusal :=
  onNode s (fun n => if audioOn n then playCtlWrite n j.val (fset (fset 0#32 F.AU_PLAYCTL_AUTO (gf n (R.AU_PLAYCTL j.val) F.AU_PLAYCTL_AUTO)) F.AU_PLAYCTL_GO 1) else n)

/-- PLAYER_STOP. -/
def execPlayerStop (j : Fin 16) (s : State) : Host.Outcome State Fault Refusal :=
  onNode s (fun n => if audioOn n then playCtlWrite n j.val (fset (fset 0#32 F.AU_PLAYCTL_AUTO (gf n (R.AU_PLAYCTL j.val) F.AU_PLAYCTL_AUTO)) F.AU_PLAYCTL_STOP 1) else n)

/-! ### The library (R251) -/

/-- A write of AU_LIBCMD: a SCAN while BUSY has no effect. -/
def libCmdWrite (n : Node) (v : BitVec 32) : Node :=
  if fget v F.AU_LIBCMD_SCAN = 0 || gf n R.AU_LIBSTAT F.AU_LIBSTAT_BUSY = 1 then n
  else
    let n := sf (sf n R.AU_LIBSTAT F.AU_LIBSTAT_BUSY 1) R.AU_STAT F.AU_STAT_LIBBUSY 1
    let base := gf n R.AU_LIBBASE F.AU_LIBBASE_UNITS * 65536
    let size := min (gf n R.AU_LIBSIZE F.AU_LIBSIZE_UNITS) 16384 * 65536
    withAu n (fun a => { a with scan := some (base, size), scanned := none })

/-- LIBRARY_SCAN. -/
def execLibraryScan (s : State) : Host.Outcome State Fault Refusal :=
  onNode s (fun n => if audioOn n then libCmdWrite n 1#32 else n)

/-- Directory entry i of a library at `base` (Table AU-6). -/
def libEntry (n : Node) (base i : Nat) : List Byte := dramRead n (base + 32 + 32 * i) 32

/-- The item an entry names. -/
def libItem (base : Nat) (e : List Byte) : LibItem :=
  { id := le e 0 4, addr := base + le e 4 4, nsamp := le e 8 4, words := le e 12 1 == 1
    k16 := bitOf (le e 13 1) 0, loop := bitOf (le e 13 1) 1, gain := signed 16 (le e 14 2) * 65536 }

/-- Bytes of an item's samples. -/
def LibItem.bytes (x : LibItem) : Nat := x.nsamp * (if x.words then 4 else 2)

/-- Is an entry valid (R251)?  `ids` are the ITEMIDs of all entries. -/
def libValid (n : Node) (base size : Nat) (ids : List Nat) (e : List Byte) : Bool :=
  let x := libItem base e
  x.id != 0 && (ids.filter (· == x.id)).length == 1 && decide (le e 12 1 ≤ 1) && decide (1 ≤ x.nsamp)
    && decide (le e 4 4 + x.bytes ≤ size) && (crc32c (dramRead n x.addr x.bytes)).toNat == le e 16 4

/-- The scan ends: valid entries wait for the boundary. -/
def scanLibrary (n : Node) : Node :=
  match n.au.scan with
  | none => n
  | some (base, size) =>
    let es := (List.range (min (leVal (dramRead n base 4)) 4096)).map (libEntry n base)
    let ids := es.map (fun e => le e 0 4)
    let good := es.filter (libValid n base size ids)
    withAu n (fun a => { a with scan := none, scanned := some (good.map (libItem base), es.length - good.length) })

/-- LIBRARY_SCAN_COMPLETE. -/
def execLibraryScanComplete (s : State) : Host.Outcome State Fault Refusal :=
  onNode s (fun n => if audioOn n then scanLibrary n else n)

/-- LIBRARY_DIRECTORY_REPLACE (R251): at the boundary after the scan. -/
def replaceLibrary (n : Node) : Node :=
  match n.au.scanned with
  | none => n
  | some (l, bad) =>
    let n := withAu n (fun a => { a with lib := l, scanned := none })
    let n := wr n R.AU_LIBSTAT (fset (fset 0#32 F.AU_LIBSTAT_VALID l.length) F.AU_LIBSTAT_BAD bad)
    let n := countBy (sf n R.AU_STAT F.AU_STAT_LIBBUSY 0) (R.AU_CNT 6) bad
    let n := if bad = 0 then n else auEvt n F.AU_EVT_LIBERR
    raise n .a 7 0 R.AU_EVT F.AU_EVT_LIBDONE

/-! ### Lane transmission and output units (R236, R237) -/

/-- Is presentation muted for joining or for a merge (R257)? -/
def muteBits (n : Node) : Nat := gf n R.AU_STAT F.AU_STAT_PMUTE % 4

/-- LANE_TRANSMIT of entry i (R237). -/
def transmitLane (n : Node) (i : Nat) : Node :=
  let v := inForce n (R.AU_LANETX i)
  if fget v F.AU_LANETX_EN = 0 || muteBits n != 0 || n.cf.loading.isSome then n
  else
    let a := takeLane n (fget v F.AU_LANETX_LANE)
    let sel := inForce n (R.AU_LANETXSRC i)
    if !laneInRange (lineMode n) (laneSlot a) (laneNum a) then n
    else if lane16 n a then
      let (n, b) := source16 n sel
      let k := fget v F.AU_LANETX_STREAM
      if k < 3 then contributeChecked n a (zeroSamples (2 * k) ++ b.samples ++ zeroSamples (4 - 2 * k)) else n
    else
      let (n, b, _) := source48 n sel
      contributeChecked n a b.samples

/-- Fill output unit u for presentation cycle c + 2 (R231, R236). -/
def fillOutput (n : Node) (u : Nat) : Node × AuBlock :=
  let prev := look {} n.au.outPrev u
  let (n, raw) := if n.cf.loading.isSome then (n, ({ st := .concealed } : AuBlock))
    else if hwFilled n u then (let (n, b, _) := source48 n (inForce n (R.AU_OUTSRC u)); (n, { b with st := .valid }))
    else (n, storedBlock n (outOffset u))
  let n := if raw.st = .concealed then auEvt (count n (R.AU_CNT 1)) F.AU_EVT_OUTMISS else n
  let n := withAu n (fun a => { a with outPrev := put {} a.outPrev u raw })
  (n, conceal prev raw)

/-- Is an output unit's channel in use: an enabled TDM slot, an enabled analogue output, an enabled canceller (R254, R256)? -/
def outUsed (n : Node) (u : Nat) : Bool :=
  if u < 128 then
    let v := inForce n (R.AU_TDMCFG (u / 16))
    fget v F.AU_TDMCFG_EN == 1 && decide (u % 16 < 2 ^ min (fget v F.AU_TDMCFG_SLOTS) 4)
  else if u < 136 then ff n (R.AU_ANACFG (u - 128 + 8)) F.AU_ANACFG_EN == 1
  else ff n (R.AU_ECCFG (u - 136)) F.AU_ECCFG_EN == 1

/-- Fill every output unit of presentation cycle c + 2. -/
def fillOutputs (n : Node) : Node :=
  let st := (List.range 200).foldl (fun (st : Node × Sparse AuBlock) u =>
    if !outUsed n u then st
    else let (n, b) := fillOutput st.1 u; (n, put {} st.2 u b)) (n, [])
  withAu st.1 (fun a => { a with outs := ((cnWrap (cnNow n + 2), st.2) :: a.outs).take 4 })

/-- Program units become the previous blocks of their streams. -/
def keepProgram (n : Node) : Node :=
  forRange 256 (fun n k => withAu n (fun a => { a with progPrev := put {} a.progPrev k (storedBlock n (0x4000 + 32 * k)) })) n

/-- Received lanes and input units that are concealed in this pass are counted (R231). -/
def countConcealed (n : Node) : Node :=
  let n := n.au.rx.foldl (fun n a => countConceal n (laneArrived n n.au.pNow a)) n
  forRange 136 (fun n u => countConceal n (look {} n.au.inNow u)) n

/-- The mixer pass (R230).  The zones, lanes, outputs and measurements read the canceller outputs of the pass before
(Table AU-1). -/
def mixerPass (n : Node) : Node :=
  let n := withAu n (fun a => { a with passDone := true })
  let n := countConcealed n
  let n := assignPlayers n
  let n := forRange 16 mixZone n
  let n := forRange 64 transmitLane n
  let n := fillOutputs n
  let n := forRange 16 measureZone n
  let n := forRange 64 (runCanceller n.au.cancellers) n
  keepProgram (advancePlayers n)

/-- MIXER_PASS (R230): once in each cycle. -/
def execMixerPass (s : State) : Host.Outcome State Fault Refusal :=
  onNode s (fun n => if audioOn n && !n.au.passDone then mixerPass n else n)

/-! ### TDM and converters (R254 to R257) -/

/-- Phase in force of TB_TRIGPH[t]; a value of 125,000 or above acts as 0. -/
def frameTrig (n : Node) (t : Nat) : Nat := let v := ff n (R.TB_TRIGPH t) F.TB_TRIGPH_PHASE; if 125000 ≤ v then 0 else v

/-- Does frame k of TB_TRIGPH[t] start after the next boundary, at phase + k x 20,833 1/3 ns (R135, R151)?  Such a frame
belongs to the cycle before the one that runs (R254). -/
def frameLate (n : Node) (t k : Nat) : Bool := decide (375000 ≤ 3 * frameTrig n t + 62500 * k)

/-- Fade factor of sample k of this cycle or, with `late`, of the one before, in ninety-sixths (R257). -/
def fadeFactor (n : Node) (late : Bool) (k : Nat) : Int :=
  let a := if late then (n.au.fadeLast : Int) else n.au.fade
  let b := if late then (n.au.fade : Int) else n.au.fadeEnd
  6 * a + (b - a) * ((k : Int) + 1)

/-- Sample k of output unit u in the cycle that runs or, with `late`, in the one before, muted by R257. -/
def outSample (n : Node) (late : Bool) (u k : Nat) : Int :=
  let c := if late then subMod 48 (cnNow n) 1 else cnNow n
  match n.au.outs.find? (fun o => o.1 == c) with
  | none => 0
  | some o => roundDiv (((look {} o.2 u).samples.getD k 0#32).toInt * fadeFactor n late k) 96

/-- A sample at a 24-bit output (R255): the code, and whether it saturated. -/
def out24 (x : Int) : Int × Bool := (saturate 24 x, saturate 24 x != x)

/-- A sample at a 16-bit slot (R255): rounded to nearest and saturated; the spec does not say how a tie rounds. -/
def out16 (x : Int) : Int × Bool :=
  let q := x / 256
  let r := x % 256
  let y := if r < 128 then q else if 128 < r then q + 1 else roundDiv x 256
  (saturate 16 y, saturate 16 y != y)

/-- The data word of a TDM slot (R255): left-aligned 24-bit data in a 32-bit slot, or 16-bit data. -/
def tdmWord (cfg : BitVec 32) (x : Int) : BitVec 32 × Bool :=
  let wide := fget cfg F.AU_TDMCFG_SLOTW == 1
  if wide && fget cfg F.AU_TDMCFG_DATW == 0 then let (y, c) := out24 x; (BitVec.ofInt 32 (y * 256), c)
  else
    let (y, c) := out16 x
    (if wide then BitVec.ofInt 32 (y * 65536) else BitVec.ofNat 32 (unsigned 16 y), c)

/-- Count the samples that saturated at an output (R255). -/
def countClips (n : Node) (k : Nat) : Node := if k = 0 then n else auEvt (countBy n (R.AU_CNT 2) k) F.AU_EVT_CLIPOUT

/-- Capture one input sample of unit u into the block of this cycle or, with `late`, of the one before (R254). -/
def captureSample (n : Node) (late : Bool) (u : Nat) (x : BitVec 32) : Node :=
  if !late then withAu n (fun a => { a with capture := put [] a.capture u (look [] a.capture u ++ [x]) })
  else
    let l := look [] n.au.captureLast u ++ [x]
    let n := withAu n (fun a => { a with captureLast := put [] a.captureLast u l })
    if l.length = 6 then
      withAu n (fun a => { a with inNow := put {} a.inNow u { st := .valid, samples := l, cyc := subMod 48 (cnNow n) 1 } })
    else n

/-- An input word of a TDM slot in Q8.24 (R255). -/
def tdmInput (cfg : BitVec 32) (w : BitVec 32) : BitVec 32 :=
  if fget cfg F.AU_TDMCFG_SLOTW = 0 || fget cfg F.AU_TDMCFG_DATW = 1 then BitVec.ofInt 32 (signed 16 w.toNat * 256)
  else BitVec.ofInt 32 (signed 24 w.toNat)

/-- Frame k of TDM port p (R254, R255). -/
def tdmFrame (n : Node) (p k : Nat) (inputs : List (BitVec 32)) : Node :=
  let cfg := inForce n (R.AU_TDMCFG p)
  if fget cfg F.AU_TDMCFG_EN = 0 then n
  else
    let slots := 2 ^ min (fget cfg F.AU_TDMCFG_SLOTS) 4
    let ws := (List.range slots).map (fun s => tdmWord cfg (outSample n (frameLate n p k) (16 * p + s) k))
    let n := countClips n (ws.filter (·.2)).length
    let n := emit n (.tdm p (ws.map (·.1)))
    let late := frameLate n p k
    forRange slots (fun n s => captureSample n late (16 * p + s) (tdmInput cfg (inputs.getD s 0#32))) n

/-- TDM_FRAME_START (R254): the words on the data input are the command's, low bits of the data width. -/
def execTdmFrameStart (port : Fin 8) (frame : Fin 6) (inputs : List (BitVec 32)) (s : State) : Host.Outcome State Fault Refusal :=
  onNode s (fun n => if audioOn n then tdmFrame n port.val frame.val inputs else n)

/-- Analogue frames (R256): outputs leave their samples, inputs are captured.  The samples are those of the
converters, after the gain and the filter of AU_ANACFG. -/
def analogFrame (n : Node) (k : Nat) (outputs : Bool) (inputs : List (BitVec 32)) : Node :=
  if outputs then
    let st := (List.range 8).foldl (fun (st : Node × Nat) i =>
      let on := ff st.1 (R.AU_ANACFG (8 + i)) F.AU_ANACFG_EN == 1
      let (y, c) := if on then out24 (outSample st.1 (frameLate n 9 k) (128 + i) k) else (0, false)
      (emit st.1 (.analog i (BitVec.ofInt 32 y)), st.2 + b2n c)) (n, 0)
    countClips st.1 st.2
  else
    let late := frameLate n 8 k
    forRange 8 (fun n i =>
      if ff n (R.AU_ANACFG i) F.AU_ANACFG_EN = 0 then n
      else captureSample n late (128 + i) (BitVec.ofInt 32 (signed 24 (inputs.getD i 0#32).toNat))) n

/-- CONVERTER_FRAME_START (R256). -/
def execConverterFrameStart (outputs : Bool) (frame : Fin 6) (inputs : List (BitVec 32)) (s : State) : Host.Outcome State Fault Refusal :=
  onNode s (fun n => if isRun n && !dieFailed n 7 then
    (if audioOn n then analogFrame n frame.val outputs inputs
     else if outputs then forRange 8 (fun n i => emit n (.analog i 0#32)) n else n) else n)

/-! ### At a boundary -/

/-- The blocks captured in the cycle that ended become the input blocks of the cycle that begins (Table AU-1); a block
some of whose frames are still to come is complete with the last of them.  Frames that a step interrupts are discarded
(R152). -/
def takeCapture (n : Node) (stepped : Bool) : Node :=
  let cyc := subMod 48 (cnNow n) 1
  let whole := fun (e : Nat × List (BitVec 32)) => e.2.length == 6 && !stepped
  let now := n.au.capture.filterMap (fun e => if whole e then some (e.1, ({ st := .valid, samples := e.2, cyc := cyc } : AuBlock)) else none)
  let part := n.au.capture.filter (fun e => !whole e && !stepped)
  withAu n (fun a => { a with inPrev := a.inNow, inNow := now, capture := [], captureLast := part })

/-- What the pass of the new cycle presents (R228, R258): D grows from `dOld`. -/
def takePresentation (n : Node) (dOld : Nat) (running : Bool) : Node :=
  let d := delayNow n
  let p := subMod 48 (cnNow n + 2) d
  let grows := running && decide (dOld < d) && decide (0 < dOld)
  let n := if grows then raise (withAu n (fun a => { a with repeatTo := some a.pNow.1 })) .a 7 0 R.AU_EVT F.AU_EVT_DREPEAT else n
  let silent := match n.au.repeatTo with
    | some q => decide (cnDiff p q ≤ 0)
    | none => false
  let n := if silent then n else withAu n (fun a => { a with repeatTo := none })
  let n := withAu n (fun a => { a with pPrev := a.pNow, pNow := (p, silent) })
  sf n R.AU_STAT F.AU_STAT_PMUTE (gf n R.AU_STAT F.AU_STAT_PMUTE % 4 + 4 * b2n silent)

/-- PRESENTATION_MUTE (R257): JOIN silences at once and fades in over 16 cycles; a merge fades out over the 16 cycles
before its commit cycle. -/
def presentationMute (n : Node) (joining : Bool) (yieldAt : Option Nat) : Node :=
  let near := match yieldAt with
    | some c => decide (cnDiff c (cnNow n) ≤ 16)
    | none => false
  let was := muteBits n
  let bits := b2n joining + 2 * b2n near
  let start := n.au.fadeEnd
  let a := if joining then 0 else start
  let b := if joining then 0 else if near then start - 1 else min 16 (start + 1)
  let n := withAu n (fun x => { x with fade := a, fadeEnd := b, fadeLast := x.fade })
  let n := sf n R.AU_STAT F.AU_STAT_PMUTE (bits + gf n R.AU_STAT F.AU_STAT_PMUTE / 4 * 4)
  if was = 0 && bits != 0 then raise n .a 7 0 R.AU_EVT F.AU_EVT_MUTE
  else if was != 0 && bits = 0 then raise n .a 7 0 R.AU_EVT F.AU_EVT_UNMUTE else n

/-- The audio plane at a boundary (Tables AC-4, AU-1). -/
def audioBoundary (n : Node) (dOld : Nat) (joining stepped : Bool) (yieldAt : Option Nat) : Node :=
  let n := takeCapture n stepped
  let n := presentationMute n joining yieldAt
  let n := takePresentation n dOld (!joining)
  let n := updateRxLanes n
  let n := bindZones n
  let n := ecReshape n
  let n := replaceLibrary n
  let n := manualStarts n
  let n := withAu n (fun a => { a with passDone := false })
  { n with mil := { n.mil with unitWriter := [] } }

end Sys2Proof.Machine
end

