-- ==== Sys2Proof/Machine/Caddy.lean ====
section
/-! DEFINITION. The journal, the key area and the safety parameter copies of the caddy (spec/10_configuration.md
R280 to R282; spec/12_security.md R327, R330). -/

namespace Sys2Proof.Machine

/-- Change the configuration state. -/
def withCf (n : Node) (f : CfState → CfState) : Node := { n with cf := f n.cf }
/-- Change the session state. -/
def withSe (n : Node) (f : SeState → SeState) : Node := { n with se := f n.se }

/-- Is `a` later than `b` in 32-bit serial arithmetic? -/
def serialLater (a b : BitVec 32) : Bool := decide (0 < (a - b).toInt)

/-! ### The journal -/

/-- Is the record in J1 the valid one (R280)? -/
def journalInB (n : Node) : Bool :=
  match n.cf.j0, n.cf.j1 with
  | some a, some b => serialLater b.jseq a.jseq
  | none, some _ => true
  | _, _ => false

/-- The valid journal record; where neither position holds one, both slots EMPTY (R282). -/
def journal (n : Node) : Journal := (if journalInB n then n.cf.j1 else n.cf.j0).getD {}

/-- State of a slot. -/
def Journal.slot (j : Journal) (k : Fin 2) : SlotState := if k = 0 then j.st0 else j.st1
/-- Set the state of a slot. -/
def Journal.setSlot (j : Journal) (k : Fin 2) (x : SlotState) : Journal := if k = 0 then { j with st0 := x } else { j with st1 := x }
/-- VERSION of a slot. -/
def Journal.ver (j : Journal) (k : Fin 2) : BitVec 32 := if k = 0 then j.ver0 else j.ver1
/-- Set the VERSION of a slot. -/
def Journal.setVer (j : Journal) (k : Fin 2) (v : BitVec 32) : Journal := if k = 0 then { j with ver0 := v } else { j with ver1 := v }
/-- The previous slot. -/
def Journal.prev (j : Journal) : Fin 2 := 1 - j.cur

/-- Code of a slot state (Table CF-3). -/
def SlotState.code : SlotState → Nat
  | .empty => 0 | .staging => 1 | .staged => 2 | .valid => 3 | .invalid => 4

/-- Show the journal in CF_STAT, CF_CURVER, CF_PREVVER, CF_JSEQ and CF_SPCUR. -/
def showJournal (n : Node) : Node :=
  let j := journal n
  let n := sf n R.CF_STAT F.CF_STAT_CURSLOT j.cur.val
  let n := sf n R.CF_STAT F.CF_STAT_CURSTATE (j.slot j.cur).code
  let n := sf n R.CF_STAT F.CF_STAT_PREVSTATE (j.slot j.prev).code
  let n := sflag n R.CF_STAT F.CF_STAT_SPVALID j.spValid
  let n := sflag n R.CF_STAT F.CF_STAT_FALLBACK j.fallback
  let n := wr n R.CF_CURVER (j.ver j.cur)
  let n := wr n R.CF_PREVVER (j.ver j.prev)
  wr (wr n R.CF_JSEQ j.jseq) R.CF_SPCUR (if j.spValid then j.spChk else 0#32)

/-- JOURNAL_WRITE_FAIL (R280): three read-backs differed. -/
def journalFail (n : Node) : Node :=
  otherEvent (withCf n (fun c => { c with nvBad := true })) .g 9 0 R.CF_STAT

/-- Write a journal record to the position not holding the valid one (R280, R281).  `bad`: its read-back differs
three times.  The truth value says whether the change is made. -/
def writeJournal (n : Node) (j : Journal) (bad : Bool) : Node × Bool :=
  if bad then (journalFail n, false)
  else
    let old := if journalInB n then n.cf.j1 else n.cf.j0
    let j := { j with jseq := match old with
      | some o => o.jseq + 1#32
      | none => 1#32 }
    let n := if journalInB n || n.cf.j0.isNone then withCf n (fun c => { c with j0 := some j })
      else withCf n (fun c => { c with j1 := some j })
    (showJournal n, true)

/-- Bytes of a blend slot. -/
def slotBytes (n : Node) (k : Fin 2) : List Byte := if k = 0 then n.cf.slot0 else n.cf.slot1
/-- Set them. -/
def setSlotBytes (n : Node) (k : Fin 2) (bs : List Byte) : Node :=
  withCf n (fun c => if k = 0 then { c with slot0 := bs } else { c with slot1 := bs })

/-- The safety parameter copy in force. -/
def spBytes (n : Node) : List Byte := if (journal n).spSelB then n.cf.spb else n.cf.spa

/-! ### The key area -/

/-- Is copy KB the valid copy (R330)? -/
def keyInB (n : Node) : Bool :=
  match n.cf.ka, n.cf.kb with
  | some a, some b => serialLater b.kseq a.kseq
  | none, some _ => true
  | _, _ => false

/-- The valid copy of the key area; a part without one has no key. -/
def keyArea (n : Node) : KeyArea := (if keyInB n then n.cf.kb else n.cf.ka).getD {}

/-- The key in slot KID; none when absent. -/
def keyOf (n : Node) (kid : Nat) : Option (List Byte) :=
  let k := look {} (keyArea n).keys kid
  if k.key.isEmpty then none else some k.key

/-- Write the key area to the copy that is not valid (R330). -/
def writeKeys (n : Node) (k : KeyArea) : Node :=
  let has := n.cf.ka.isSome || n.cf.kb.isSome
  let k := { k with kseq := if has then (keyArea n).kseq + 1#32 else 1#32 }
  if keyInB n || n.cf.ka.isNone then withCf n (fun c => { c with ka := some k })
  else withCf n (fun c => { c with kb := some k })

/-- Lock-out state of interface i. -/
def lockOf (n : Node) (i : Nat) : LockOut := look {} (keyArea n).locks i
/-- Set it (R337). -/
def setLock (n : Node) (i : Nat) (x : LockOut) : Node :=
  let k := keyArea n
  writeKeys n { k with locks := put {} k.locks i x }

/-- Bit of SE_STAT.PRESENT for a KID. -/
def presentBits : List (Nat × Nat) := [(1, 1), (2, 2), (3, 3), (4, 4), (8, 8), (9, 9), (16, 10), (17, 11), (18, 12), (19, 13)]

/-- SE_STAT. -/
def seStatus (n : Node) : BitVec 32 :=
  let present := presentBits.foldl (fun v e => v + (if (keyOf n e.1).isSome then 2 ^ e.2 else 0)) 0
  let v := fset (fset 0#32 F.SE_STAT_PRESENT present) F.SE_STAT_VALIDB (b2n (keyInB n))
  let v := fset (fset v F.SE_STAT_PROVISIONED (b2n (keyArea n).provisioned)) F.SE_STAT_RETIRED (b2n (keyArea n).retired)
  fset (fset v F.SE_STAT_NOTK (b2n (keyOf n 9).isNone)) F.SE_STAT_SESS n.se.sessions.length

/-- SE_LOCK[i]. -/
def seLock (n : Node) (i : Nat) : BitVec 32 :=
  let x := lockOf n i
  fset (fset (fset 0#32 F.SE_LOCK_REMAIN (min x.remain 0xFFFF)) F.SE_LOCK_LEVEL x.level) F.SE_LOCK_FAILS x.fails

/-- SE_KEYVER[k]. -/
def seKeyver (n : Node) (k : Nat) : BitVec 32 := if (keyOf n k).isSome then (look {} (keyArea n).keys k).kver else 0#32

end Sys2Proof.Machine
end

