-- ==== Sys2Proof/Machine/MilnakCore.lean ====
section
/-! DEFINITION. How an engine executes one instruction: cost, bound, traps, loops (R192, R200, R209, R211, R219 to R221). -/

namespace Sys2Proof.Machine

/-- PROGID of an engine's current run. -/
def runProg (n : Node) (e : Nat) : Nat := (engine n e).prog

/-- Header of an engine's current program. -/
def runHdr (n : Node) (e : Nat) : Header := (prog n (runProg n e)).hdr

/-- Is an engine executing a run? -/
def executing (x : Engine) : Bool :=
  decide (x.st = .running) || decide (x.st = .selftest) || decide (x.st = .shadow)

/-- What an engine does between runs: outside RUN a C-engine is halted and a V-engine off (R226); HALT keeps it halted
(MK_ENGCFG). -/
def restState (n : Node) (e : Nat) : EngState :=
  if !isRun n then (if isV e then .off else .halted)
  else if ff n (R.MK_ENGCFG e) F.MK_ENGCFG_HALT = 1 then .halted else .idle

/-- No run starts: the supply has failed (R418), a blend is being loaded (Table CF-9), the node waits for the boundary of
a take-over or for its shadow run (R185, R187), or it has read MATCH (R187). -/
def pausedNow (n : Node) : Bool :=
  n.pw.failing.isSome || n.cf.loading.isSome || n.du.takeoverCn.isSome || (n.du.shadow.isSome && n.mil.shadowCn.isNone)
    || n.du.yieldCn.elim false (fun c => decide (-1 ≤ cnDiff (cnNow n) c))

/-- The engine after its run: clocks added to the cycle's total and to the high-water mark. -/
def endRun (n : Node) (e : Nat) : Node :=
  let x := engine n e
  let busy := x.cycleClk + x.clk
  let a := R.MK_ENGHWM e
  let n := if gf n a F.MK_ENGHWM_BUSY < busy then sf n a F.MK_ENGHWM_BUSY (min busy 0xFFFFFF) else n
  setEngine n e { x with st := restState n e, stores := [], louts := [], units := [], loops := [], cycleClk := busy, clk := 0 }

/-- The result of a self-test run (R227): a pass, or a failure with its cause (0xF signature mismatch). -/
def selftestResult (n : Node) (e : Nat) (pass : Bool) (cause : Nat) : Node :=
  let n := sf n R.MK_STSTAT F.MK_STSTAT_ENG e
  let n := sf n R.MK_STSTAT F.MK_STSTAT_RESULT (if pass then 1 else 2)
  let n := sf n R.MK_STSTAT F.MK_STSTAT_CAUSE (if pass then 0 else cause)
  let n := sf n R.MK_STCTL F.MK_STCTL_GO 0
  let n := { n with mil := { n.mil with selftest := none } }
  if pass then count (sf n R.MK_EVT F.MK_EVT_STPASS 1) (R.MK_CNT 6)
  else
    let n := count (sf n R.MK_EVT F.MK_EVT_STFAIL 1) (R.MK_CNT 7)
    if isStandby n then sf n R.DU_HEALTH F.DU_HEALTH_MKFAIL 1 else n

/-- Capture the first trap in the MK_TRAP registers (R220). -/
def captureTrap (n : Node) (k cause pc addr : Nat) (cn : CN) : Node :=
  if gf n R.MK_TRAP_INFO F.MK_TRAP_INFO_VALID = 1 then n
  else
    let n := sf n R.MK_TRAP_INFO F.MK_TRAP_INFO_VALID 1
    let n := sf n R.MK_TRAP_INFO F.MK_TRAP_INFO_CAUSE cause
    let n := sf n R.MK_TRAP_INFO F.MK_TRAP_INFO_PROG k
    let n := wr n R.MK_TRAP_PC (BitVec.ofNat 32 (4 * pc % 65536))
    let n := wr n R.MK_TRAP_ADDR (BitVec.ofNat 32 addr)
    wr n R.MK_TRAP_CN (BitVec.ofNat 32 cn.toNat)

/-- The program after a trap (R221): the count of consecutive traps, FAULT at TRAPLIM, no context to restore. -/
def progAfterTrap (p : Prog) (cause : Nat) : Prog :=
  let lim := if p.hdr.traplim = 0 then 8 else p.hdr.traplim
  let t := min (p.traps + 1) 255
  { p with traps := t, lastCause := cause, hasContext := false, fault := p.fault || decide (lim ≤ t) }

/-- TRAP: stop the run at the trapping instruction (R219, R220, R221).  Buffered register-window stores and lane
contributions are discarded, and the output units the run stored into count as missing (R207). -/
def trap (n : Node) (e cause addr : Nat) : Node :=
  let x := engine n e
  let k := runProg n e
  let n := count n (R.MK_CNT 1)
  let n := if cause = 6 then sf (count n (R.MK_CNT 2)) R.MK_EVT F.MK_EVT_OVERRUN 1 else n
  let n := captureTrap n k cause x.pc addr x.runCn
  let n := sf n R.MK_EVT F.MK_EVT_TRAP 1
  let n := record n (classOfLclass (prog n k).hdr.lclass) (evCode 6 0) (progSource k)
    (leBytes 4 (R.MK_EVT % 0x100000) ++ leBytes 4 cause ++ leBytes 4 (4 * x.pc))
  let n := { n with mil := { n.mil with
    unitWriter := x.units.foldl (fun m u => put (512, false) m u (k, true)) n.mil.unitWriter } }
  let p := prog n k
  let p' := progAfterTrap p cause
  let n := setProg n k p'
  let n := if p'.fault && !p.fault then sf n R.MK_EVT F.MK_EVT_FAULT 1 else n
  let n := if decide (x.st = .selftest) then selftestResult n e false cause else n
  let n := endRun n e
  fireUnstated n 4 k

/-- What one instruction does when it does not trap: the node and engine after it, and a jump target if it jumps. -/
inductive Effect where
  | done (n : Node) (x : Engine)
  | jump (n : Node) (x : Engine) (target : Nat)
  | trap (cause addr : Nat)

/-- Where execution continues: at the end of the innermost loop body the body runs again while iterations are left (R200). -/
def settle : List LoopFrame → Nat → List LoopFrame × Nat
  | [], pc => ([], pc)
  | f :: fs, pc =>
    if pc = f.stop then
      if f.left > 1 then ({ f with left := f.left - 1 } :: fs, f.start) else settle fs pc
    else (f :: fs, pc)

/-- Move an engine on to `pc`, closing loop bodies that end there. -/
def goTo (x : Engine) (pc : Nat) : Engine :=
  let r := settle x.loops pc
  { x with loops := r.1, pc := r.2 }

/-- Execute one instruction on engine e (R209, R211, R219).  `vec` marks the instructions a C-engine does not have
(R203).  When two causes arise the lower code is reported: ILLEGAL to LOOPBOUND come before OVERRUN, and OVERRUN
before MEMERR.  An engine that runs nothing executes nothing. -/
def issue (i : Issue) (vec : Bool) (cost : Nat) (f : Node → Engine → Effect) (n : Node) : Node :=
  let e := i.engine.val
  let x := engine n e
  if !executing x then n
  else if vec && !isV e then trap n e 1 0
  else
    let excess := decide (x.clk + cost > (runHdr n e).bound)
    let r := f n { x with clk := x.clk + cost }
    match r with
    | .trap c a =>
      if c < 6 then trap n e c a
      else if excess then trap n e 6 0
      else if i.memErr then trap n e 7 0
      else trap n e c a
    | .done n' x' =>
      if excess then trap n e 6 0 else if i.memErr then trap n e 7 0
      else setEngine n' e (goTo x' (x.pc + 1))
    | .jump n' x' t =>
      if excess then trap n e 6 0 else if i.memErr then trap n e 7 0
      else setEngine n' e (goTo x' t)

/-- Clocks that differ by engine kind (Table MK-11). -/
def clocks (i : Issue) (c v : Nat) : Nat := if isV i.engine.val then v else c

/-- A register result: rd = v. -/
def result (n : Node) (x : Engine) (rd : GReg) (v : BitVec 32) : Effect := .done n (setG x rd.val v)

/-- Is the current run a shadow run (R225)? -/
def inShadow (x : Engine) : Bool := decide (x.st = .shadow)

/-- Fold bytes into the digest of a shadow run (R225). -/
def foldDigest (n : Node) (bs : List Byte) : Node :=
  { n with mil := { n.mil with shadowBytes := n.mil.shadowBytes ++ bs } }

end Sys2Proof.Machine
end

