-- ==== Sys2Proof/Machine/MilnakAlu.lean ====
section
/-! DEFINITION. The scalar arithmetic, immediate, branch and loop instructions (R198, R200, Table MK-6). -/

namespace Sys2Proof.Machine

/-- A T-format instruction: rd = f rs rt. -/
def aluT (i : Issue) (rd rs rt : GReg) (cost : Nat) (f : BitVec 32 → BitVec 32 → BitVec 32) (n : Node) : Node :=
  issue i false cost (fun n x => result n x rd (f (gReg x rs.val) (gReg x rt.val))) n

/-- An I-format instruction: rd = f rs. -/
def aluI (i : Issue) (rd rs : GReg) (f : BitVec 32 → BitVec 32) (n : Node) : Node :=
  issue i false 1 (fun n x => result n x rd (f (gReg x rs.val))) n

/-- ADD: rd = rs + rt, wrapping (R198). -/
def execMkAdd (i : Issue) (rd rs rt : GReg) (s : State) : Host.Outcome State Fault Refusal :=
  onNode s (aluT i rd rs rt 1 (fun a b => a + b))
/-- SUB: rd = rs - rt, wrapping (R198). -/
def execMkSub (i : Issue) (rd rs rt : GReg) (s : State) : Host.Outcome State Fault Refusal :=
  onNode s (aluT i rd rs rt 1 (fun a b => a - b))
/-- AND (R198). -/
def execMkAnd (i : Issue) (rd rs rt : GReg) (s : State) : Host.Outcome State Fault Refusal :=
  onNode s (aluT i rd rs rt 1 (fun a b => a &&& b))
/-- OR (R198). -/
def execMkOr (i : Issue) (rd rs rt : GReg) (s : State) : Host.Outcome State Fault Refusal :=
  onNode s (aluT i rd rs rt 1 (fun a b => a ||| b))
/-- XOR (R198). -/
def execMkXor (i : Issue) (rd rs rt : GReg) (s : State) : Host.Outcome State Fault Refusal :=
  onNode s (aluT i rd rs rt 1 (fun a b => a ^^^ b))
/-- SLL: shift left by rt bits 4:0 (R198). -/
def execMkSll (i : Issue) (rd rs rt : GReg) (s : State) : Host.Outcome State Fault Refusal :=
  onNode s (aluT i rd rs rt 1 (fun a b => a <<< shamt b))
/-- SRL: logical shift right by rt bits 4:0 (R198). -/
def execMkSrl (i : Issue) (rd rs rt : GReg) (s : State) : Host.Outcome State Fault Refusal :=
  onNode s (aluT i rd rs rt 1 (fun a b => a >>> shamt b))
/-- SRA: arithmetic shift right by rt bits 4:0 (R198). -/
def execMkSra (i : Issue) (rd rs rt : GReg) (s : State) : Host.Outcome State Fault Refusal :=
  onNode s (aluT i rd rs rt 1 (fun a b => a.sshiftRight (shamt b)))
/-- SLT: 1 when rs < rt, signed (R198). -/
def execMkSlt (i : Issue) (rd rs rt : GReg) (s : State) : Host.Outcome State Fault Refusal :=
  onNode s (aluT i rd rs rt 1 (fun a b => boolWord (decide (sval a < sval b))))
/-- SLTU: 1 when rs < rt, unsigned (R198). -/
def execMkSltu (i : Issue) (rd rs rt : GReg) (s : State) : Host.Outcome State Fault Refusal :=
  onNode s (aluT i rd rs rt 1 (fun a b => boolWord (decide (a.toNat < b.toNat))))
/-- MUL: low 32 bits of the product (R198). -/
def execMkMul (i : Issue) (rd rs rt : GReg) (s : State) : Host.Outcome State Fault Refusal :=
  onNode s (aluT i rd rs rt 2 (fun a b => a * b))
/-- MULH: high 32 bits of the signed product (R198). -/
def execMkMulh (i : Issue) (rd rs rt : GReg) (s : State) : Host.Outcome State Fault Refusal :=
  onNode s (aluT i rd rs rt 2 mulHigh)
/-- MULHU: high 32 bits of the unsigned product (R198). -/
def execMkMulhu (i : Issue) (rd rs rt : GReg) (s : State) : Host.Outcome State Fault Refusal :=
  onNode s (aluT i rd rs rt 2 mulHighU)
/-- ADDS: signed saturating sum (R198). -/
def execMkAdds (i : Issue) (rd rs rt : GReg) (s : State) : Host.Outcome State Fault Refusal :=
  onNode s (aluT i rd rs rt 1 addSat)
/-- SUBS: signed saturating difference (R198). -/
def execMkSubs (i : Issue) (rd rs rt : GReg) (s : State) : Host.Outcome State Fault Refusal :=
  onNode s (aluT i rd rs rt 1 subSat)
/-- MIN: signed (R198). -/
def execMkMin (i : Issue) (rd rs rt : GReg) (s : State) : Host.Outcome State Fault Refusal :=
  onNode s (aluT i rd rs rt 1 minS)
/-- MAX: signed (R198). -/
def execMkMax (i : Issue) (rd rs rt : GReg) (s : State) : Host.Outcome State Fault Refusal :=
  onNode s (aluT i rd rs rt 1 maxS)
/-- CLZ: leading zeros of rs, 0 to 32 (R198). -/
def execMkClz (i : Issue) (rd rs : GReg) (s : State) : Host.Outcome State Fault Refusal :=
  onNode s (aluI i rd rs clz)
/-- DIVU: unsigned quotient; by 0 it is 0 and dz is set (R198). -/
def execMkDivu (i : Issue) (rd rs rt : GReg) (s : State) : Host.Outcome State Fault Refusal :=
  onNode s (issue i false 36 (fun n x =>
    let r := divide x (gReg x rs.val) (gReg x rt.val) false
    result n r.1 rd r.2))
/-- REMU: unsigned remainder; by 0 it is 0 and dz is set (R198). -/
def execMkRemu (i : Issue) (rd rs rt : GReg) (s : State) : Host.Outcome State Fault Refusal :=
  onNode s (issue i false 36 (fun n x =>
    let r := divide x (gReg x rs.val) (gReg x rt.val) true
    result n r.1 rd r.2))
/-- SLLI: shift left by the rt field (R198). -/
def execMkSlli (i : Issue) (rd rs : GReg) (sh : Fin 32) (s : State) : Host.Outcome State Fault Refusal :=
  onNode s (aluI i rd rs (fun a => a <<< sh.val))
/-- SRLI: logical shift right by the rt field (R198). -/
def execMkSrli (i : Issue) (rd rs : GReg) (sh : Fin 32) (s : State) : Host.Outcome State Fault Refusal :=
  onNode s (aluI i rd rs (fun a => a >>> sh.val))
/-- SRAI: arithmetic shift right by the rt field (R198). -/
def execMkSrai (i : Issue) (rd rs : GReg) (sh : Fin 32) (s : State) : Host.Outcome State Fault Refusal :=
  onNode s (aluI i rd rs (fun a => a.sshiftRight sh.val))
/-- MULQ: saturating Q8.24 product (R198). -/
def execMkMulq (i : Issue) (rd rs rt : GReg) (s : State) : Host.Outcome State Fault Refusal :=
  onNode s (aluT i rd rs rt 2 mulQ)
/-- ADDI: add a sign-extended immediate (R198). -/
def execMkAddi (i : Issue) (rd rs : GReg) (imm : BitVec 16) (s : State) : Host.Outcome State Fault Refusal :=
  onNode s (aluI i rd rs (fun a => a + sext16 imm))
/-- ANDI: AND with a zero-extended immediate (R198). -/
def execMkAndi (i : Issue) (rd rs : GReg) (imm : BitVec 16) (s : State) : Host.Outcome State Fault Refusal :=
  onNode s (aluI i rd rs (fun a => a &&& zext16 imm))
/-- ORI: OR with a zero-extended immediate (R198). -/
def execMkOri (i : Issue) (rd rs : GReg) (imm : BitVec 16) (s : State) : Host.Outcome State Fault Refusal :=
  onNode s (aluI i rd rs (fun a => a ||| zext16 imm))
/-- XORI: XOR with a zero-extended immediate (R198). -/
def execMkXori (i : Issue) (rd rs : GReg) (imm : BitVec 16) (s : State) : Host.Outcome State Fault Refusal :=
  onNode s (aluI i rd rs (fun a => a ^^^ zext16 imm))
/-- SLTI: 1 when rs < the sign-extended immediate, signed (R198). -/
def execMkSlti (i : Issue) (rd rs : GReg) (imm : BitVec 16) (s : State) : Host.Outcome State Fault Refusal :=
  onNode s (aluI i rd rs (fun a => boolWord (decide (sval a < sval (sext16 imm)))))
/-- SLTIU: 1 when rs < the zero-extended immediate, unsigned (R198). -/
def execMkSltiu (i : Issue) (rd rs : GReg) (imm : BitVec 16) (s : State) : Host.Outcome State Fault Refusal :=
  onNode s (aluI i rd rs (fun a => boolWord (decide (a.toNat < imm.toNat))))
/-- LUI: rd = imm16 << 16 (R198). -/
def execMkLui (i : Issue) (rd : GReg) (imm : BitVec 16) (s : State) : Host.Outcome State Fault Refusal :=
  onNode s (issue i false 1 (fun n x => result n x rd (zext16 imm <<< 16)))

/-- A conditional forward branch (R198): 2 clocks taken, 1 not taken; a negative offset traps with ILLEGAL. -/
def condBranch (i : Issue) (rs rt : GReg) (off : BitVec 16) (test : BitVec 32 → BitVec 32 → Bool) (n : Node) : Node :=
  let x := engine n i.engine.val
  let taken := test (gReg x rs.val) (gReg x rt.val)
  issue i false (if taken then 2 else 1) (fun n x =>
    if off.toInt < 0 then .trap 1 0
    else if taken then .jump n x (x.pc + 1 + off.toNat) else .done n x) n

/-- BEQ: branch if equal (R198). -/
def execMkBeq (i : Issue) (rs rt : GReg) (off : BitVec 16) (s : State) : Host.Outcome State Fault Refusal :=
  onNode s (condBranch i rs rt off (fun a b => decide (a = b)))
/-- BNE: branch if not equal (R198). -/
def execMkBne (i : Issue) (rs rt : GReg) (off : BitVec 16) (s : State) : Host.Outcome State Fault Refusal :=
  onNode s (condBranch i rs rt off (fun a b => decide (a ≠ b)))
/-- BLT: branch if rs < rt, signed (R198). -/
def execMkBlt (i : Issue) (rs rt : GReg) (off : BitVec 16) (s : State) : Host.Outcome State Fault Refusal :=
  onNode s (condBranch i rs rt off (fun a b => decide (sval a < sval b)))
/-- BGE: branch if rs ≥ rt, signed (R198). -/
def execMkBge (i : Issue) (rs rt : GReg) (off : BitVec 16) (s : State) : Host.Outcome State Fault Refusal :=
  onNode s (condBranch i rs rt off (fun a b => decide (sval b ≤ sval a)))
/-- BLTU: branch if rs < rt, unsigned (R198). -/
def execMkBltu (i : Issue) (rs rt : GReg) (off : BitVec 16) (s : State) : Host.Outcome State Fault Refusal :=
  onNode s (condBranch i rs rt off (fun a b => decide (a.toNat < b.toNat)))
/-- BGEU: branch if rs ≥ rt, unsigned (R198). -/
def execMkBgeu (i : Issue) (rs rt : GReg) (off : BitVec 16) (s : State) : Host.Outcome State Fault Refusal :=
  onNode s (condBranch i rs rt off (fun a b => decide (b.toNat ≤ a.toNat)))

/-- The byte address of an instruction. -/
def instrAddr (pc : Nat) : BitVec 32 := BitVec.ofNat 32 (4 * pc)

/-- JAL: rd = address of the next instruction; jump by imm16 instructions, either direction (R198). -/
def execMkJal (i : Issue) (rd : GReg) (imm : BitVec 16) (s : State) : Host.Outcome State Fault Refusal :=
  onNode s (issue i false 2 (fun n x =>
    .jump n (setG x rd.val (instrAddr (x.pc + 1))) (((x.pc : Int) + 1 + imm.toInt).toNat % 16384)))

/-- JALR: rd = address of the next instruction; jump to the address in rs (R198). -/
def execMkJalr (i : Issue) (rd rs : GReg) (s : State) : Host.Outcome State Fault Refusal :=
  onNode s (issue i false 2 (fun n x =>
    .jump n (setG x rd.val (instrAddr (x.pc + 1))) ((gReg x rs.val).toNat / 4 % 16384)))

/-- LOOP: run the next len instructions rc times (R200). -/
def execMkLoop (i : Issue) (rc : GReg) (bound len : Nat) (s : State) : Host.Outcome State Fault Refusal :=
  onNode s (issue i false 2 (fun n x =>
    let c := (gReg x rc.val).toNat
    if c = 0 then .jump n x (x.pc + 1 + len)
    else if c > bound then .trap 5 0
    else if x.loops.length ≥ 4 then .trap 0xA 0
    else .done n { x with loops := ⟨x.pc + 1, x.pc + 1 + len, c⟩ :: x.loops }))

/-- FENCE: wait until all earlier DRAM stores have completed (R201); the model's stores complete at once. -/
def execMkFence (i : Issue) (s : State) : Host.Outcome State Fault Refusal :=
  onNode s (issue i false (clocks i 320 400) (fun n x => .done n x))

/-- BRK: trap with BREAK (R201). -/
def execMkBrk (i : Issue) (s : State) : Host.Outcome State Fault Refusal :=
  onNode s (issue i false 1 (fun _ _ => .trap 8 0))

/-- OVERRUN: a run has used BOUND clocks without reaching END or WAITC (R211). -/
def execMkOverrun (e : Fin 32) (s : State) : Host.Outcome State Fault Refusal :=
  onNode s (fun n =>
    let x := engine n e.val
    if !executing x then n
    else trap (setEngine n e.val { x with clk := max x.clk (runHdr n e.val).bound }) e.val 6 0)

end Sys2Proof.Machine
end

