-- ==== Sys2Proof/Machine/MilnakVector.lean ====
section
/-! DEFINITION. The vector instructions of the V-engines (R203, Table MK-10). -/

namespace Sys2Proof.Machine

/-- A masked lane-by-lane instruction: vd lane k = f va vb. -/
def vecOp (i : Issue) (vd va vb : VReg) (f : BitVec 32 → BitVec 32 → BitVec 32) (n : Node) : Node :=
  issue i true 1 (fun n x => .done n (masked x vd.val (fun k => f (vLane x va.val k) (vLane x vb.val k)))) n

/-- A masked lane-by-lane instruction of one source. -/
def vecOp1 (i : Issue) (vd va : VReg) (f : BitVec 32 → BitVec 32) (n : Node) : Node :=
  issue i true 1 (fun n x => .done n (masked x vd.val (fun k => f (vLane x va.val k)))) n

/-- VADD: wrapping (R203). -/
def execMkVadd (i : Issue) (vd va vb : VReg) (s : State) : Host.Outcome State Fault Refusal :=
  onNode s (vecOp i vd va vb (fun a b => a + b))
/-- VSUB: wrapping (R203). -/
def execMkVsub (i : Issue) (vd va vb : VReg) (s : State) : Host.Outcome State Fault Refusal :=
  onNode s (vecOp i vd va vb (fun a b => a - b))
/-- VADDS: saturating (R203). -/
def execMkVadds (i : Issue) (vd va vb : VReg) (s : State) : Host.Outcome State Fault Refusal :=
  onNode s (vecOp i vd va vb addSat)
/-- VSUBS: saturating (R203). -/
def execMkVsubs (i : Issue) (vd va vb : VReg) (s : State) : Host.Outcome State Fault Refusal :=
  onNode s (vecOp i vd va vb subSat)
/-- VMULQ: saturating Q8.24 product (R203). -/
def execMkVmulq (i : Issue) (vd va vb : VReg) (s : State) : Host.Outcome State Fault Refusal :=
  onNode s (vecOp i vd va vb mulQ)
/-- VMIN: signed (R203). -/
def execMkVmin (i : Issue) (vd va vb : VReg) (s : State) : Host.Outcome State Fault Refusal :=
  onNode s (vecOp i vd va vb minS)
/-- VMAX: signed (R203). -/
def execMkVmax (i : Issue) (vd va vb : VReg) (s : State) : Host.Outcome State Fault Refusal :=
  onNode s (vecOp i vd va vb maxS)
/-- VABS: saturating absolute value (R203). -/
def execMkVabs (i : Issue) (vd va : VReg) (s : State) : Host.Outcome State Fault Refusal :=
  onNode s (vecOp1 i vd va absSat)
/-- VAND (R203). -/
def execMkVand (i : Issue) (vd va vb : VReg) (s : State) : Host.Outcome State Fault Refusal :=
  onNode s (vecOp i vd va vb (fun a b => a &&& b))
/-- VOR (R203). -/
def execMkVor (i : Issue) (vd va vb : VReg) (s : State) : Host.Outcome State Fault Refusal :=
  onNode s (vecOp i vd va vb (fun a b => a ||| b))
/-- VXOR (R203). -/
def execMkVxor (i : Issue) (vd va vb : VReg) (s : State) : Host.Outcome State Fault Refusal :=
  onNode s (vecOp i vd va vb (fun a b => a ^^^ b))
/-- VSLLI: shift left by imm5 (R203). -/
def execMkVslli (i : Issue) (vd va : VReg) (imm : Fin 32) (s : State) : Host.Outcome State Fault Refusal :=
  onNode s (vecOp1 i vd va (fun a => a <<< imm.val))
/-- VSRAI: arithmetic shift right by imm5 (R203). -/
def execMkVsrai (i : Issue) (vd va : VReg) (imm : Fin 32) (s : State) : Host.Outcome State Fault Refusal :=
  onNode s (vecOp1 i vd va (fun a => a.sshiftRight imm.val))
/-- VBCAST: every masked lane = rs (R203). -/
def execMkVbcast (i : Issue) (vd : VReg) (rs : GReg) (s : State) : Host.Outcome State Fault Refusal :=
  onNode s (issue i true 1 (fun n x => .done n (masked x vd.val (fun _ => gReg x rs.val))))
/-- VEXT: rd = va lane imm5, 0 to 7; a larger lane is a malformed encoding (R203, R197). -/
def execMkVext (i : Issue) (rd : GReg) (va : VReg) (imm : Fin 32) (s : State) : Host.Outcome State Fault Refusal :=
  onNode s (issue i true 1 (fun n x =>
    if imm.val > 7 then .trap 1 0 else result n x rd (vLane x va.val imm.val)))
/-- VINS: vd lane imm5 = rs; a lane above 7 is a malformed encoding (R203, R197). -/
def execMkVins (i : Issue) (vd : VReg) (rs : GReg) (imm : Fin 32) (s : State) : Host.Outcome State Fault Refusal :=
  onNode s (issue i true 1 (fun n x =>
    if imm.val > 7 then .trap 1 0 else .done n (setVLane x vd.val imm.val (gReg x rs.val))))

/-- Accumulate one masked product per lane (vmac). -/
def macLanes (x : Engine) (acc va vb : Nat) : Engine :=
  (List.range 8).foldl (fun y k =>
    if bitOf x.lm k then setAccLane y acc k (accAdd (accLane x acc k) (vLane x va k) (vLane x vb k)) else y) x

/-- VMAC: a0 += va × vb, 64-bit, saturating (R203). -/
def execMkVmac (i : Issue) (va vb : VReg) (s : State) : Host.Outcome State Fault Refusal :=
  onNode s (issue i true 1 (fun n x => .done n (macLanes x 0 va.val vb.val)))
/-- VMAC2: a0 += va × vb and a1 += v(a+1) × v(b+1); a ≤ 14 and b ≤ 14 (R203). -/
def execMkVmac2 (i : Issue) (va vb : VReg) (s : State) : Host.Outcome State Fault Refusal :=
  onNode s (issue i true 1 (fun n x =>
    if va.val > 14 || vb.val > 14 then .trap 1 0
    else .done n (macLanes (macLanes x 0 va.val vb.val) 1 (va.val + 1) (vb.val + 1))))
/-- VCLRA: a0 = a1 = 0 in the masked lanes (R203). -/
def execMkVclra (i : Issue) (s : State) : Host.Outcome State Fault Refusal :=
  onNode s (issue i true 1 (fun n x => .done n ((List.range 8).foldl (fun y k =>
    if bitOf x.lm k then setAccLane (setAccLane y 0 k 0#64) 1 k 0#64 else y) x)))
/-- VRDA: vd = (a0 + a1 + r) >> imm5, saturated (R203). -/
def execMkVrda (i : Issue) (vd : VReg) (imm : Fin 32) (s : State) : Host.Outcome State Fault Refusal :=
  onNode s (issue i true 2 (fun n x =>
    .done n (masked x vd.val (fun k => readAcc (accLane x 0 k) (accLane x 1 k) imm.val))))

/-- Exact sum of the masked lanes of a vector register. -/
def laneSum (x : Engine) (va : Nat) : Int :=
  (List.range 8).foldl (fun t k => if bitOf x.lm k then t + sval (vLane x va k) else t) 0

/-- VSUM: rd = saturating sum of the masked lanes (R203). -/
def execMkVsum (i : Issue) (rd : GReg) (va : VReg) (s : State) : Host.Outcome State Fault Refusal :=
  onNode s (issue i true 3 (fun n x => result n x rd (satWord (laneSum x va.val))))

end Sys2Proof.Machine
end

