-- ==== Sys2Proof/Machine/MilnakRun.lean ====
section
/-! DEFINITION. Starting runs, self-tests, events, and the queue and system instructions that reach no register
window (R201, R209, R215, R217, R221, R225, R227, Tables MK-7, MK-9). -/

namespace Sys2Proof.Machine

/-- An engine with all registers cleared, dz clear and LM at 0x3F (R192). -/
def clearedEngine (x : Engine) (entry : Nat) : Engine :=
  { x with g := [], v := [], acc := [], lm := 0x3F, dz := false, pc := entry, loops := [] }

/-- Clocks of a context restore or save (Table MK-11). -/
def contextClocks (e : Nat) : Nat := if isV e then 40 else 16

/-- Start a run of program k on engine e (R192, R209, R216, R222, R225). -/
def startRun (n : Node) (e k : Nat) (st : EngState) (cn : CN) : Node :=
  let p := prog n k
  let x0 := engine n e
  let x1 := clearedEngine x0 p.hdr.entry
  let x2 := if p.hasContext then restoreContext n (k / 16) (k % 16) x1 else x1
  let ev := decide (p.hdr.kind = .event)
  let x3 := { x2 with
    st := st, prog := k, evRun := ev, loops := [], clk := contextClocks e, runCn := cn
    evCount := if ev then p.pendCount else 0
    evData := if ev then p.firstData else 0#32
    trapsBefore := p.traps, stores := [], louts := [], units := [] }
  let n := setEngine n e x3
  let n := setProg n k { p with
    pendCount := if ev then 0 else p.pendCount
    ranThisCycle := p.ranThisCycle || decide (p.hdr.kind = .cycle), waited := false }
  if decide (st = .shadow) then count n (R.MK_CNT 8) else n

/-- Is a cycle program due in this cycle: enabled, not in FAULT, and not run yet (R209)? -/
def cycleDue (p : Prog) : Bool := decide (p.hdr.kind = .cycle) && p.enable && !p.fault && !p.ranThisCycle

/-- Does no due cycle program of the engine with the same phase and a lower PROGID come first (R209)? -/
def firstOfPhase (n : Node) (k : Nat) : Bool :=
  (List.range (k % 16)).all (fun j => let p := prog n (progId (k / 16) j); !(cycleDue p && p.phase == (prog n k).phase))

/-- CYCLE_PROGRAM_START: a cycle program starts at 400 + PHASE ns, or when the engine frees (R209).  A program that
is disabled, in FAULT, or has run in this cycle, an engine that is not idle, and a program before its turn at its
phase, start nothing. -/
def execCycleProgramStart (k : Fin 512) (s : State) : Host.Outcome State Fault Refusal :=
  onNode s (fun n =>
    let p := prog n k.val
    let e := k.val / 16
    let x := engine n e
    if cycleDue p && decide (x.st = .idle) && firstOfPhase n k.val && !pausedNow n then
      match n.mil.shadowCn with
      | some s => startRun n e k.val .shadow s
      | none => startRun n e k.val .running n.tb.cn
    else n)

/-- Nanoseconds since the last local boundary. -/
def nsInCycle (n : Node) : Nat := ((n.tb.counter - n.tb.boundary) >>> 32).toNat

/-- Engine clocks as nanoseconds, rounded up: 1.25 ns a clock on a C-engine, 1 ns on a V-engine. -/
def clocksNs (e c : Nat) : Nat := if isV e then c else ceilDiv (5 * c) 4

/-- Start, in ns after the boundary, of the engine's next scheduled cycle program: the first of this cycle that has
not run, or the first of the next cycle (R217). -/
def nextCycleStart (n : Node) (e : Nat) : Nat :=
  let ps := (List.range 16).map (fun j => prog n (progId e j))
  let cyc := ps.filter (fun p => decide (p.hdr.kind = .cycle) && p.enable && !p.fault)
  let now := (cyc.filter (fun p => !p.ranThisCycle)).map (fun p => 400 + p.phase)
  let later := cyc.map (fun p => 125000 + 400 + p.phase)
  (now ++ later).foldl min 1000000000

/-- Pending event programs of an engine, by PRIO and then PROGID (R217). -/
def pendingEvents (n : Node) (e : Nat) : List Nat :=
  let ks := (List.range 16).map (progId e)
  let ok := fun k => let p := prog n k
    decide (p.hdr.kind = .event) && p.enable && !p.fault && decide (0 < p.pendCount)
  [0, 1, 2, 3].flatMap (fun pr => ks.filter (fun k => ok k && (prog n k).hdr.prio == pr))

/-- Does a program's BOUND end before the engine's next scheduled cycle program (R217)? -/
def fitsGap (n : Node) (e k : Nat) : Bool :=
  decide (nsInCycle n + clocksNs e (prog n k).hdr.bound < nextCycleStart n e)

/-- Programs that must wait for a later gap are counted once each (MK_CNT[5]). -/
def noteWaiting (n : Node) (ks : List Nat) : Node :=
  ks.foldl (fun n k => let p := prog n k
    if p.waited then n else count (setProg n k { p with waited := true }) (R.MK_CNT 5)) n

/-- EVENT_PROGRAM_START: a free engine starts the pending event program of lowest PRIO, then lowest PROGID, that fits
before its next cycle program (R217). -/
def execEventProgramStart (e : Fin 32) (s : State) : Host.Outcome State Fault Refusal :=
  onNode s (fun n =>
    if (engine n e.val).st ≠ .idle || pausedNow n then n
    else
      let ks := pendingEvents n e.val
      match ks.find? (fitsGap n e.val) with
      | some k => startRun (noteWaiting n (ks.filter (fun j => !fitsGap n e.val j))) e.val k .running n.tb.cn
      | none => noteWaiting n ks)

/-- A write of MK_PROGCMD.RESTART: FAULT, the trap count and the context are cleared at the next boundary (R221). -/
def requestRestart (n : Node) (k : Nat) : Node :=
  let p := prog n k
  setProg n k { p with restart := true }

/-- PROGRAM_RESTART (R221). -/
def execProgramRestart (k : Fin 512) (s : State) : Host.Outcome State Fault Refusal :=
  onNode s (fun n => requestRestart n k.val)

/-- A host post of software event `num` with MK_EVTDATA (R215). -/
def postEvent (n : Node) (num : Nat) : Node := fireSource n 0 num (rd n R.MK_EVTDATA)

/-- EVENT_POST (R215). -/
def execEventPost (num : Fin 256) (s : State) : Host.Outcome State Fault Refusal :=
  onNode s (fun n => postEvent n num.val)

/-- The self-test program for an engine kind, on the engine itself where it has one (R227). -/
def selftestProg (n : Node) (e : Nat) : Option Nat :=
  let own := ((List.range 16).map (progId e)).find? (fun k => decide ((prog n k).hdr.kind = .selftest))
  match own with
  | some k => some k
  | none => (n.mil.progs.find? (fun p => decide (p.2.hdr.kind = .selftest) && isV (p.1 / 16) == isV e)).map (·.1)

/-- Run the self-test on engine e, or refuse it (R227): the program of the blend, or the built-in test of the CX boot
ROM, whose result the spec does not state (a free value, log entry 2). -/
def runSelftest (n : Node) (e : Nat) : Node :=
  let busy := (List.range 16).any (fun j => let p := prog n (progId e j)
    p.enable && (decide (p.hdr.kind = .cycle) || decide (p.hdr.kind = .event)))
  if busy || decide ((engine n e).st ≠ .idle) then
    let n := sf n R.MK_STSTAT F.MK_STSTAT_ENG e
    let n := sf n R.MK_STSTAT F.MK_STSTAT_CAUSE 0
    sf (sf n R.MK_STSTAT F.MK_STSTAT_RESULT 3) R.MK_STCTL F.MK_STCTL_GO 0
  else
    match selftestProg n e with
    | some k => startRun { n with mil := { n.mil with selftest := some e } } e k .selftest n.tb.cn
    | none =>
      let (v, n) := freshWord n
      selftestResult n e (v.getLsbD 0) (v.toNat / 2 % 16)

/-- SELFTEST_REQUEST: a write of MK_STCTL.GO (R227). -/
def execSelftestRequest (e : Fin 32) (s : State) : Host.Outcome State Fault Refusal :=
  onNode s (fun n =>
    let n := sf n R.MK_STCTL F.MK_STCTL_ENG e.val
    runSelftest (sf n R.MK_STCTL F.MK_STCTL_GO 1) e.val)

/-! ### Encodings (R197) -/

/-- Is a word an instruction of a C-engine or of a V-engine (R197, R198, R201, R203; Tables MK-5 to MK-10)? -/
def mkDefined (vEngine : Bool) (w : BitVec 32) : Bool :=
  let x := w.toNat
  let op := bits x 26 6
  let a := bits x 21 5
  let b := bits x 16 5
  let c := bits x 11 5
  let fn := bits x 0 11
  let imm16 := bits x 0 16
  let isVr := fun (r : Nat) => decide (r < 16)
  if op = 0 then decide (fn ≤ 0x17) && (fn != 0x11 || c == 0)
  else if op ≤ 6 then true
  else if op = 7 then b == 0
  else if op ≤ 0xF then true
  else if op ≤ 0x15 then decide (imm16 < 0x8000)
  else if op = 0x16 then b == 0
  else if op = 0x17 then imm16 == 0
  else if op = 0x18 then decide (1 ≤ bits x 9 12) && decide (1 ≤ bits x 0 9)
  else if op = 0x19 then decide (fn ≤ 1) || (fn == 2 && c == 0)
  else if op = 0x1A then
    (match c with
     | 0 => a == 0 && b == 0 && fn == 0
     | 1 => a == 0 && b == 0 && fn == 0
     | 2 => b == 0 && decide (fn ≤ 2)
     | 3 => a == 0 && decide (fn ≤ 255)
     | 4 => a == 0
     | 5 => fn == 0
     | 6 => fn == 0
     | 7 => b == 0 && decide (fn ≤ 0xA)
     | 8 => a == 0 && (fn == 0 || fn == 0xA)
     | 9 => a == 0 && b == 0 && fn == 0
     | 10 => a == 0 && b == 0 && fn == 0
     | _ => false)
  else if !vEngine then false
  else if op = 0x1B then decide (fn ≤ 1) && isVr a && c == 0
  else if op = 0x1C then
    (if fn ≤ 6 then isVr a && isVr b && isVr c
     else if fn = 7 then isVr a && isVr b && c == 0
     else if fn ≤ 0xA then isVr a && isVr b && isVr c
     else if fn ≤ 0xC then isVr a && isVr b
     else if fn = 0xD then isVr a && c == 0
     else if fn = 0xE then isVr b && decide (c ≤ 7)
     else if fn = 0xF then isVr a && decide (c ≤ 7)
     else if fn = 0x10 then a == 0 && isVr b && isVr c
     else if fn = 0x11 then a == 0 && decide (b ≤ 14) && decide (c ≤ 14)
     else if fn = 0x12 then a == 0 && b == 0 && c == 0
     else if fn = 0x13 then isVr a && b == 0
     else if fn = 0x14 then isVr b && c == 0
     else false)
  else if op = 0x1D then isVr a
  else if op = 0x1E then isVr a
  else false

/-- ILLEGAL_INSTRUCTION: an undefined or malformed encoding traps with ILLEGAL (R197).  A word that is an instruction
of the engine is not this command. -/
def execMkIllegal (i : Issue) (word : BitVec 32) (s : State) : Host.Outcome State Fault Refusal :=
  onNode s (fun n =>
    let e := i.engine.val
    if !executing (engine n e) || mkDefined (isV e) word then n else trap n e 1 0)

/-! ### Queue and system instructions -/

/-- Queue number of a register: bits 19:0 (R201). -/
def queueNum (v : BitVec 32) : Nat := v.toNat % 2 ^ 20

/-- Bytes of the engine's own data memory, the I/O buffer region of a V-engine's included (Table MK-1). -/
def ownRead (n : Node) (e o len : Nat) : List Byte :=
  if !isV e then readBytes n.mil.cxram o len
  else if ioBase ≤ o then (List.range len).flatMap (fun i => ioLoad n (o - ioBase + i) 1)
  else readBytes n.mil.axram o len

/-- Note the output units a run has stored into (R207): those whose last writer it is. -/
def noteUnits (n : Node) (x : Engine) (us : List Nat) : Engine :=
  us.foldl (fun x u =>
    if (look (512, false) n.mil.unitWriter u).1 == x.prog && !x.units.contains u then { x with units := x.units ++ [u] } else x) x

/-- Store a cell in the engine's own data memory, unit by unit in the I/O buffer region (R207). -/
def ownWrite (n : Node) (e : Nat) (x : Engine) (o : Nat) (bs : List Byte) : Node × Engine :=
  if !isV e then ({ n with mil := { n.mil with cxram := writeBytes n.mil.cxram o bs } }, x)
  else if ioBase ≤ o then
    let off := o - ioBase
    let n := (List.range 8).foldl (fun n i => ioStore n (off + 16 * i) x.prog (cut bs (16 * i) 16)) n
    (n, noteUnits n x ((List.range 8).map (fun i => (off + 16 * i) / 32)))
  else ({ n with mil := { n.mil with axram := writeBytes n.mil.axram o bs } }, x)

/-- The checked place of a cell in the engine's own data memory (R199, R201). -/
def cellPlace (n : Node) (e : Nat) (h : Header) (a : Nat) (store : Bool) : Except Nat Nat :=
  match access n e h a 128 16 store with
  | .error c => .error c
  | .ok (sp, o) => if decide (sp = (if isV e then Space.ax else Space.cx)) then .ok o else .error 3

/-- QPUSH: copy the cell at rt to the tail of queue rs; rd = 0 queued, 1 dropped (R201). -/
def execMkQpush (i : Issue) (rd rs rt : GReg) (s : State) : Host.Outcome State Fault Refusal :=
  onNode s (issue i false (clocks i 240 300) (fun n x =>
    let e := i.engine.val
    let h := runHdr n e
    let q := queueNum (gReg x rs.val)
    match cellPlace n e h (gReg x rt.val).toNat false with
    | .error c => .trap c (gReg x rt.val).toNat
    | .ok o =>
      if !queueGranted h q (fun g => g.write) then .trap 4 q
      else if inShadow x then result n x rd 0#32
      else
        let r := pushCell n q (ownRead n e o 128)
        result r.1 x rd (boolWord (!r.2))))

/-- QPOP: copy the head cell of queue rs to rt and remove it; rd = 1 copied, 0 empty (R201). -/
def execMkQpop (i : Issue) (rd rs rt : GReg) (s : State) : Host.Outcome State Fault Refusal :=
  onNode s (issue i false (clocks i 240 300) (fun n x =>
    let e := i.engine.val
    let h := runHdr n e
    let q := queueNum (gReg x rs.val)
    match cellPlace n e h (gReg x rt.val).toNat true with
    | .error c => .trap c (gReg x rt.val).toNat
    | .ok o =>
      if !queueGranted h q (fun g => g.read) then .trap 4 q
      else if inShadow x then result n x rd 0#32
      else match popCell n q with
        | (n, none) => result n x rd 0#32
        | (n, some (cell, _)) =>
          let (n, x) := ownWrite n e x o cell
          result n x rd 1#32))

/-- QLEN: rd = cells held in queue rs (R201). -/
def execMkQlen (i : Issue) (rd rs : GReg) (s : State) : Host.Outcome State Fault Refusal :=
  onNode s (issue i false (clocks i 240 300) (fun n x =>
    let q := queueNum (gReg x rs.val)
    if !queueGranted (runHdr n i.engine.val) q (fun g => g.read || g.write) then .trap 4 q
    else result n x rd (BitVec.ofNat 32 (desc n q).fill)))

/-- NS as RDT returns it: now, or in a shadow run as it stood as many cycles earlier as the run's cycle lies back
(R201, R225). -/
def runNs (n : Node) (x : Engine) : BitVec 32 :=
  if inShadow x then
    let k := (cnDiff (cnNow n) x.runCn.toNat).toNat
    nowNs n - BitVec.ofNat 32 (125000 * k)
  else nowNs n

/-- RDT: NS now, or the run's CN (R201). -/
def execMkRdt (i : Issue) (rd : GReg) (imm : BitVec 11) (s : State) : Host.Outcome State Fault Refusal :=
  onNode s (issue i false 4 (fun n x =>
    if imm.toNat = 0 then result n x rd (runNs n x)
    else if imm.toNat = 1 then result n x rd (x.runCn.setWidth 32)
    else if imm.toNat = 2 then result n x rd ((x.runCn >>> 32).setWidth 32)
    else .trap 1 0))

/-- RAISE: post software event imm with data rs; imm above 255 is illegal (R201).  A shadow run posts nothing (R225). -/
def execMkRaise (i : Issue) (rs : GReg) (imm : BitVec 11) (s : State) : Host.Outcome State Fault Refusal :=
  onNode s (issue i false 4 (fun n x =>
    if imm.toNat > 255 then .trap 1 0
    else if inShadow x then .done n x
    else
      -- the engine keeps its run while a firing changes only programs' counts
      .done (fireSource n 0 imm.toNat (gReg x rs.val)) x))

/-- LOG: record an event of class LCLASS with code 0x8000 + imm and data rs (R201).  A shadow run records nothing (R225). -/
def execMkLog (i : Issue) (rs : GReg) (imm : BitVec 11) (s : State) : Host.Outcome State Fault Refusal :=
  onNode s (issue i false (clocks i 240 300) (fun n x =>
    if inShadow x then .done n x
    else .done (record n (classOfLclass (runHdr n i.engine.val).lclass) (BitVec.ofNat 16 (0x8000 + imm.toNat))
      (progSource (runProg n i.engine.val)) (leBytes 4 0 ++ leBytes 4 (gReg x rs.val).toNat)) x))

/-- The content of a CSR of Table MK-9, where it is defined. -/
def csrValue (n : Node) (e : Nat) (x : Engine) : Nat → Option (BitVec 32)
  | 0 => some (if isV e then BitVec.ofNat 32 x.lm else 0#32)
  | 1 => some (BitVec.ofNat 32 (x.clk - 1))
  | 2 => some (BitVec.ofNat 32 (runHdr n e).bound)
  | 3 => some (BitVec.ofNat 32 x.evCount)
  | 4 => some x.evData
  | 5 => some (BitVec.ofNat 32 x.prog)
  | 6 => some (BitVec.ofNat 32 (gf n (R.LC_PRES 0) F.LC_PRES_D))
  | 7 => some (rd n R.IN_EPOCH)
  | 8 => some (BitVec.ofNat 32 x.trapsBefore)
  | 9 => some (boolWord (inShadow x))
  | 10 => some (boolWord x.dz)
  | _ => none

/-- CSRR: rd = CSR imm; an undefined CSR is illegal (R201). -/
def execMkCsrr (i : Issue) (rd : GReg) (imm : BitVec 11) (s : State) : Host.Outcome State Fault Refusal :=
  onNode s (issue i false 1 (fun n x =>
    match csrValue n i.engine.val x imm.toNat with
    | some v => result n x rd v
    | none => .trap 1 0))

/-- CSRW: CSR imm = rs; only lm and dz can be written, any other CSR is illegal (R201, Table MK-9). -/
def execMkCsrw (i : Issue) (rs : GReg) (imm : BitVec 11) (s : State) : Host.Outcome State Fault Refusal :=
  onNode s (issue i false 1 (fun n x =>
    let v := gReg x rs.val
    if imm.toNat = 0 then
      .done n (if isV i.engine.val then { x with lm := v.toNat % 256 } else x)
    else if imm.toNat = 0xA then .done n (if v.getLsbD 0 then x else { x with dz := false })
    else .trap 1 0))

/-- The state of a program proposal as PRSTAT returns it (R202). -/
def proposalWord : ProposalState → BitVec 32
  | .pending => 0#32
  | .committed => 1#32
  | .rejected r => BitVec.ofNat 32 (2 + r % 256 * 256)
  | .timeout => 3#32

/-- PRSTAT: the state of the program proposal with PSEQ rs, or 4 for an older one (R202). -/
def execMkPrstat (i : Issue) (rd rs : GReg) (s : State) : Host.Outcome State Fault Refusal :=
  onNode s (issue i false 4 (fun n x =>
    match (n.mil.proposals.take 64).find? (fun p => p.1 == (gReg x rs.val).toNat) with
    | some p => result n x rd (proposalWord p.2)
    | none => result n x rd 4#32))

end Sys2Proof.Machine
end

