-- ==== Sys2Proof/Machine/MilnakLoad.lean ====
section
/-! DEFINITION. The loader: program records, the bound of a run, the cycle budget and the checks of Table MK-12
(R196, R210, R212, R213, R214, Table MK-4, Table CF-5). -/

namespace Sys2Proof.Machine

/-- A program record of a PROGRAMS section (Table CF-5). -/
structure ProgRecord where
  loadIdx : Nat
  progid : Nat
  kindCode : Nat
  pflags : Nat
  phase : Nat
  ngrant : Nat
  codelen : Nat
  reserved : Nat
  hdr : Header
  /-- GKIND and RIGHTS bytes, and reserved bytes, of the grants -/
  graw : List (Nat × Nat × Nat)
  code : List (BitVec 32)
  deriving DecidableEq, Repr

/-- Engine of a program record. -/
def ProgRecord.engine (r : ProgRecord) : Nat := r.progid / 16

/-- The KIND a code stands for (Table MK-4). -/
def progKindOf : Nat → ProgKind
  | 1 => .cycle
  | 2 => .event
  | 3 => .selftest
  | _ => .none

/-- A grant from its 16 bytes. -/
def parseGrant (b : List Byte) : Grant :=
  { base := le b 0 4, len := le b 4 4, queues := le b 8 1 == 1
    read := bitOf (le b 9 1) 0, write := bitOf (le b 9 1) 1, shared := bitOf (le b 9 1) 2 }

/-- A program record from the bytes it begins. -/
def parseRecord (b : List Byte) : ProgRecord :=
  let h := b.drop 16
  let ng := le h 19 1
  let clen := le h 14 2
  let gs := (List.range ng).map (fun i => cut h (32 + 16 * i) 16)
  let code := (List.range clen).map (fun i => BitVec.ofNat 32 (le h (32 + 16 * ng + 4 * i) 4))
  { loadIdx := le b 0 2, progid := le h 0 2, kindCode := le h 2 1, pflags := le h 3 1, phase := le h 4 4
    ngrant := ng, codelen := clen, reserved := le b 2 14 + le h 28 4
    graw := gs.map (fun g => (le g 8 1, le g 9 1, le g 10 6)), code := code
    hdr := {
      kind := progKindOf (le h 2 1), lclass := le h 3 1 % 4, bound := le h 8 4, entry := le h 12 2, codelen := clen
      traplim := le h 16 1, prio := le h 17 1, srcKind := le h 18 1, srcArg := le h 20 4
      sigexp := BitVec.ofNat 32 (le h 24 4), grants := gs.map parseGrant } }

/-- Bytes of a record, rounded up to 64. -/
def ProgRecord.size (r : ProgRecord) : Nat := ceilDiv (16 + 32 + 16 * r.ngrant + 4 * r.codelen) 64 * 64

/-- The records of a PROGRAMS section. -/
def parseRecords : Nat → List Byte → List ProgRecord
  | 0, _ => []
  | k + 1, b => if b.length < 48 then [] else
      let r := parseRecord b
      r :: parseRecords k (b.drop r.size)

/-! ### Cycle budget (R210) -/

/-- A scheduled cycle program: phase in ns, BOUND, and its PROGID. -/
structure Sched where
  phase : Nat
  bound : Nat
  progid : Nat
  deriving DecidableEq, Repr

/-- Insert by phase, then PROGID. -/
def schedInsert (x : Sched) : List Sched → List Sched
  | [] => [x]
  | y :: l => if x.phase < y.phase ∨ (x.phase = y.phase ∧ x.progid < y.progid) then x :: y :: l else y :: schedInsert x l

/-- Quarter nanoseconds of a run's bound and 64 clocks (R210). -/
def runQuarters (v : Bool) (bound : Nat) : Nat := if v then 4 * (bound + 64) else 5 * (bound + 64)

/-- End of the schedule and longest gap within it, in quarter ns after the boundary (R210). -/
def schedEnd (v : Bool) (l : List Sched) : Nat × Nat :=
  (l.foldr schedInsert []).foldl (fun (st : Nat × Nat) x =>
    let start := 4 * (400 + x.phase)
    (max st.1 start + runQuarters v x.bound, max st.2 (start - st.1))) (0, 0)

/-- Longest interval of the cycle with no cycle program scheduled, in quarter ns. -/
def schedGap (v : Bool) (l : List Sched) : Nat :=
  let (e, g) := schedEnd v l
  max g (500000 - e)

/-- Does the cycle budget hold (R210)? -/
def budgetHolds (v : Bool) (l : List Sched) : Bool := decide ((schedEnd v l).1 ≤ 4 * 112500)

/-- MK_SCHED[e], in units of 2 ns. -/
def schedWord (v : Bool) (l : List Sched) : BitVec 32 :=
  fset (fset 0#32 F.MK_SCHED_FEND (min 0xFFFF (ceilDiv (schedEnd v l).1 8))) F.MK_SCHED_GAP (min 0xFFFF (schedGap v l / 8))

/-- Does an event program's bound fit a gap, in quarter ns (check 7)? -/
def fitsLongestGap (v : Bool) (l : List Sched) (bound : Nat) : Bool :=
  decide ((if v then 4 * bound else 5 * bound) ≤ schedGap v l)

/-! ### The bound of a run (R212) -/

/-- Field of an instruction word. -/
def iOp (w : BitVec 32) : Nat := bits w.toNat 26 6
/-- Bits 10:0. -/
def iFn (w : BitVec 32) : Nat := bits w.toNat 0 11
/-- Bits 15:11. -/
def iC (w : BitVec 32) : Nat := bits w.toNat 11 5
/-- Bits 15:0. -/
def iImm (w : BitVec 32) : Nat := bits w.toNat 0 16
/-- LEN of a LOOP. -/
def iLoopLen (w : BitVec 32) : Nat := bits w.toNat 0 9
/-- BOUND of a LOOP. -/
def iLoopBound (w : BitVec 32) : Nat := bits w.toNat 9 12

/-- Clocks of a memory access of a class (Table MK-11, Config.accessClass). -/
def accessClocks (v store : Bool) : Nat → Nat
  | 1 => if v then 200 else 160
  | 2 => if v then 400 else 320
  | 3 => if v then 1000 else 800
  | _ => if store then 1 else 2

/-- Clocks of an instruction that falls through (Table MK-11). -/
def plainClocks (v : Bool) (code : List (BitVec 32)) (i : Nat) (w : BitVec 32) : Nat :=
  let op := iOp w
  let fn := iFn w
  if op = 0 then (if fn = 0x12 ∨ fn = 0x13 then 36 else if (0xA ≤ fn ∧ fn ≤ 0xC) ∨ fn = 0x17 then 2 else 1)
  else if 8 ≤ op ∧ op ≤ 0xC then accessClocks v false (Config.accessClass code i)
  else if 0xD ≤ op ∧ op ≤ 0xF then accessClocks v true (Config.accessClass code i)
  else if op = 0x1D then accessClocks v false (Config.accessClass code i)
  else if op = 0x1E then accessClocks v true (Config.accessClass code i)
  else if op = 0x19 then (if v then 300 else 240)
  else if op = 0x1B then 8
  else if op = 0x1C then (if fn = 0x13 then 2 else if fn = 0x14 then 3 else 1)
  else if op = 0x1A then
    (match iC w with
     | 2 | 3 | 6 => 4
     | 4 => if v then 300 else 240
     | 5 => 40
     | 9 => if v then 400 else 320
     | _ => 1)
  else 1

/-- The greatest clocks from an index to the end of the run, and to the return of the routine; none where no path leads there. -/
structure PathCost where
  toEnd : Option Nat := none
  toRet : Option Nat := none
  deriving DecidableEq, Repr

/-- The greater of two costs. -/
def maxO : Option Nat → Option Nat → Option Nat
  | some a, some b => some (max a b)
  | none, b => b
  | a, none => a

/-- Add clocks to a path's costs. -/
def PathCost.add (c : Nat) (p : PathCost) : PathCost := { toEnd := p.toEnd.map (· + c), toRet := p.toRet.map (· + c) }
/-- The greater of two paths' costs. -/
def PathCost.join (p q : PathCost) : PathCost := { toEnd := maxO p.toEnd q.toEnd, toRet := maxO p.toRet q.toRet }

/-- Greatest costs of the paths from index i.  `stop` is the end of the loop body in hand: reaching it counts as a
return.  A body's bound is that of one iteration; a call adds the callee's bound. -/
def pathCost (v : Bool) (code : List (BitVec 32)) (base : Nat) : Nat → Option Nat → Nat → PathCost
  | 0, _, _ => {}
  | fuel + 1, stop, i =>
    if stop = some i then { toRet := some 0 }
    else match code[i]? with
      | none => {}
      | some w =>
        let op := iOp w
        let next := fun (k : Nat) => pathCost v code base fuel stop k
        if 0x10 ≤ op ∧ op ≤ 0x15 then
          ((next (i + 1 + iImm w)).add 2).join ((next (i + 1)).add 1)
        else if op = 0x16 then
          let t := (signed 16 (iImm w) + (i : Int) + 1).toNat
          let callee := pathCost v code base fuel none t
          let rest := match callee.toRet with
            | some r => (next (i + 1)).add (2 + r)
            | none => {}
          rest.join { toEnd := callee.toEnd.map (· + 2) }
        else if op = 0x17 then { toRet := some 2 }
        else if op = 0x18 then
          let last := i + 1 + iLoopLen w
          let body := pathCost v code base fuel (some last) (i + 1)
          let n := iLoopBound w
          let once := body.toRet.getD 0
          let rest := (next last).add (2 + n * once)
          rest.join { toEnd := body.toEnd.map (fun e => 2 + n * once + e) }
        else if op = 0x1A ∧ (iC w = 0 ∨ iC w = 1) then { toEnd := some 0 }
        else (next (i + 1)).add (plainClocks v code i w)

/-- Entries of paths: ENTRY and the instruction after each WAITC (R212). -/
def pathStarts (r : ProgRecord) : List Nat :=
  (r.hdr.entry - r.loadIdx) :: (which r.code.length (fun i => let w := r.code.getD i 0#32; iOp w == 0x1A && iC w == 0)).map (· + 1)

/-- The loader's own bound of a program (R212): context restore and save, the worst path, and an event program's
boundary stall. -/
def computedBound (r : ProgRecord) : Nat :=
  let v := isV r.engine
  let worst := (pathStarts r).foldl (fun m i => max m ((pathCost v r.code r.loadIdx (2 * r.code.length + 8) none i).toEnd.getD 0)) 0
  worst + 2 * (if v then 40 else 16) + (if r.kindCode = 2 then (if v then 400 else 320) else 0)

/-! ### Control flow (checks 2 to 4) -/

/-- Loop bodies of a program: first index and end. -/
def loopBodies (code : List (BitVec 32)) : List (Nat × Nat) :=
  (which code.length (fun i => iOp (code.getD i 0#32) == 0x18)).map (fun i => (i + 1, i + 1 + iLoopLen (code.getD i 0#32)))

/-- Does a branch enter or leave a loop body, or do bodies nest wrongly (check 4)? -/
def loopsOk (code : List (BitVec 32)) : Bool :=
  let bodies := loopBodies code
  let inside := fun (b : Nat × Nat) (i : Nat) => decide (b.1 ≤ i) && decide (i < b.2)
  let branches := which code.length (fun i => let op := iOp (code.getD i 0#32); decide (0x10 ≤ op) && decide (op ≤ 0x15))
  let cross := branches.any (fun i =>
    let t := i + 1 + iImm (code.getD i 0#32)
    bodies.any (fun b => if inside b i then !(inside b t || t == b.2) else inside b t))
  let nestOk := bodies.all (fun b => bodies.all (fun c => !(inside c (b.1 - 1)) || decide (b.2 ≤ c.2)))
  let depthOk := bodies.all (fun b => decide ((bodies.filter (fun c => inside c (b.1 - 1))).length < 4))
  !cross && nestOk && depthOk && bodies.all (fun b => decide (b.2 ≤ code.length))

/-- jal targets reachable from a routine by falling through and branching, up to its return. -/
def callsFrom (code : List (BitVec 32)) : Nat → Nat → List Nat
  | 0, _ => []
  | fuel + 1, i => match code[i]? with
    | none => []
    | some w =>
      let op := iOp w
      if op = 0x17 then []
      else if op = 0x1A ∧ iC w = 1 then []
      else
        let here := if op = 0x16 then [(signed 16 (iImm w) + (i : Int) + 1).toNat] else []
        let far := if 0x10 ≤ op ∧ op ≤ 0x15 then callsFrom code fuel (i + 1 + iImm w) else []
        here ++ far ++ callsFrom code fuel (i + 1)

/-- Is a chain of calls longer than the program, so that the call graph has a cycle (check 3)? -/
def callCycle (code : List (BitVec 32)) : Nat → Nat → Bool
  | 0, _ => true
  | fuel + 1, i => (callsFrom code code.length i).any (fun t => callCycle code fuel t)

/-- jalr forms and the call graph (check 3). -/
def callsOk (r : ProgRecord) : Bool :=
  r.code.all (fun w => iOp w != 0x17 || (bits w.toNat 21 5 == 0 && bits w.toNat 16 5 == 31))
    && !(callCycle r.code (r.code.length + 1) (r.hdr.entry - r.loadIdx))

/-! ### The checks (Table MK-12) -/

/-- Budget clocks of an engine (Table MK-1). -/
def budgetClocks (v : Bool) : Nat := if v then 112500 else 90000

/-- SRCARG in range for its SRCKIND (Table MK-13). -/
def srcArgOk (kind arg : Nat) : Bool :=
  match kind with
  | 0 => decide (arg ≤ 255)
  | 1 => decide (arg < 2 ^ 20)
  | 2 => decide (1 ≤ arg) && decide (arg ≤ 7)
  | 3 => decide (1 ≤ arg) && decide (arg ≤ 65535)
  | 4 => decide (arg ≤ 511) || arg == 0xFFFF
  | 5 => arg == 0
  | _ => false

/-- Check 1 for one record, uniqueness apart. -/
def headerOk (r : ProgRecord) : Bool :=
  let h := r.hdr
  let v := isV r.engine
  decide (r.progid ≤ 511) && decide (1 ≤ r.kindCode) && decide (r.kindCode ≤ 3) && (bits r.pflags 2 5 == 0)
    && (if r.kindCode = 1 then decide (r.phase ≤ 112100) else r.phase == 0)
    && decide (1 ≤ h.bound) && decide (h.bound ≤ budgetClocks v)
    && decide (r.loadIdx ≤ h.entry) && decide (h.entry < r.loadIdx + r.codelen)
    && decide (r.ngrant ≤ 8) && r.reserved == 0
    && (r.kindCode != 2 || (decide (h.prio ≤ 3) && srcArgOk h.srcKind h.srcArg))
    && r.graw.all (fun g => decide (g.1 ≤ 1) && decide (g.2.1 < 8) && g.2.2 == 0)

/-- Check 1. -/
def check1 (rs : List ProgRecord) (r : ProgRecord) : Bool :=
  headerOk r && (rs.filter (fun x => x.progid == r.progid)).length == 1
    && decide ((rs.filter (fun x => x.engine == r.engine && x.kindCode == 1)).length ≤ 8)

/-- Cycle programs of an engine that are enabled at load. -/
def recordScheds (rs : List ProgRecord) (e : Nat) : List Sched :=
  (rs.filter (fun x => x.engine == e && x.kindCode == 1 && bitOf x.pflags 7)).map (fun x => ⟨x.phase, x.hdr.bound, x.progid⟩)

/-- Does a grant lie in one range that needs a grant (check 9)? -/
def grantInRange (e : Nat) (g : Grant) : Bool :=
  if g.queues then decide (g.base + g.len ≤ 2 ^ 20)
  else match resolve e 0 g.base (max 1 g.len) with
    | some (.image, _) => false
    | some _ => true
    | none => false

/-- Do two write grants of programs on different engines overlap in one memory? -/
def grantsOverlap (e1 : Nat) (g1 : Grant) (e2 : Nat) (g2 : Grant) : Bool :=
  if g1.queues || g2.queues || g1.len == 0 || g2.len == 0 then false
  else match resolve e1 0 g1.base g1.len, resolve e2 0 g2.base g2.len with
    | some (s1, o1), some (s2, o2) => decide (s1 = s2) && decide (o1 < o2 + g2.len) && decide (o2 < o1 + g1.len)
    | _, _ => false

/-- Check 9. -/
def check9 (rs : List ProgRecord) (r : ProgRecord) : Bool :=
  r.hdr.grants.all (grantInRange r.engine)
    && rs.all (fun x => x.engine == r.engine || r.hdr.grants.all (fun g => !g.write || x.hdr.grants.all (fun h =>
        !h.write || !(grantsOverlap r.engine g x.engine h) || (g.shared && h.shared))))

/-- Check 10. -/
def check10 (r : ProgRecord) : Bool :=
  r.kindCode != 3 || (decide (r.ngrant ≤ 2)
    && r.code.all (fun w => !((iOp w == 0x1B && iFn w == 1) || (iOp w == 0x19 && iFn w == 0)
        || (iOp w == 0x1A && (iC w == 3 || iC w == 4 || iC w == 5))))
    && r.hdr.grants.all (fun g => g.queues || !g.write || decide (g.base + g.len ≤ 0xE0000000)))

/-- Check 8. -/
def check8 (rs : List ProgRecord) (r : ProgRecord) : Bool :=
  decide (r.loadIdx + r.codelen ≤ 16384)
    && rs.all (fun x => x.progid == r.progid || x.engine != r.engine
        || decide (x.loadIdx + x.codelen ≤ r.loadIdx) || decide (r.loadIdx + r.codelen ≤ x.loadIdx))

/-- One check of Table MK-12 for one program. -/
def loaderCheck (rs : List ProgRecord) (k : Nat) (r : ProgRecord) : Bool :=
  let v := isV r.engine
  match k with
  | 1 => check1 rs r
  | 2 => r.code.all (mkDefined v)
  | 3 => callsOk r
  | 4 => loopsOk r.code
  | 5 => decide (computedBound r ≤ r.hdr.bound)
  | 6 => budgetHolds v (recordScheds rs r.engine)
  | 7 => r.kindCode != 2 || fitsLongestGap v (recordScheds rs r.engine) r.hdr.bound
  | 8 => check8 rs r
  | 9 => check9 rs r
  | _ => check10 r

/-- LOADER (R213): the first failing check and its PROGID. -/
def loaderFail (rs : List ProgRecord) : Option (Nat × Nat) :=
  [1, 2, 3, 4, 5, 6, 7, 8, 9, 10].findSome? (fun k => (rs.find? (fun r => !loaderCheck rs k r)).map (fun r => (k, r.progid)))

/-! ### Loading -/

/-- Scheduled cycle programs of engine e as they are loaded and enabled. -/
def enabledScheds (n : Node) (e : Nat) : List Sched :=
  ((List.range 16).map (progId e)).filterMap (fun k =>
    let p := prog n k
    if decide (p.hdr.kind = .cycle) && p.enable then some ⟨p.phase, p.hdr.bound, k⟩ else none)

/-- Show MK_SCHED[e] (R210). -/
def showSched (n : Node) (e : Nat) : Node := wr n (R.MK_SCHED e) (schedWord (isV e) (enabledScheds n e))

/-- Load one program (Table CF-5): its code, header and MK_PROGCFG. -/
def loadRecord (n : Node) (r : ProgRecord) : Node :=
  let n := { n with mil := { n.mil with imem := writeBytes n.mil.imem (65536 * r.engine + 4 * r.loadIdx) (r.code.flatMap (fun w => leBytes 4 w.toNat)) } }
  let on := bitOf r.pflags 7
  let n := setProg n r.progid { hdr := r.hdr, enable := on, phase := r.phase }
  let v := fset (fset 0#32 F.MK_PROGCFG_PHASE r.phase) F.MK_PROGCFG_ENABLE (b2n on)
  let a := R.MK_PROGCFG r.progid
  { wr n a v with force := put (resetValue a) n.force a v }

/-- Forget every loaded program. -/
def unloadPrograms (n : Node) : Node :=
  let n := { n with mil := { n.mil with progs := [], imem := [] } }
  let n := forRange 512 (fun n k => { wr n (R.MK_PROGCFG k) 0#32 with force := put (resetValue (R.MK_PROGCFG k)) n.force (R.MK_PROGCFG k) 0#32 }) n
  forRange 32 (fun n e => if executing (engine n e) then setEngine n e { engine n e with st := .idle, stores := [], louts := [], units := [] } else n) n

/-- Load the programs of a PROGRAMS section. -/
def loadPrograms (n : Node) (rs : List ProgRecord) : Node :=
  forRange 32 showSched (rs.foldl loadRecord n)

/-- PROGCFG_APPLY (R214): a latched value of MK_PROGCFG[k], at the boundary of R9. -/
def applyProgCfg (n : Node) (k : Nat) (v : BitVec 32) : Node :=
  let p := prog n k
  let e := k / 16
  let p' := { p with enable := fget v F.MK_PROGCFG_ENABLE == 1, phase := fget v F.MK_PROGCFG_PHASE }
  let n' := setProg n k p'
  let l := enabledScheds n' e
  let evs := ((List.range 16).map (progId e)).filter (fun k => decide ((prog n' k).hdr.kind = .event))
  let ok := decide (p.hdr.kind ≠ .cycle ∨ p'.phase ≤ 112100) && budgetHolds (isV e) l
    && evs.all (fun k => fitsLongestGap (isV e) l (prog n' k).hdr.bound)
  let a := R.MK_PROGCFG k
  if ok then showSched { n' with force := put (resetValue a) n.force a v } e
  else
    let old := fset (fset 0#32 F.MK_PROGCFG_PHASE p.phase) F.MK_PROGCFG_ENABLE (b2n p.enable)
    raise { wr n a old with force := put (resetValue a) n.force a old } .g 6 0 R.MK_EVT F.MK_EVT_BADPHASE

end Sys2Proof.Machine
end

