-- ==== Sys2Proof/Machine/Blend.lean ====
section
/-! DEFINITION. Blends: format, checks, stage, commit, rollback, and safety parameter blocks
(spec/10_configuration.md, R283 to R301). -/

namespace Sys2Proof.Machine

/-! ### Format (Tables CF-4 to CF-6) -/

/-- A directory entry of a blend. -/
structure Section_ where
  kind : Nat
  sflags : Nat
  off : Nat
  len : Nat
  crc : Nat
  deriving DecidableEq, Repr

/-- NSECT. -/
def blendNsect (b : List Byte) : Nat := le b 6 2
/-- VERSION. -/
def blendVersion (b : List Byte) : BitVec 32 := BitVec.ofNat 32 (le b 8 4)
/-- LEN. -/
def blendLen (b : List Byte) : Nat := le b 12 4

/-- The directory. -/
def blendDir (b : List Byte) : List Section_ :=
  (List.range (blendNsect b)).map (fun i =>
    let o := 32 + 16 * i
    { kind := le b o 1, sflags := le b (o + 1) 1, off := le b (o + 4) 4, len := le b (o + 8) 4, crc := le b (o + 12) 4 })

/-- Bytes of a section. -/
def sectionBytes (b : List Byte) (s : Section_) : List Byte := cut b s.off s.len

/-- Bytes of the first section of a kind. -/
def sectionOf (b : List Byte) (kind : Nat) : List Byte :=
  match (blendDir b).find? (fun s => s.kind == kind) with
  | some s => sectionBytes b s
  | none => []

/-- The program records of a blend. -/
def blendPrograms (b : List Byte) : List ProgRecord :=
  let p := sectionOf b 1
  parseRecords (p.length / 64 + 1) p

/-- The REGTABLE entries of a blend: address and value. -/
def blendRegs (b : List Byte) : List (Nat × BitVec 32) :=
  let p := sectionOf b 2
  (List.range (p.length / 8)).map (fun i => (le p (8 * i) 4, BitVec.ofNat 32 (le p (8 * i + 4) 4)))

/-! ### Checks (Table CF-7) -/

/-- What a check found: number, MK check, DETAIL. -/
structure CheckFail where
  check : Nat
  mkc : Nat := 0
  detail : Nat := 0
  deriving DecidableEq, Repr

/-- Check 1 (R283). -/
def blendCheck1 (b : List Byte) (staged : Nat) : Bool :=
  le b 0 4 == 0x0B1E4D84 && le b 4 2 == 1 && decide (1 ≤ blendNsect b) && decide (blendNsect b ≤ 32)
    && blendLen b == staged && staged % 64 == 0 && decide (64 ≤ staged) && decide (staged ≤ 12582912)
    && decide (32 + 16 * blendNsect b + 64 ≤ staged)

/-- Do two sections overlap? -/
def sectionsOverlap (s t : Section_) : Bool :=
  decide (0 < s.len) && decide (0 < t.len) && decide (s.off < t.off + t.len) && decide (t.off < s.off + s.len)

/-- How many sections of each kind are allowed up to index i (R284)? -/
def sectionBad (b : List Byte) (i : Nat) : Bool :=
  let d := blendDir b
  let s := d.getD i ⟨0, 0, 0, 0, 0⟩
  let before := d.take i
  let same := (before.filter (fun t => t.kind == s.kind)).length
  let kindOk := (s.kind == 1 && same == 0) || (s.kind == 2 && same == 0 && s.len % 8 == 0 && decide (s.len ≤ 8 * 65536))
    || (s.kind == 3 && same == 0 && s.len == 256) || (s.kind == 4 && decide (same < 16) && decide (8 ≤ s.len))
  !kindOk || s.sflags != 0 || s.off % 64 != 0 || decide (s.off < 32 + 16 * d.length)
    || decide (blendLen b < s.off + s.len + 64) || before.any (sectionsOverlap s)

/-- Check 3: the failing section; for a missing NODEPARAM, which has no index, an open value (log entry 2). -/
def blendCheck3 (b : List Byte) : Option Nat :=
  match (List.range (blendNsect b)).find? (sectionBad b) with
  | some i => some i
  | none => if (blendDir b).any (fun s => s.kind == 3) then none else some Config.noSection.toNat

/-- Check 4: every SCRC. -/
def blendCheck4 (b : List Byte) : Option Nat :=
  let d := blendDir b
  (List.range d.length).find? (fun i =>
    let s := d.getD i ⟨0, 0, 0, 0, 0⟩
    (crc32c (sectionBytes b s)).toNat != s.crc)

/-- Blocks whose registers a REGTABLE may address (R285). -/
def regtableBlock (a : Nat) : Bool := [0, 1, 2, 3, 4, 5, 6, 7, 8, 12, 13, 14, 15, 17].contains (a / 0x100000)

/-- May a REGTABLE entry address a register (R285)? -/
def regtableOk (a : Nat) : Bool :=
  regtableBlock a && a % 4 == 0 && (match regSpec a with
    | some r => r.rw != 0 || r.rws != 0
    | none => false)

/-- Table and pool of a QM_POOLCFG value lie apart and within 4 GiB (R259). -/
def poolOk (v : Nat) : Bool :=
  let tab := bits v 16 8
  let pool := bits v 8 8
  let size := bits v 0 8
  decide (tab + 1 ≤ 256) && decide (pool + size ≤ 256) && (decide (tab + 1 ≤ pool) || decide (pool + size ≤ tab))

/-- Check 8: the failing field's offset. -/
def blendCheck8 (b : List Byte) : Option Nat :=
  let p := sectionOf b 3
  let sizes := (List.range 24).map (fun q => le p (8 + q) 1)
  if bits (le p 0 4) 24 8 ≠ 0 ∨ !poolOk (le p 0 4) then some 0
  else match (List.range 24).find? (fun q => decide (23 < sizes.getD q 0)) with
    | some q => some (8 + q)
    | none =>
      if (sizes.map (fun s => 2 ^ s)).foldl (· + ·) 0 ≤ bits (le p 0 4) 0 8 * 131072 then none else some 8

/-- A DATAIMAGE lies within its space, clear of the table and the pool (check 9). -/
def dataImageOk (pool : Nat) (bs : List Byte) : Bool :=
  let o := le bs 4 4
  let e := o + (bs.length - 8)
  match le bs 0 1 with
  | 0 =>
    let t := bits pool 16 8 * 0x1000000
    let p := bits pool 8 8 * 0x1000000
    let clear := fun (lo len : Nat) => decide (e ≤ lo) || decide (lo + len ≤ o)
    decide (e ≤ 2 ^ 32) && clear t 0x1000000 && clear p (bits pool 0 8 * 0x1000000)
  | 1 => decide (e ≤ 0x200000)
  | 2 => decide (e ≤ 0x800000)
  | _ => false

/-- Check 9: the failing section. -/
def blendCheck9 (b : List Byte) : Option Nat :=
  let d := blendDir b
  let pool := le (sectionOf b 3) 0 4
  (List.range d.length).find? (fun i =>
    let s := d.getD i ⟨0, 0, 0, 0, 0⟩
    s.kind == 4 && !dataImageOk pool (sectionBytes b s))

/-- Does the signature verify under the blend verification key (R283)? -/
def blendSigned (n : Node) (b : List Byte) : Bool :=
  match keyOf n 8 with
  | some k => Config.verifySignature k (b.take (b.length - 64)) (b.drop (b.length - 64))
  | none => false

/-- Checks 1 to 9 in order (R286); the first that fails. -/
def blendFail (n : Node) (b : List Byte) (staged : Nat) : Option CheckFail :=
  if !blendCheck1 b staged then some { check := 1 }
  else if Config.romVer.toNat < le b 16 1 then some { check := 2, detail := le b 16 1 }
  else match blendCheck3 b with
  | some i => some { check := 3, detail := i }
  | none => match blendCheck4 b with
    | some i => some { check := 4, detail := i }
    | none =>
      if !blendSigned n b then some { check := 5 }
      else match loaderFail (blendPrograms b) with
      | some (k, p) => some { check := 6, mkc := k, detail := p }
      | none => match (blendRegs b).findIdx? (fun e => !regtableOk e.1) with
        | some i => some { check := 7, detail := i }
        | none => match blendCheck8 b with
          | some o => some { check := 8, detail := o }
          | none => (blendCheck9 b).map (fun i => { check := 9, detail := i })

/-- Show a failing check in CF_ERR. -/
def showCheck (n : Node) (x : Option CheckFail) : Node :=
  match x with
  | none => wr n R.CF_ERR 0#32
  | some f => wr n R.CF_ERR (fset (fset (fset 0#32 F.CF_ERR_CHECK f.check) F.CF_ERR_MKCHECK f.mkc) F.CF_ERR_DETAIL f.detail)

/-! ### CF_CMD (R287 to R291) -/

/-- End a CF_CMD operation with a RESULT. -/
def cfDone (n : Node) (result : Nat) : Node :=
  sf (sf n R.CF_CMD F.CF_CMD_RESULT result) R.CF_CMD F.CF_CMD_GO 0

/-- BUSY or ACTPEND. -/
def cfBusy (n : Node) : Bool := n.cf.staging.isSome
/-- A live activation is pending. -/
def cfPending (n : Node) : Bool := n.cf.actAt.isSome

/-- Why STAGE, COMMIT, ROLLBACK or ABORT is refused before its state is looked at (R287); none: it is not. -/
def cfRefusal (n : Node) (role : Nat) (rollback : Bool) : Option Nat :=
  if role ≠ 2 ∧ role ≠ 3 then some 2
  else if nvFailed n then some 5
  else if cfBusy n || (cfPending n && !rollback) then some 1
  else none

/-- RESULT 2 records one class G event: a write outside the sessions of R287. -/
def cfRefuse (n : Node) (result : Nat) : Node :=
  let n := if result = 2 then replaced n 9 0 R.CF_CMD else n
  if cfBusy n then sf n R.CF_CMD F.CF_CMD_RESULT result else cfDone n result

/-- PARAMPEND (R292). -/
def showParams (n : Node) : Node :=
  let j := journal n
  let cur := if j.slot j.cur = .valid then sectionOf (slotBytes n j.cur) 3 else []
  sflag n R.CF_STAT F.CF_STAT_PARAMPEND (!n.cf.params.isEmpty && !cur.isEmpty && cur != n.cf.params)

/-- STAGE (R288): the journal record, BUSY, and the copy of DRAM. -/
def cfStage (n : Node) (role : Nat) (bad : Bool) : Node :=
  match cfRefusal n role false with
  | some r => cfRefuse n r
  | none =>
    if (keyOf n 8).isNone then cfDone n 4
    else
      let j := journal n
      let (n, ok) := writeJournal n ((j.setSlot j.prev .staging).setVer j.prev 0#32) bad
      if !ok then cfDone n 5
      else
        let len := min (rd n R.CF_SRCLEN).toNat 12582912
        let n := setSlotBytes n j.prev (dramRead n (rd n R.CF_SRCOFF).toNat len)
        let n := withCf n (fun c => { c with staging := some (rd n R.CF_SRCLEN).toNat })
        let n := count (sf n R.CF_STAT F.CF_STAT_BUSY 1) (R.CF_CNT 0)
        sf (sf n R.CF_CMD F.CF_CMD_OP 1) R.CF_CMD F.CF_CMD_GO 1

/-- The copy and the checks of a STAGE end (Table CF-8).  `differs`: the caddy does not read back what was written. -/
def cfStageDone (n : Node) (bad differs : Bool) : Node :=
  match n.cf.staging with
  | none => n
  | some staged =>
    let j := journal n
    let b := slotBytes n j.prev
    let fail := (blendFail n b staged).orElse (fun _ => if differs then some { check := 10 } else none)
    let j' := if fail.isNone then (j.setSlot j.prev .staged).setVer j.prev (blendVersion b) else j.setSlot j.prev .invalid
    let (n, ok) := writeJournal n j' bad
    let n := sf (withCf n (fun c => { c with staging := none })) R.CF_STAT F.CF_STAT_BUSY 0
    let n := showCheck n fail
    if !ok then cfDone n 5
    else if fail.isNone then cfDone (sf n R.CF_EVT F.CF_EVT_STAGED 1) 0
    else cfDone (count (sf n R.CF_EVT F.CF_EVT_STAGEFAIL 1) (R.CF_CNT 1)) 3

/-- A later live activation (R290). -/
def scheduleActivation (n : Node) : Node :=
  let want := rd64 n R.CF_ACTCN_LO R.CF_ACTCN_HI % 2 ^ 48
  let least := cnWrap (cnNow n + 64)
  let late := decide (cnDiff want least < 0)
  let a := if late then least else want
  let n := if late then sf n R.CF_EVT F.CF_EVT_ACTLATE 1 else n
  let n := sf (withCf n (fun c => { c with actAt := some a })) R.CF_STAT F.CF_STAT_ACTPEND 1
  wr64 n R.CF_ACTCN_LO R.CF_ACTCN_HI a

/-- A commit or rollback is committed (R289, R290). -/
def cfSwapped (n : Node) (old new : BitVec 32) (live : Bool) : Node :=
  let n := recordCode n .g 9 0 0x3FF R.CF_STAT (leBytes 4 new.toNat ++ leBytes 4 old.toNat)
  let n := showParams n
  let n := if live && gf n R.CF_STAT F.CF_STAT_NOBLEND == 0 then scheduleActivation n else n
  cfDone n 0

/-- COMMIT (R289, R290, Table CF-8). -/
def cfCommit (n : Node) (role : Nat) (live bad : Bool) : Node :=
  match cfRefusal n role false with
  | some r => cfRefuse n r
  | none =>
    let j := journal n
    if j.slot j.prev ≠ .staged then cfDone n 4
    else
      let (n, ok) := writeJournal n { j.setSlot j.prev .valid with cur := j.prev } bad
      if !ok then cfDone n 5
      else cfSwapped (count (sf n R.CF_EVT F.CF_EVT_COMMIT 1) (R.CF_CNT 2)) (j.ver j.cur) (j.ver j.prev) live

/-- ROLLBACK (R289, R291, Table CF-8). -/
def cfRollback (n : Node) (role : Nat) (live bad : Bool) : Node :=
  match cfRefusal n role true with
  | some r => cfRefuse n r
  | none =>
    let j := journal n
    if j.slot j.prev ≠ .valid then cfDone n 4
    else
      let cancel := cfPending n
      let (n, ok) := writeJournal n { j with cur := j.prev } bad
      if !ok then cfDone n 5
      else
        let n := if cancel then sf (withCf n (fun c => { c with actAt := none })) R.CF_STAT F.CF_STAT_ACTPEND 0 else n
        cfSwapped (count (sf n R.CF_EVT F.CF_EVT_ROLLBACK 1) (R.CF_CNT 3)) (j.ver j.cur) (j.ver j.prev) (live && !cancel)

/-- ABORT (Table CF-8). -/
def cfAbort (n : Node) (role : Nat) (bad : Bool) : Node :=
  match cfRefusal n role false with
  | some r => cfRefuse n r
  | none =>
    let j := journal n
    if j.slot j.prev ≠ .staged then cfDone n 4
    else
      let (n, ok) := writeJournal n ((j.setSlot j.prev .empty).setVer j.prev 0#32) bad
      cfDone n (if ok then 0 else 5)

/-- VERIFY: both slots that hold a blend, without change (R286). -/
def cfVerify (n : Node) (role : Nat) : Node :=
  if role ≠ 2 ∧ role ≠ 3 then cfRefuse n 2
  else if nvFailed n then cfRefuse n 5
  else if cfBusy n then n
  else
    let j := journal n
    let one := fun (k : Fin 2) =>
      if j.slot k = .valid ∨ j.slot k = .staged then blendFail n (slotBytes n k) (slotBytes n k).length else none
    let fail := (one j.cur).orElse (fun _ => one j.prev)
    cfDone (showCheck n fail) (if fail.isNone then 0 else 3)

/-- A reserved OP (R287). -/
def cfReserved (n : Node) (role : Nat) : Node :=
  if role ≠ 2 ∧ role ≠ 3 then cfRefuse n 2 else cfRefuse n 4

/-- A write of CF_CMD under a role (R287).  `bad`: the journal's read-back differs three times. -/
def cfCommand (n : Node) (role : Nat) (v : BitVec 32) (bad : Bool) : Node :=
  let live := fget v F.CF_CMD_MODE == 1
  if role = 0 then protectedWrite n R.CF_CMD
  else if fget v F.CF_CMD_GO = 0 then sf (sf n R.CF_CMD F.CF_CMD_OP (fget v F.CF_CMD_OP)) R.CF_CMD F.CF_CMD_MODE (b2n live)
  else
    let n := if cfBusy n then n else sf (sf n R.CF_CMD F.CF_CMD_OP (fget v F.CF_CMD_OP)) R.CF_CMD F.CF_CMD_MODE (b2n live)
    match fget v F.CF_CMD_OP with
    | 1 => cfStage n role bad
    | 2 => cfCommit n role live bad
    | 3 => cfRollback n role live bad
    | 4 => cfAbort n role bad
    | 5 => cfVerify n role
    | _ => cfReserved n role

/-- A caddy command runs where the host interfaces are powered and no power failure is under way (R297). -/
def onCaddy (s : State) (f : Node → Node) : Host.Outcome State Fault Refusal := onNode s (fun n => if lineOn n && n.pw.failing.isNone then f n else n)

/-- A CF_CMD word. -/
def cfWord (op : Nat) (live : Bool) : BitVec 32 :=
  fset (fset (fset 0#32 F.CF_CMD_GO 1) F.CF_CMD_OP op) F.CF_CMD_MODE (b2n live)

/-- STAGE (R288) under a session role; `bad` as in R280. -/
def execBlendStage (role : Fin 5) (bad : Bool) (s : State) : Host.Outcome State Fault Refusal :=
  onCaddy s (fun n => cfCommand n role.val (cfWord 1 false) bad)
/-- STAGE_COMPLETE (R288). -/
def execStageComplete (bad differs : Bool) (s : State) : Host.Outcome State Fault Refusal :=
  onCaddy s (fun n => cfStageDone n bad differs)
/-- COMMIT (R289). -/
def execBlendCommit (role : Fin 5) (live bad : Bool) (s : State) : Host.Outcome State Fault Refusal :=
  onCaddy s (fun n => cfCommand n role.val (cfWord 2 live) bad)
/-- ROLLBACK (R291). -/
def execBlendRollback (role : Fin 5) (live bad : Bool) (s : State) : Host.Outcome State Fault Refusal :=
  onCaddy s (fun n => cfCommand n role.val (cfWord 3 live) bad)
/-- ABORT (R288). -/
def execBlendAbort (role : Fin 5) (bad : Bool) (s : State) : Host.Outcome State Fault Refusal :=
  onCaddy s (fun n => cfCommand n role.val (cfWord 4 false) bad)
/-- VERIFY (R286). -/
def execBlendVerify (role : Fin 5) (s : State) : Host.Outcome State Fault Refusal :=
  onCaddy s (fun n => cfCommand n role.val (cfWord 5 false) false)
/-- CF_RESERVED_OP (R287): OP 0, 6 or 7. -/
def execCfReservedOp (role : Fin 5) (op : Fin 8) (s : State) : Host.Outcome State Fault Refusal :=
  onCaddy s (fun n => if op.val = 0 ∨ 6 ≤ op.val then cfCommand n role.val (cfWord op.val false) false else n)

/-! ### Safety parameters (R299 to R301) -/

/-- Show CF_SPSTAT and CF_SPCHK. -/
def showSp (n : Node) : Node :=
  match n.cf.sp with
  | none => wr (wr n R.CF_SPSTAT 0#32) R.CF_SPCHK 0#32
  | some x =>
    let v := fset (fset (fset 0#32 F.CF_SPSTAT_REMAIN x.left) F.CF_SPSTAT_TRIES x.tries) F.CF_SPSTAT_STATE 1
    wr (wr n R.CF_SPSTAT v) R.CF_SPCHK x.check

/-- Hexadecimal digits of a number. -/
def hexDigits (k v : Nat) : List Byte :=
  ((List.range k).map (fun i =>
    let d := v / 16 ^ (k - 1 - i) % 16
    BitVec.ofNat 8 (if d < 10 then 48 + d else 55 + d)))

/-- SETPEND under a role (R300). -/
def spSetPend (n : Node) (role : Nat) : Node :=
  if role = 0 then protectedWrite n R.CF_SPCMD
  else if role ≠ 4 then otherEvent n .g 9 0 R.CF_SPCMD
  else
    let bs := (List.range 15).flatMap (fun k => leBytes 4 (rd n (R.CF_SPDATA k)).toNat)
    let c := crc32c bs
    let n := withCf n (fun x => { x with sp := some ⟨bs, c, 600, 0⟩, secTick := 8000 })
    let n := emit n (.bytes (ascii "SAFETY BLOCK PENDING CHECK " ++ hexDigits 8 c.toNat))
    showSp (sf n R.CF_EVT F.CF_EVT_SPPEND 1)

/-- SAFETY_BLOCK_SETPEND (R300). -/
def execSafetyBlockSetpend (role : Fin 5) (s : State) : Host.Outcome State Fault Refusal := onCaddy s (fun n => spSetPend n role.val)

/-- The pending block is discarded (R301). -/
def spReject (n : Node) : Node :=
  match n.cf.sp with
  | none => n
  | some x =>
    let n := showSp (withCf n (fun c => { c with sp := none }))
    raise (count n (R.CF_CNT 7)) .s 9 0 R.CF_EVT F.CF_EVT_SPREJ (leBytes 4 (le x.bytes 0 4) ++ leBytes 4 x.check.toNat)

/-- SAFETY_BLOCK_EXPIRY (R301): 600 s have passed. -/
def execSafetyBlockExpiry (s : State) : Host.Outcome State Fault Refusal := onCaddy s (fun n => if n.cf.sp.elim false (fun x => x.left == 0) then spReject n else n)

/-- Confirmation of the pending block (R301): the copy not in force, the journal, PX, and the event. -/
def spConfirm (n : Node) (bad : Bool) : Node :=
  match n.cf.sp with
  | none => n
  | some x =>
    let j := journal n
    let block := x.bytes ++ leBytes 4 x.check.toNat
    let (n, ok) := writeJournal n { j with spSelB := !j.spSelB, spValid := true, spChk := x.check } (bad || nvFailed n)
    if !ok then n
    else
      let n := withCf n (fun c => if j.spSelB then { c with spa := block } else { c with spb := block })
      let n := showSp (withCf n (fun c => { c with sp := none, deliver := some block }))
      raise (count n (R.CF_CNT 6)) .s 9 0 R.CF_EVT F.CF_EVT_SPCONF (leBytes 4 (le x.bytes 0 4) ++ leBytes 4 x.check.toNat)

/-- An entry of 8 digits at the console against the pending block (R301). -/
def spEntry (n : Node) (v : BitVec 32) (bad : Bool) : Node :=
  match n.cf.sp with
  | none => n
  | some x =>
    if v = x.check then spConfirm n bad
    else if 2 ≤ x.tries then spReject n
    else showSp (withCf n (fun c => { c with sp := some { x with tries := x.tries + 1 } }))

end Sys2Proof.Machine
end

