-- ==== Sys2Proof/Machine/Epoch.lean ====
section
/-! DEFINITION. Epochs: keys (R88, R338, R339), roles (R55, R57), the renumbering and the change of epoch
(R94, R107), shared by inauguration, merging and late adoption. -/

namespace Sys2Proof.Machine

/-! ### Keys -/

/-- The admission key KA (R338). -/
def admissionKey (kt : List Byte) : List Byte := Config.hmac kt (ascii "VT84ADMIT")

/-- The train key KE of one epoch (R338). -/
def epochKeyOf (kt : List Byte) (tdom epoch : Nat) : EpochKey :=
  ⟨tdom, epoch, Config.hmac kt (ascii "VT84EPOCH" ++ beBytes 8 tdom ++ beBytes 2 epoch)⟩

/-- SE_TKSTAT: VALID, EPOCH and PREV follow the keys held. -/
def showKeys (n : Node) : Node :=
  let n := sflag n R.SE_TKSTAT F.SE_TKSTAT_VALID n.line.key.isSome
  let n := sf n R.SE_TKSTAT F.SE_TKSTAT_EPOCH (n.line.key.elim 0 (·.epoch))
  sflag n R.SE_TKSTAT F.SE_TKSTAT_PREV n.line.prevKey.isSome

/-- Set the key in force, delivered to the line dies and PX while CX runs (R21, R88). -/
def setKey (n : Node) (k : Option EpochKey) : Node :=
  showKeys { n with line := { n.line with key := k, pxKey := if cxAlive n then k else n.line.pxKey } }

/-- EPOCH_KEY_DERIVE: derive the key of an epoch named in a PREPARE or COMMIT (R338). -/
def deriveKey (n : Node) (tdom epoch : Nat) : Node :=
  match n.line.kt with
  | none => n
  | some kt =>
    let k := epochKeyOf kt tdom epoch
    { n with line := { n.line with nextKeys := k :: n.line.nextKeys.filter (fun x => x.epoch != epoch || x.tdom != tdom) } }

/-- The key of a new epoch comes into force; the old one is kept until 64 cycles after the commit cycle (R88). -/
def switchKey (n : Node) (tdom epoch commitCn : Nat) : Node :=
  let k := (n.line.nextKeys.find? (fun x => x.epoch == epoch && x.tdom == tdom)).orElse
    (fun _ => n.line.kt.map (fun kt => epochKeyOf kt tdom epoch))
  let n := { n with line := { n.line with
    prevKey := n.line.key.map (fun o => (o, cnWrap (commitCn + 64))), nextKeys := [] } }
  setKey n k

/-! ### State changes of Table IN-2 -/

/-- Set IN_STAT.STATE. -/
def setInState (n : Node) (st : Nat) : Node := sf n R.IN_STAT F.IN_STAT_STATE st

/-- Set STALE (R23): its event, one class N event. -/
def setStale (n : Node) : Node :=
  if isStale n then n
  else
    let n := sf (sf n R.AC_IMGSTAT F.AC_IMGSTAT_STALE 1) R.IN_STAT F.IN_STAT_STALE 1
    let n := sf n R.IN_EVT F.IN_EVT_STALE 1
    { n with inn := { n.inn with resync := true, snap := none } }

/-- Clear STALE. -/
def clearStale (n : Node) : Node :=
  let n := sf (sf n R.AC_IMGSTAT F.AC_IMGSTAT_STALE 0) R.IN_STAT F.IN_STAT_STALE 0
  { n with inn := { n.inn with resync := false, snap := none } }

/-- Set the presentation delay in force; DCHG when it changes (R93). -/
def setDelay (n : Node) (d dmin : Nat) : Node :=
  forRange 2 (fun n c =>
    let old := gf n (R.LC_PRES c) F.LC_PRES_D
    let n := sf (sf n (R.LC_PRES c) F.LC_PRES_D d) (R.LC_PRES c) F.LC_PRES_DMIN dmin
    if old ≠ d && old ≠ 0 then lcEvt n c F.LC_EVT_DCHG else n) n

/-! ### Roles (R55, R57) -/

/-- Side of the inner port of channel c for a numbered node (R55, R57, R481). -/
def innerSide (n : Node) (c : Nat) : Nat :=
  let o := orient n
  if isNative n || c = 0 || epochNow n = 0 then o
  else if ownNumber n = 1 || ownNumber n = nodesNow n then o else 1 - o

/-- Is this node the ring-B origin (R57)? -/
def ringBOrigin (n : Node) : Bool :=
  !isNative n && epochNow n != 0 && ownNumber n != 0 && ownNumber n == nodesNow n && nodesNow n != 1

/-- Is the node segment head of channel c? -/
def isSegHead (n : Node) (c : Nat) : Bool :=
  gf n R.DU_STAT (if c = 0 then F.DU_STAT_HEADA else F.DU_STAT_HEADB) == 1

/-- The role the node has on channel c (Table LC-1). -/
def roleNow (n : Node) (c : Nat) : Nat :=
  let inner := innerPort n c
  let lone := !portPasses n inner
  if !lineOn n || !lineDieOk n c then 0
  else if isSegHead n c then (if lone then 6 else 2)
  else if isLeader n && (isNative n || c = 0 || epochNow n = 0) && cxAlive n then (if lone then 6 else 1)
  else if c = 1 && ringBOrigin n && cxAlive n then (if lone then 6 else 3)
  else if inState n < 3 then 0
  else if portPasses n (outerPort n c) then 4 else 5

/-- Show the roles of both channels. -/
def refreshRoles (n : Node) : Node := forRange 2 (fun n c => sf n (R.LC_STAT c) F.LC_STAT_ROLE (roleNow n c)) n

/-- Set the inner sides of a numbered node. -/
def refreshInner (n : Node) : Node :=
  if ownNumber n = 0 then n else forRange 2 (fun n c => sf n (R.LC_STAT c) F.LC_STAT_INNER (innerSide n c)) n

/-! ### Image renumbering (R107) -/

/-- New number of the identity that holds old number m (0: none), by the identities of the new epoch in number order. -/
def newNumber (n : Node) (ids : List Nat) (m : Nat) : Nat :=
  let u := rosterUid n m
  if m = 0 || u = 0 then 0 else (ids.idxOf? u).elim 0 (· + 1)

/-- Move the entries of one section that are indexed by node number. -/
def moveEntries (n : Node) (ids : List Nat) (base size : Nat) (fix : List Byte → List Byte) : Sparse Byte → Sparse Byte :=
  fun m => (List.range 512).foldl (fun m i =>
    let u := ids.getD i 0
    let old := if u = 0 then 0 else numberOf n u
    let bs := if old = 0 then List.replicate size 0#8 else fix (img n (base + size * (old - 1)) size)
    writeBytes m (base + size * i) bs) m

/-- Renumber the image: roster, alarm states, pair roles, and the node fields of announcements and zones (R107). -/
def renumber (n : Node) (ids : List Nat) (cn : Nat) : Node :=
  let m := n.image
  let m := moveEntries n ids imgAlarm 8 id m
  let m := moveEntries n ids imgPair 4 (fun b => overlay b 0 (leBytes 2 (newNumber n ids (le b 0 2)))) m
  let m := moveEntries n ids imgRoster 32 id m
  let m := (List.range (min ids.length 512)).foldl (fun m i =>
    let u := ids.getD i 0
    let at_ := imgRoster + 32 * i
    let m := writeBytes m at_ (leBytes 8 u ++ leBytes 2 (i + 1))
    if numberOf n u = 0 then writeBytes m (at_ + 18) (leBytes 6 cn) else m) m
  let m := (List.range 256).foldl (fun m i =>
    let at_ := imgAnn + 32 * i
    let o := imgLe n (at_ + 6) 2
    if o = 0 then m
    else if newNumber n ids o = 0 then writeBytes m at_ (List.replicate 32 0#8)
    else writeBytes m (at_ + 6) (leBytes 2 (newNumber n ids o))) m
  let m := (List.range 1024).foldl (fun m i =>
    let at_ := imgZone + 8 * i
    let o := imgLe n at_ 2
    if o = 0 then m
    else if newNumber n ids o = 0 then writeBytes m at_ (List.replicate 8 0#8)
    else writeBytes m at_ (leBytes 2 (newNumber n ids o))) m
  { n with image := m }

/-- ORIENT, LEADER and PRESENT flags of a roster entry are kept as the epoch sets them: LEADER for node 1. -/
def markLeader (n : Node) : Node :=
  forRange (min (nodesNow n) 512) (fun n i =>
    let a := rosterAt (i + 1) + 10
    let v := imgLe n a 1
    let v := v - bits v 2 1 * 4 + (if i = 0 then 4 else 0)
    setImg n a (leBytes 1 v)) n

/-- The image header (Table IN-13). -/
def writeHeader (n : Node) : Node :=
  setImg n 0 (leBytes 4 (cnNow n) ++ leBytes 4 (cnNow n / 2 ^ 32) ++ leBytes 2 (epochNow n) ++ leBytes 2 (nodesNow n)
    ++ leBytes 2 (ownNumber n) ++ leBytes 2 0 ++ leBytes 8 (imgLeader n) ++ leBytes 8 (ownTdom n)
    ++ leBytes 2 (gf n (R.LC_PRES 0) F.LC_PRES_D) ++ leBytes 2 (gf n (R.LC_PRES 0) F.LC_PRES_DMIN)
    ++ leBytes 6 (epochCn n))

/-- Step 3 of Table AC-4: the image sections whose bytes differ from those of the last boundary fire (Table MK-13). -/
def fireSections (n : Node) : Node :=
  let before := n.mil.imageSeen
  let bounds : List (Nat × Nat) := [(0, imgRoster), (imgRoster, imgAnn), (imgAnn, imgAlarm), (imgAlarm, imgPair),
    (imgPair, imgZone), (imgZone, imgSet), (imgSet, imgEnd)]
  let part := fun (m : Sparse Byte) (b : Nat × Nat) => m.filter (fun e => decide (b.1 ≤ e.1) && decide (e.1 < b.2))
  let n := (List.range 7).foldl (fun n i =>
    let b := bounds.getD i (0, 0)
    if part before b = part n.image b then n else fireUnstated n 2 (i + 1)) n
  { n with mil := { n.mil with imageSeen := n.image } }

/-! ### The collector of line log records (R278) -/

/-- The channel of line log records: in native mode B, when the roster shows that channel A does not reach the collector. -/
def collectorPath (n : Node) : Node :=
  let dest := n.qm.collector
  let own := ownNumber n
  let lo := min own dest
  let hi := max own dest
  -- channel A joins m and m + 1 when the PORTS byte of m shows its port away from node 1 forwarding on A
  let joined := fun m => bitOf (rosterPorts n m) 3 && bitOf (rosterPorts n m) 2
  let aBroken := (List.range (hi - lo - 1)).any (fun i => !joined (lo + 1 + i))
  { n with qm := { n.qm with logOnB := isNative n && dest != 0 && own != 0 && aBroken } }

/-- Resolve the collector from the roster, at each epoch: the leader, or the node QM_LOGDEST names. -/
def resolveCollector (n : Node) : Node :=
  let dest := if gf n R.QM_LOGCFG F.QM_LOGCFG_DESTSEL = 1 then numberOf n (rd64 n R.QM_LOGDEST_LO R.QM_LOGDEST_HI)
    else if hasEpoch n && nodesNow n != 0 then 1 else 0
  collectorPath { n with qm := { n.qm with collector := dest } }

/-! ### EPOCH_APPLY (R107, R108, R116) -/

/-- Apply a prepared epoch at its commit cycle, or late (R107, R108).  `ids` are the identities of the new epoch in
number order, which the spec does not say how a node learns (log entry 11). -/
def applyEpoch (n : Node) (pr : Prepared) (commitCn : Nat) (ids : List Nat) : Node :=
  let n := switchKey n pr.tdom pr.epoch commitCn
  let n := if ids.isEmpty then n else renumber n ids commitCn
  let n := sf (sf n R.IN_EPOCH F.IN_EPOCH_EPOCH pr.epoch) R.IN_EPOCH F.IN_EPOCH_NODE pr.number
  let n := wr64 n R.IN_EPOCHCN_LO R.IN_EPOCHCN_HI commitCn
  let n := sf n R.IN_STAT F.IN_STAT_NODES pr.total
  let n := sf n R.IN_STAT F.IN_STAT_ORIENT pr.orient
  let wasLeader := isLeader n
  let n := sflag n R.IN_STAT F.IN_STAT_LEADER (pr.number == 1)
  let n := if pr.number == 1 && !wasLeader then sf n R.IN_EVT F.IN_EVT_LEADER 1 else n
  let n := sf (sf n R.IN_STAT F.IN_STAT_INAUG 0) R.IN_STAT F.IN_STAT_MERGE 0
  let n := if bitOf pr.flags 3 then count (sf n R.IN_EVT F.IN_EVT_MERGE 1) (R.IN_CNT 9) else n
  let n := if bitOf pr.flags 2 then count (sf n R.IN_EVT F.IN_EVT_REJOIN 1) (R.IN_CNT 10) else n
  let n := if pr.d ≠ 0 then setDelay n pr.d pr.dmin else n
  let old := imgLeader n
  let n := if old ≠ 0 && old ≠ pr.leader && !bitOf pr.flags 3 then
      { n with inn := { n.inn with prevLeader := old, splitCn := commitCn } }
    else n
  let n := setImg n 16 (leBytes 8 pr.leader)
  let n := markLeader n
  let n := forRange 2 (fun n c => sf n (R.LC_STAT c) F.LC_STAT_EPOCHLO (pr.epoch % 256)) n
  let n := refreshInner n
  let n := count n (R.IN_CNT 0)
  let acks := n.inn.inaug.elim 0 (·.acks)
  let n := raise n .n 4 0 R.IN_EVT F.IN_EVT_EPOCH (leBytes 2 pr.epoch ++ leBytes 2 pr.number ++ leBytes 2 acks)
  let l := match n.inn.inaug with
    | some i => if i.epoch = pr.epoch then i.l else n.inn.epochL
    | none => n.inn.epochL
  let resub := n.inn.proposals.map (fun p => { p with cn := cnNow n, epoch := pr.epoch })
  let n := { n with inn := { n.inn with
    prepared := none, inaug := none, maxEpoch := pr.epoch, epochL := l, proposals := resub, plan := none
    ordered := [], lastPseq := [], roster := [], planFwd := none, acceptTx := false, yield := none, lastCouple := [] } }
  let n := resolveCollector n
  writeHeader (fireUnstated n 5 0)

/-- LATE_ADOPTION (R108): a node that missed the COMMIT adopts its PREPARE number at a CSF of the new epoch, and is
STALE. -/
def lateAdoption (n : Node) (pr : Prepared) (cn : Nat) : Node := setStale (applyEpoch n pr cn [])

/-- A CSF shows an epoch for which the node holds no number: it integrates without stepping (R108). -/
def loseNumber (n : Node) : Node :=
  let n := sf n R.IN_EPOCH F.IN_EPOCH_NODE 0
  let n := sf n R.IN_STAT F.IN_STAT_LEADER 0
  setInState n 3

end Sys2Proof.Machine
end

