-- ==== Sys2Proof/Machine/TimeBase.lean ====
section
/-! DEFINITION. The time base: counter and boundaries, delay exchanges, alignment, holdover, steps, pulse and capture
pins (spec/05_time_base.md, R131 to R156, R479). -/

namespace Sys2Proof.Machine

/-! ### Counter (R131, R133, R149) -/

/-- Change the time base. -/
def withTb (n : Node) (f : TbState → TbState) : Node := { n with tb := f n.tb }

/-- NS wraps by the counter's own ticks (R149). -/
def noteWrap (n : Node) : Node :=
  let n := wr n R.TB_WRAPCNT (rd n R.TB_WRAPCNT + 1#32)
  let n := wr64 n R.TB_WRAPCN_LO R.TB_WRAPCN_HI (cnNow n)
  sf n R.TB_EVT F.TB_EVT_WRAP 1

/-- Let `k` ticks of the time PLL pass: the counter takes k times INCR (R131). -/
def advance (n : Node) (k : Nat) : Node :=
  let sum := n.tb.counter.toNat + k * n.tb.incr.toNat
  let n' := withTb n (fun t => { t with counter := BitVec.ofNat 64 sum, ticks := t.ticks + k })
  if sum < 2 ^ 64 then n' else noteWrap n'

/-- Signed distance in 2^-32 ns of domain time `t` (ns) from the counter, modulo 2^64 (R133). -/
def distanceTo (n : Node) (t : Nat) : Int :=
  signed 64 (subMod 64 ((t % 2 ^ 32) * 2 ^ 32) n.tb.counter.toNat)

/-- Ticks until NS reaches or passes the low 32 bits of domain time `t` (R133). -/
def ticksTo (n : Node) (t : Nat) : Nat :=
  let d := distanceTo n t
  if d ≤ 0 ∨ n.tb.incr = 0#64 then 0 else ceilDiv d.toNat n.tb.incr.toNat

/-- Domain time now, in ns: the last boundary's plus what the counter has run since (R133). -/
def domainTime (n : Node) : Nat :=
  n.tb.boundaryT + subMod 64 n.tb.counter.toNat n.tb.boundary.toNat / 2 ^ 32

/-- Boundaries an RW-S write waits: the next, or the one after it within the last 200 ns (R9). -/
def shadowWait (n : Node) : Nat := if n.tb.running && decide (n.tb.boundaryT + 124800 ≤ domainTime n) then 2 else 1

/-- One tick of the time PLL, in LINE-ONLY and RUN (R131). -/
def tickTime (n : Node) : Node := if n.tb.running then advance n 1 else n

/-- What a step does on an empty queue: one tick of the time PLL (R131, log entry 29). -/
def idle (s : State) : Host.Outcome State Fault Refusal := onNode s tickTime

/-- NS_WRAP: the counter's own ticks carry NS past its end (R149). -/
def execNsWrap (s : State) : Host.Outcome State Fault Refusal :=
  onNode s (fun n =>
    if n.tb.running && n.tb.incr != 0#64 then advance n (ceilDiv (2 ^ 64 - n.tb.counter.toNat) n.tb.incr.toNat) else n)

/-! ### Stamps (R53, R54) -/

/-- An asymmetry value in 1/256 ns, from ps. -/
def asymUnits (v : Nat) : Int := signed 24 v * 256 / 1000

/-- A corrected ingress stamp (R54). -/
def stampIn (n : Node) (p : Nat) (raw : BitVec 40) : Stamp :=
  ((raw.toNat : Int) - asymUnits (ff n (R.LP_ASYMRX p) F.LP_ASYMRX_ASYM)).emod (2 ^ 40) |>.toNat

/-- A corrected egress stamp (R54). -/
def stampOut (n : Node) (p : Nat) (raw : BitVec 40) : Stamp :=
  ((raw.toNat : Int) + asymUnits (ff n (R.LP_ASYMTX p) F.LP_ASYMTX_ASYM)).emod (2 ^ 40) |>.toNat

/-- Signed difference of two stamps, modulo 2^32 ns (R136). -/
def stampDiff (a b : Stamp) : Int := signed 40 (subMod 40 a b)

/-! ### Delay exchanges (R85, R136, R137) -/

/-- A NIT frame (Table LC-15). -/
def nitFrame (n : Node) (type seq stampA stampB : Nat) : List Byte :=
  buildFrame (lineMode n) type (headerOf n type 0 (cnNow n) 0 (ownNumber n) 20 0 0)
    (beBytes 2 seq ++ beBytes 5 stampA ++ beBytes 5 stampB)

/-- DREQ_TRANSMIT: one DREQ, and one DRSP that answers the most recent DREQ received, on a forwarding port (R85).
The raw egress stamps are the command's.  The line dies of a node without its CX heartbeat send none (R138). -/
def execDreqTransmit (p : Fin 4) (dreqEgress drspEgress : BitVec 40) (s : State) : Host.Outcome State Fault Refusal :=
  onNode s (fun n =>
    let p := p.val
    if !lineOn n || !portPasses n p || !cxAlive n then n
    else
      let x := port n p
      let t1 := stampOut n p dreqEgress
      let n := sendFrame n p (nitFrame n 0x10 x.seq t1 0)
      let n := setPort n p { x with seq := (x.seq + 1) % 65536, dreqs := ((x.seq, t1) :: x.dreqs).take 4 }
      match x.rxDreq with
      | some (q, t2) => sendFrame n p (nitFrame n 0x11 q t2 (stampOut n p drspEgress))
      | none => n)

/-- The CSF that opened the stream received on port p. -/
def streamCsf (n : Node) (p : Nat) : Option Csf :=
  let c := p / 2
  if p = innerPort n c && !originates n c then (chan n c).outCsf else (chan n c).retCsf

/-- Does a NIT frame pass R64 and R66 on its stream? -/
def nitOk (n : Node) (p : Nat) (b : List Byte) : Bool :=
  decide (crcClass b = .good) &&
    (match streamCsf n p with
     | some f => fCnlo b == f.cn % 65536 && fEpochlo b == f.epoch % 256
     | none => true)

/-- DREQ_RECEIVED (R85): its SEQ and corrected ingress stamp are kept for the DRSP. -/
def execDreqReceived (p : Fin 4) (frame : List Byte) (ingress : BitVec 40) (s : State) : Host.Outcome State Fault Refusal :=
  onNode s (fun n =>
    let p := p.val
    if !lineOn n || !portPasses n p then n
    else if fType frame ≠ 0x10 then rxViolation n p
    else
      let n := countCrc n p frame
      if !nitOk n p frame then (if crcClass frame = .good then cnMismatch n (p / 2) else n)
      else setPort n p { port n p with rxDreq := some (be frame 24 2, stampIn n p ingress), delayNow := true })

/-- The rates r and q over 8 exchanges (R136): 1 until 8 exist. -/
def rates (old : List Exchange) (t3 t4 : Stamp) (n4 : Nat) : Frac × Frac :=
  match old.drop 7 with
  | e :: _ =>
    let d3 := stampDiff t3 e.t3
    let d4 := stampDiff t4 e.t4
    let dn := 512 * (n4 - e.n4)
    if d3 ≤ 0 ∨ d4 ≤ 0 ∨ dn = 0 then (⟨1, 1⟩, ⟨1, 1⟩) else (Frac.mk' d3 d4.toNat, Frac.mk' d3 dn)
  | [] => (⟨1, 1⟩, ⟨1, 1⟩)

/-- One valid exchange (R136). -/
def makeExchange (old : List Exchange) (t1 t2 t3 t4 : Stamp) (n4 : Nat) : Exchange :=
  let (r, q) := rates old t3 t4 n4
  let away := Frac.div (Frac.ofInt (stampDiff t3 t2)) r
  let d := Frac.mul (Frac.sub (Frac.ofInt (stampDiff t4 t1)) away) ⟨1, 2⟩
  let off := Frac.add (Frac.ofInt (stampDiff t3 t4)) d
  { t3 := t3, t4 := t4, n4 := n4, d := d, off := off, q := q }

/-- TB_LINKDLY[p]: the mean of d over the last 8 valid exchanges (R137). -/
def showLinkDelay (n : Node) (p : Nat) : Node :=
  let x := port n p
  let mean := (Frac.mean ((x.exch.take 8).map (·.d))).floor
  let v := clampInt 0 (2 ^ 31 - 1) mean
  let n := sf n (R.TB_LINKDLY p) F.TB_LINKDLY_NS (v.toNat / 256)
  sf n (R.TB_LINKDLY p) F.TB_LINKDLY_FRAC (v.toNat % 256)

/-- The link delay that R92, R103 and R129 use, in ns: measured, or 265 (R137). -/
def linkDelay (n : Node) (p : Nat) : Nat :=
  if gf n (R.TB_LINKDLY p) F.TB_LINKDLY_VALID = 1 then gf n (R.TB_LINKDLY p) F.TB_LINKDLY_NS else 265

/-- DRSP_RECEIVED (R136): a valid exchange carries the SEQ of one of the 4 most recent DREQs; others are counted.
The raw ingress stamp and the raw tick count at it are the command's. -/
def execDrspReceived (p : Fin 4) (frame : List Byte) (ingress : BitVec 40) (rawTicks : Nat) (s : State) :
    Host.Outcome State Fault Refusal :=
  onNode s (fun n =>
    let p := p.val
    if !lineOn n || !portPasses n p then n
    else if fType frame ≠ 0x11 then rxViolation n p
    else
      let n := countCrc n p frame
      let x := port n p
      let ok := nitOk n p frame
      let n := if ok || decide (crcClass frame ≠ .good) then n else cnMismatch n (p / 2)
      match (if ok then x.dreqs.find? (fun e => e.1 == be frame 24 2) else none) with
      | none => count n (R.TB_CNT 1)
      | some (_, t1) =>
        let e := makeExchange x.exch t1 (be frame 26 5) (be frame 31 5) (stampIn n p ingress) rawTicks
        let n := setPort n p { x with exch := (e :: x.exch).take 9, exchNow := true, delayNow := true }
        showLinkDelay (count n (R.TB_CNT 0)) p)

/-! ### Source and rate (R139, R140, R144 to R146) -/

/-- MAXPPM as used (TB_CFG). -/
def maxPpm (n : Node) : Nat :=
  let v := ff n R.TB_CFG F.TB_CFG_MAXPPM
  if 150 ≤ v ∧ v ≤ 1000 then v else 300
/-- SLEWPPM as used. -/
def slewPpm (n : Node) : Nat :=
  let v := ff n R.TB_CFG F.TB_CFG_SLEWPPM
  if 10 ≤ v ∧ v ≤ 200 then v else 100
/-- KSHIFT as used. -/
def kShift (n : Node) : Nat :=
  let v := ff n R.TB_CFG F.TB_CFG_KSHIFT
  if 1 ≤ v ∧ v ≤ 8 then v else 4

/-- Is this node the time root: the leader (R146)? -/
def isRoot (n : Node) : Bool := isLeader n && inState n == 4

/-- The candidate ports in order (R139). -/
def sourceCandidates (n : Node) : List Nat :=
  let sel := ff n R.TB_CFG F.TB_CFG_SRCSEL
  let base :=
    if ownNumber n ≠ 0 then [portOf 0 (orient n), portOf 1 (orient n)]
    else
      let a := (chan n 0).rawCsf.elim [] (fun r => [r.2.1])
      let b := if isNative n then (chan n 1).rawCsf.elim [] (fun r => [r.2.1]) else []
      a ++ b
  base.filter (fun p => if sel = 1 then p / 2 == 0 else if sel = 2 then p / 2 == 1 else true)

/-- The time source: the first candidate that forwards and carried a valid exchange in the cycle just ended (R139). -/
def timeSource (n : Node) : Option Nat := (sourceCandidates n).find? (fun p => portFwd n p && (port n p).exchNow)

/-- q_mean8 of a port (R140). -/
def qMean8 (n : Node) (p : Nat) : Frac := Frac.mean (((port n p).exch.take 8).map (·.q))

/-- A rate as an INCR: 2.0 times the fraction in 32.32 (R131). -/
def incrOf (f : Frac) : BitVec 64 := BitVec.ofNat 64 (Frac.mul f ⟨2 ^ 33, 1⟩).floor.toNat

/-- Set INCR within the limit of R132; CLAMP and its event when the limit is applied. -/
def setIncr (n : Node) (f : Frac) : Node :=
  let m := maxPpm n
  let lo : Frac := Frac.mk' (1000000 - (m : Int)) 1000000
  let hi : Frac := Frac.mk' (1000000 + (m : Int)) 1000000
  let clamped := (f.le lo && decide (f ≠ lo)) || (hi.le f && decide (f ≠ hi))
  let n := withTb n (fun t => { t with incr := incrOf (Frac.clamp lo hi f) })
  let n := sflag n R.TB_STAT F.TB_STAT_CLAMP clamped
  if clamped then count (sf n R.TB_EVT F.TB_EVT_CLAMP 1) (R.TB_CNT 6) else n

/-- RATE_CORRECTION (R140) on the source port p. -/
def rateCorrection (n : Node) (p : Nat) : Node :=
  match (port n p).exch with
  | [] => n
  | e :: _ =>
    let slew : Frac := Frac.mk' (slewPpm n) 1000000
    let corr := Frac.mul e.off (Frac.mk' 1 (256 * 125000 * 2 ^ kShift n))
    let corr := Frac.clamp ⟨-slew.num, slew.den⟩ slew corr
    let q := qMean8 n p
    let n := setIncr n (Frac.mul q (Frac.add ⟨1, 1⟩ corr))
    let n := withTb n (fun t => { t with qMean := q })
    let n := wr n R.TB_OFFSET (BitVec.ofInt 32 (saturate 32 e.off.floor))
    let n := sf n R.TB_STAT F.TB_STAT_OFFVALID 1
    wr n R.TB_RATIO (BitVec.ofInt 32 (Frac.mul (Frac.sub q ⟨1, 1⟩) ⟨1000000000, 1⟩).floor)

/-- TIME_SOURCE_CHANGE (R139). -/
def showSource (n : Node) (src : Option Nat) : Node :=
  match src with
  | some p =>
    let changed := gf n R.TB_STAT F.TB_STAT_SRCVALID == 1 && gf n R.TB_STAT F.TB_STAT_SRCPORT != p
    let n := sf (sf n R.TB_STAT F.TB_STAT_SRCVALID 1) R.TB_STAT F.TB_STAT_SRCPORT p
    if changed then count (sf n R.TB_EVT F.TB_EVT_SRCCHG 1) (R.TB_CNT 3) else n
  | none => sf (sf n R.TB_STAT F.TB_STAT_SRCVALID 0) R.TB_STAT F.TB_STAT_OFFVALID 0

/-- ALIGNED_CHANGE (R144): ALIGNED takes a value, with its event and one class N record when it changes. -/
def setAligned (n : Node) (a : Bool) : Node :=
  if gf n R.TB_STAT F.TB_STAT_ALIGNED = b2n a then n
  else
    let n := sflag n R.TB_STAT F.TB_STAT_ALIGNED a
    raise n .n 1 0 R.TB_EVT (if a then F.TB_EVT_ALIGNED else F.TB_EVT_ALIGNLOSS)

/-- The thresholds of R144 at one boundary, by the offset on the source port. -/
def alignBy (n : Node) (src : Option Nat) : Node :=
  match src.bind (fun p => (port n p).exch.head?) with
  | none => withTb n (fun t => { t with alignRun := 0 })
  | some e =>
    let a := e.off.abs
    if !a.le ⟨500 * 256, 1⟩ then setAligned (withTb n (fun t => { t with alignRun := 0 })) false
    else if a.le ⟨200 * 256, 1⟩ then
      let k := n.tb.alignRun + 1
      let n := withTb n (fun t => { t with alignRun := k })
      if 16 ≤ k then setAligned n true else n
    else withTb n (fun t => { t with alignRun := 0 })

/-- ROOT_RATE_ADJUST (R146): towards 2.0 (1 + TB_ROOTADJ 10^-9), by at most 0.01 ppm a cycle. -/
def rootAdjust (n : Node) : Node :=
  if ff n R.TB_CFG F.TB_CFG_EXTREF = 1 then
    let now := Frac.mk' n.tb.incr.toNat (2 ^ 33)
    let adj := (inForce n R.TB_ROOTADJ).toInt
    let goal := Frac.mk' (1000000000 + adj) 1000000000
    let stepSize : Frac := ⟨1, 100000000⟩
    let d := Frac.clamp ⟨-1, 100000000⟩ stepSize (Frac.sub goal now)
    setIncr n (Frac.add now d)
  else n

/-- Show TB_STAT.STATE. -/
def setTbState (n : Node) (st : Nat) : Node := sf n R.TB_STAT F.TB_STAT_STATE st

/-- Does the node hold a time domain? -/
def hasDomain (n : Node) : Bool := gf n R.TB_STAT F.TB_STAT_STEPPED == 1

/-- The time base at a boundary: source, rate, alignment, holdover exit (R139, R140, R144 to R146). -/
def timeBoundary (n : Node) : Node :=
  if !n.tb.running then n
  else if isRoot n then
    let n := setTbState (rootAdjust (showSource n none)) 5
    let n := wr n R.TB_OFFSET 0#32
    let n := withTb n (fun t => { t with noExch := 0 })
    setAligned n true
  else
    let src := timeSource n
    let n := showSource n src
    let n := alignBy n src
    let n := withTb n (fun t => { t with noExch := if src.isSome then 0 else t.noExch + 1 })
    let st := gf n R.TB_STAT F.TB_STAT_STATE
    match src with
    | some p =>
      if st = 4 && n.tb.recTdom ≠ ownTdom n then n
      else setTbState (rateCorrection n p) (if hasDomain n then 3 else 2)
    | none =>
      if st = 4 then n else setTbState n (if hasDomain n then 3 else if inState n = 3 then 2 else 1)

/-- HOLDOVER_ENTRY (R145): no candidate has carried a valid exchange for 2 cycles. -/
def execHoldoverEntry (s : State) : Host.Outcome State Fault Refusal :=
  onNode s (fun n =>
    if !hasDomain n || isRoot n || n.tb.noExch < 2 || gf n R.TB_STAT F.TB_STAT_STATE = 4 then n
    else
      let n := setTbState (setIncr n n.tb.qMean) 4
      count (raise n .n 1 0 R.TB_EVT F.TB_EVT_HOLDOVER) (R.TB_CNT 4))

/-- Missed pulses of a forward step (R155): instants inside the interval skipped are not produced. -/
def skipPulses (n : Node) (now : Nat) : Node :=
  forRange 4 (fun n i =>
    let t := look {} n.tb.tout i
    if !t.armed || now ≤ t.next || (t.fired && !t.periodic) then n
    else
      let n := sf (sf n (R.TB_TOUTSTAT i) F.TB_TOUTSTAT_MISSED 1) R.TB_EVT F.TB_EVT_TOUT 1
      if t.periodic && t.per ≠ 0 then
        withTb n (fun b => { b with tout := put {} b.tout i { t with next := t.next + t.per * ceilDiv (now - t.next) t.per } })
      else
        let n := withTb n (fun b => { b with tout := put {} b.tout i { t with armed := false } })
        sf n (R.TB_TOUTCTL i) F.TB_TOUTCTL_ARM 0) n

/-- CLOCK_STEP (R142): add `off` to the counter, set the CN by the CSF of CN `cref` whose ingress the stamp gives, and
take the record's TDOM; one class N event with the step in ns. -/
def clockStep (n : Node) (off : Frac) (stamp : Stamp) (cref tdom : Nat) : Node :=
  let units := (Frac.mul off ⟨2 ^ 24, 1⟩).floor
  let counter := BitVec.ofInt 64 ((n.tb.counter.toNat : Int) + units)
  let ns := (((stamp : Int) + off.floor) / 256).emod (2 ^ 32) |>.toNat
  let cn := cnWrap (cref + subMod 32 ns (125000 * cref) / 125000)
  let n := withTb n (fun t => { t with
    counter := counter, cn := BitVec.ofNat 48 cn, boundaryT := 125000 * cn, stepNow := true
    boundary := BitVec.ofNat 64 ((125000 * cn) % 2 ^ 32 * 2 ^ 32) })
  let n := wr64 n R.IN_TDOM_LO R.IN_TDOM_HI tdom
  let n := sf n R.TB_STAT F.TB_STAT_STEPPED 1
  let n := { n with inn := { n.inn with provisional := false } }
  let n := skipPulses n (domainTime n)
  let n := raise n .n 1 0 R.TB_EVT F.TB_EVT_STEP (leBytes 4 (unsigned 32 (saturate 32 (off.floor / 256))))
  count n (R.TB_CNT 2)

/-! ### Pulse outputs and edge capture (R154 to R156) -/

/-- Set an event bit of TB_TOUTSTAT[i], and TB_EVT.TOUT. -/
def toutEvent (n : Node) (i : Nat) (f : Field) : Node := sf (sf n (R.TB_TOUTSTAT i) f 1) R.TB_EVT F.TB_EVT_TOUT 1

/-- Set what is kept of pulse pin i. -/
def setTout (n : Node) (i : Nat) (t : Tout) : Node := withTb n (fun b => { b with tout := put {} b.tout i t })

/-- A write of ARM = 1 (R154, R155). -/
def armTout (n : Node) (i : Nat) (periodic activeLow : Bool) : Node :=
  let n := sflag (sflag n (R.TB_TOUTCTL i) F.TB_TOUTCTL_MODE periodic) (R.TB_TOUTCTL i) F.TB_TOUTCTL_POL activeLow
  let even := fun v => v - v % 2
  let off := even (rd n (R.TB_TOUTOFF i)).toNat
  let per := even (rd n (R.TB_TOUTPER i)).toNat
  let wid := even (rd n (R.TB_TOUTWID i)).toNat
  let cn := (rd n (R.TB_TOUTCN_LO i)).toNat + 2 ^ 32 * gf n (R.TB_TOUTCN_HI i) ⟨0, 16⟩
  if wid < 8 || 124998 < off || (periodic && (per < wid + 8 || per < 16)) then
    toutEvent (sf n (R.TB_TOUTCTL i) F.TB_TOUTCTL_ARM 0) i F.TB_TOUTSTAT_BADCFG
  else
    let start := 125000 * cn + off
    let now := domainTime n
    let n := sf n (R.TB_TOUTSTAT i) F.TB_TOUTSTAT_PULSES 0
    let t : Tout := { look {} n.tb.tout i with
      armed := true, periodic := periodic, activeLow := activeLow, next := start, per := per, wid := wid, fired := false }
    if now ≤ start then setTout (sf n (R.TB_TOUTCTL i) F.TB_TOUTCTL_ARM 1) i t
    else if periodic then
      let n := setTout (sf n (R.TB_TOUTCTL i) F.TB_TOUTCTL_ARM 1) i { t with next := start + per * ceilDiv (now - start) per }
      toutEvent n i F.TB_TOUTSTAT_LATE
    else toutEvent (sf n (R.TB_TOUTCTL i) F.TB_TOUTCTL_ARM 0) i F.TB_TOUTSTAT_MISSED

/-- A write of ARM = 0 ends the schedule after any pulse in progress (R154). -/
def disarmTout (n : Node) (i : Nat) : Node :=
  setTout (sf n (R.TB_TOUTCTL i) F.TB_TOUTCTL_ARM 0) i { look {} n.tb.tout i with armed := false }

/-- TOUT_ARM (R154). -/
def execToutArm (i : Fin 4) (periodic activeLow : Bool) (s : State) : Host.Outcome State Fault Refusal :=
  onNode s (fun n => armTout n i.val periodic activeLow)

/-- TOUT_DISARM (R154). -/
def execToutDisarm (i : Fin 4) (s : State) : Host.Outcome State Fault Refusal := onNode s (fun n => disarmTout n i.val)

/-- The time base reaches an instant of the cycle now running. -/
def reachTime (n : Node) (t : Nat) : Node := if domainTime n < t then advance n (ticksTo n t) else n

/-- Does an instant lie in the cycle now running, or before it? -/
def inThisCycle (n : Node) (t : Nat) : Bool := decide (t < n.tb.boundaryT + 125000)

/-- TOUT_PULSE_START (R154): its instant is reached and the pin goes active, in LINE-ONLY and RUN. -/
def execToutPulseStart (i : Fin 4) (s : State) : Host.Outcome State Fault Refusal :=
  onNode s (fun n =>
    let t := look {} n.tb.tout i.val
    if !t.armed || (t.fired && !t.periodic) || (t.active && decide (t.stop < t.next)) || !n.tb.running || !inThisCycle n t.next then n
    else
      let n := reachTime n t.next
      let n := setTout (emit n (.tout i.val (!t.activeLow))) i.val
        { t with active := true, stop := t.next + t.wid, fired := true, next := t.next + t.per }
      countField n (R.TB_TOUTSTAT i.val) F.TB_TOUTSTAT_PULSES)

/-- TOUT_PULSE_END (R154): TB_TOUTWID after its start the pin goes inactive; a one-shot pin is done. -/
def execToutPulseEnd (i : Fin 4) (s : State) : Host.Outcome State Fault Refusal :=
  onNode s (fun n =>
    let t := look {} n.tb.tout i.val
    if !t.active || !inThisCycle n t.stop then n
    else
      let n := reachTime n t.stop
      let n := setTout (emit n (.tout i.val t.activeLow)) i.val { t with active := false, armed := t.armed && (t.periodic || !t.fired) }
      if t.periodic || !t.fired then n
      else toutEvent (sf n (R.TB_TOUTCTL i.val) F.TB_TOUTCTL_ARM 0) i.val F.TB_TOUTSTAT_DONE)

/-- Set what is kept of capture pin i; FILL follows. -/
def setTcap (n : Node) (i : Nat) (t : Tcap) : Node :=
  sf (withTb n (fun b => { b with tcap := put {} b.tcap i t })) (R.TB_TCAPSTAT i) F.TB_TCAPSTAT_FILL t.fifo.length

/-- TCAP_EDGE (R156): an edge on pin i, at the NS the command gives. -/
def execTcapEdge (i : Fin 4) (rise : Bool) (ns : BitVec 32) (s : State) : Host.Outcome State Fault Refusal :=
  onNode s (fun n =>
    let i := i.val
    let sel := gf n (R.TB_TCAPCFG i) F.TB_TCAPCFG_EDGE
    let chosen := if rise then bitOf sel 0 else bitOf sel 1
    let t := look {} n.tb.tcap i
    if gf n (R.TB_TCAPCFG i) F.TB_TCAPCFG_EN = 0 || !chosen || !n.tb.running then n
    else if t.last.any (fun l => subMod 32 ns.toNat l < 16) then
      sf (sf n (R.TB_TCAPSTAT i) F.TB_TCAPSTAT_CLOSE 1) R.TB_EVT F.TB_EVT_TCAP 1
    else if 16 ≤ t.fifo.length then
      let n := countField n (R.TB_TCAPSTAT i) F.TB_TCAPSTAT_LOST
      sf (sf n (R.TB_TCAPSTAT i) F.TB_TCAPSTAT_OVF 1) R.TB_EVT F.TB_EVT_TCAP 1
    else setTcap n i { t with fifo := t.fifo ++ [⟨ns, cnNow n % 65536, rise⟩], last := some ns.toNat })

/-- The word TB_TCAP_HI shows for an entry. -/
def tcapHiWord : Option TcapEntry → BitVec 32
  | none => 0#32
  | some e => BitVec.ofNat 32 (0x80000000 + b2n e.rise * 0x40000000 + e.cnlo)

/-- A read of TB_TCAP_HI latches the oldest entry (R156). -/
def readTcapHi (n : Node) (i : Nat) : Node × BitVec 32 :=
  let t := look {} n.tb.tcap i
  (withTb n (fun b => { b with tcap := put {} b.tcap i { t with latched := t.fifo.head? } }), tcapHiWord t.fifo.head?)

/-- A read of TB_TCAP_LO returns the NS of the latched or oldest entry and removes it (R156). -/
def readTcapLo (n : Node) (i : Nat) : Node × BitVec 32 :=
  let t := look {} n.tb.tcap i
  match t.latched.orElse (fun _ => t.fifo.head?) with
  | none => (n, 0#32)
  | some e => (setTcap n i { t with fifo := t.fifo.drop 1, latched := none }, e.ns)

/-- A read of TB_INCR_LO latches TB_INCR_HI (R131). -/
def readIncrLo (n : Node) : Node × BitVec 32 :=
  (withTb n (fun t => { t with latchedIncr := (t.incr >>> 32).setWidth 32 }), n.tb.incr.setWidth 32)

/-- A read of TB_NOW_NS latches both CN registers at the same tick (R133). -/
def readNowNs (n : Node) : Node × BitVec 32 := (withTb n (fun t => { t with latchedCn := t.cn }), nowNs n)

/-- Give a read's word to the host. -/
def answerWord (r : Node × BitVec 32) : Node := emit r.1 (.word r.2)

/-- TCAP_HI_READ (R156). -/
def execTcapHiRead (i : Fin 4) (s : State) : Host.Outcome State Fault Refusal := onNode s (fun n => answerWord (readTcapHi n i.val))
/-- TCAP_LO_READ (R156). -/
def execTcapLoRead (i : Fin 4) (s : State) : Host.Outcome State Fault Refusal := onNode s (fun n => answerWord (readTcapLo n i.val))
/-- INCR_LO_READ (R131). -/
def execIncrLoRead (s : State) : Host.Outcome State Fault Refusal := onNode s (fun n => answerWord (readIncrLo n))
/-- NOW_NS_READ (R133). -/
def execNowNsRead (s : State) : Host.Outcome State Fault Refusal := onNode s (fun n => answerWord (readNowNs n))

end Sys2Proof.Machine
end

