-- ==== Sys2Proof/Machine/QueueOps.lean ====
section
/-! DEFINITION. The commands of the queue manager and of the log paths (spec/09_queues.md, R259 to R278). -/

namespace Sys2Proof.Machine

/-! ### Indirect queue operations (QM_QSEL) -/

/-- The word QM_QSEL shows after an operation. -/
def qselDone (n : Node) (q op result : Nat) : Node :=
  wr n R.QM_QSEL (fset (fset (fset 0#32 F.QM_QSEL_QNUM q) F.QM_QSEL_OP op) F.QM_QSEL_RESULT result)

/-- A refusal: RESULT and QM_EVT.REFUSED. -/
def qselRefuse (n : Node) (q op result : Nat) : Node := sf (qselDone n q op result) R.QM_EVT F.QM_EVT_REFUSED 1

/-- Show bytes in QM_QDATA. -/
def showQdata (n : Node) (bs : List Byte) : Node :=
  forRange 4 (fun n k => wr n (R.QM_QDATA k) (BitVec.ofNat 32 (le bs (4 * k) 4))) n

/-- READ (R260). -/
def qselRead (n : Node) (q : Nat) : Node := qselDone (showQdata n (desc n q).bytes) q 1 0

/-- The descriptor QM_QDATA spells (Table QM-1): CELLCFG, WEIREN and WEIR only. -/
def qdataDesc (n : Node) : Desc :=
  let w0 := (rd n (R.QM_QDATA 0)).toNat
  { base := bits w0 0 25, size := bits w0 25 5, kindCode := bits w0 30 2, kind := kindOfCode (bits w0 30 2)
    weirEn := rbit n (R.QM_QDATA 1) 24, weir := bits (rd n (R.QM_QDATA 3)).toNat 0 16 }

/-- WRITE (QM_QSEL). -/
def qselWrite (n : Node) (q : Nat) : Node :=
  let x := qdataDesc n
  let d := desc n q
  if 23 < x.size then qselRefuse n q 2 6
  else if q < 256 then qselRefuse n q 2 1
  else if poolCells n < x.base + 2 ^ x.size then qselRefuse n q 2 3
  else if d.kind = .off ∨ d.fill = 0 then qselDone (setDesc n q x) q 2 0
  else
    let same := d.base == x.base && d.size == x.size && d.kindCode == x.kindCode
    qselDone (setDesc n q { d with weirEn := x.weirEn, weir := x.weir }) q 2 (if same then 0 else 2)

/-- FLUSH. -/
def qselFlush (n : Node) (q : Nat) : Node :=
  if q < 256 then qselRefuse n q 3 1
  else qselDone (setDesc n q { desc n q with head := (desc n q).tail }) q 3 0

/-- The cell buffer. -/
def qmCell (n : Node) : List Byte := (List.range 32).flatMap (fun k => leBytes 4 (rd n (R.QM_CELL k)).toNat)

/-- Show a cell in the cell buffer. -/
def showCell (n : Node) (bs : List Byte) : Node :=
  forRange 32 (fun n k => wr n (R.QM_CELL k) (BitVec.ofNat 32 (le bs (4 * k) 4))) n

/-- PUSH (R262, R265, R270). -/
def qselPush (n : Node) (q : Nat) : Node :=
  if 16 ≤ q ∧ q ≤ 23 then qselRefuse n q 4 1
  else
    let (n, ok) := pushCell n q (qmCell n)
    qselDone n q 4 (if ok then 0 else 4)

/-- POP (R262, R268). -/
def qselPop (n : Node) (q : Nat) : Node :=
  match popCell n q with
  | (n, none) => qselDone n q 5 4
  | (n, some (cell, odd)) => qselDone (showCell n cell) q 5 (if odd then 5 else 0)

/-- LEN: the true fill (R268). -/
def qselLen (n : Node) (q : Nat) : Node :=
  qselDone (wr n R.QM_QLEN (BitVec.ofNat 32 (desc n q).fill)) q 6 0

/-- ADVANCE: remove the head entry without copying (R261, R268). -/
def qselAdvance (n : Node) (q : Nat) : Node :=
  match headEntry n q with
  | none => qselDone (popEmpty n) q 7 4
  | some h => qselDone (removeHead n q h) q 7 (if h.damaged then 5 else 0)

/-- A write of QM_QSEL. -/
def qselOp (n : Node) (v : BitVec 32) : Node :=
  let q := fget v F.QM_QSEL_QNUM
  if fget v F.QM_QSEL_GO = 0 then
    wr n R.QM_QSEL (fset (fset (rd n R.QM_QSEL) F.QM_QSEL_QNUM q) F.QM_QSEL_OP (fget v F.QM_QSEL_OP))
  else match fget v F.QM_QSEL_OP with
    | 1 => qselRead n q
    | 2 => qselWrite n q
    | 3 => qselFlush n q
    | 4 => qselPush n q
    | 5 => qselPop n q
    | 6 => qselLen n q
    | 7 => qselAdvance n q
    | _ => qselRefuse n q 0 6

/-- A queue-manager command runs where the queue manager is powered: LINE-ONLY and RUN. -/
def onQueues (s : State) (f : Node → Node) : Host.Outcome State Fault Refusal :=
  onNode s (fun n => if lineOn n then f n else n)

/-- QSEL_READ. -/
def execQselRead (q : Fin 1048576) (s : State) : Host.Outcome State Fault Refusal := onQueues s (fun n => qselRead n q.val)
/-- QSEL_WRITE. -/
def execQselWrite (q : Fin 1048576) (s : State) : Host.Outcome State Fault Refusal := onQueues s (fun n => qselWrite n q.val)
/-- QSEL_FLUSH. -/
def execQselFlush (q : Fin 1048576) (s : State) : Host.Outcome State Fault Refusal := onQueues s (fun n => qselFlush n q.val)
/-- QSEL_PUSH. -/
def execQselPush (q : Fin 1048576) (s : State) : Host.Outcome State Fault Refusal := onQueues s (fun n => qselPush n q.val)
/-- QSEL_POP. -/
def execQselPop (q : Fin 1048576) (s : State) : Host.Outcome State Fault Refusal := onQueues s (fun n => qselPop n q.val)
/-- QSEL_LEN. -/
def execQselLen (q : Fin 1048576) (s : State) : Host.Outcome State Fault Refusal := onQueues s (fun n => qselLen n q.val)
/-- QSEL_ADVANCE. -/
def execQselAdvance (q : Fin 1048576) (s : State) : Host.Outcome State Fault Refusal := onQueues s (fun n => qselAdvance n q.val)
/-- QSEL_RESERVED_OP: OP 0. -/
def execQselReservedOp (q : Fin 1048576) (s : State) : Host.Outcome State Fault Refusal := onQueues s (fun n => qselRefuse n q.val 0 6)

/-! ### Weirs (QM_WSEL) -/

/-- The word QM_WSEL shows after an operation. -/
def wselDone (n : Node) (w op : Nat) : Node := wr n R.QM_WSEL (fset (fset 0#32 F.QM_WSEL_WNUM w) F.QM_WSEL_OP op)

/-- READ (R267). -/
def wselRead (n : Node) (w : Nat) : Node :=
  let x := weir n w
  let n := wr (wr n R.QM_WRATE (BitVec.ofNat 32 x.rate)) R.QM_WBURST (BitVec.ofNat 32 x.burst)
  wselDone (wr n R.QM_WTOK (BitVec.ofInt 32 (x.tok / 256))) w 1

/-- WRITE, applied at a boundary (R269, R9). -/
def wselWrite (n : Node) (w : Nat) : Node :=
  let x := weir n w
  let burst := bits (rd n R.QM_WBURST).toNat 0 24
  wselDone (setWeir n w { x with writes := x.writes ++ [((rd n R.QM_WRATE).toNat, burst, shadowWait n)] }) w 2

/-- FORGIVE, applied at the next boundary (R269). -/
def wselForgive (n : Node) (w : Nat) : Node := wselDone (setWeir n w { weir n w with forgive := true }) w 3

/-- The reserved OP. -/
def wselReserved (n : Node) (w : Nat) : Node := sf (wselDone n w 0) R.QM_EVT F.QM_EVT_REFUSED 1

/-- A write of QM_WSEL. -/
def wselOp (n : Node) (v : BitVec 32) : Node :=
  let w := fget v F.QM_WSEL_WNUM
  if fget v F.QM_WSEL_GO = 0 then wselDone n w (fget v F.QM_WSEL_OP)
  else match fget v F.QM_WSEL_OP with
    | 1 => wselRead n w
    | 2 => wselWrite n w
    | 3 => wselForgive n w
    | _ => wselReserved n w

/-- WSEL_READ. -/
def execWselRead (w : Fin 65536) (s : State) : Host.Outcome State Fault Refusal := onQueues s (fun n => wselRead n w.val)
/-- WSEL_WRITE. -/
def execWselWrite (w : Fin 65536) (s : State) : Host.Outcome State Fault Refusal := onQueues s (fun n => wselWrite n w.val)
/-- WSEL_FORGIVE. -/
def execWselForgive (w : Fin 65536) (s : State) : Host.Outcome State Fault Refusal := onQueues s (fun n => wselForgive n w.val)
/-- WSEL_RESERVED_OP. -/
def execWselReservedOp (w : Fin 65536) (s : State) : Host.Outcome State Fault Refusal := onQueues s (fun n => wselReserved n w.val)

/-- One weir at a boundary (R267, R269). -/
def refill (x : Weir) : Weir :=
  let due := x.writes.filter (fun (e : Nat × Nat × Nat) => e.2.2 ≤ 1)
  let x := match due.getLast? with
    | some (r, b, _) => { x with rate := r, burst := b }
    | none => x
  let x := { x with writes := (x.writes.filter (fun (e : Nat × Nat × Nat) => decide (1 < e.2.2))).map (fun (e : Nat × Nat × Nat) => (e.1, e.2.1, e.2.2 - 1)) }
  let x := if x.forgive then { x with tok := max x.tok 0, forgive := false } else x
  if x.rate = 0 then x else { x with tok := min (x.tok + (x.rate : Int)) ((x.burst : Int) * 256) }

/-- WEIR_REFILL (R269): at a boundary, every weir. -/
def refillWeirs (n : Node) : Node :=
  let all := n.qm.weirs
  all.foldl (fun n e => setWeir n e.1 (refill e.2)) n

/-! ### The descriptor table (R260) -/

/-- A write into the descriptor table is ignored and counted; one class G event per cycle. -/
def tableWrite (n : Node) : Node :=
  let n := count n (R.QM_CNT 10)
  if n.qm.tabWrLogged then sf n R.QM_EVT F.QM_EVT_TABWR 1
  else raise { n with qm := { n.qm with tabWrLogged := true } } .g 8 0 R.QM_EVT F.QM_EVT_TABWR

/-- Store bytes in DRAM from outside the queue manager: bytes of the descriptor table stay (R260). -/
def storeDram (n : Node) (a : Nat) (bs : List Byte) : Node :=
  let hit := (List.range bs.length).any (fun i => inTable n (a + i))
  if !hit then dramStore n a bs
  else
    let n := (List.range bs.length).foldl (fun n i => if inTable n (a + i) then n else dramStore n (a + i) [bs.getD i 0#8]) n
    tableWrite n

/-- DESCRIPTOR_TABLE_WRITE: a write at a DRAM address. -/
def execDescriptorTableWrite (addr : BitVec 32) (s : State) : Host.Outcome State Fault Refusal :=
  onQueues s (fun n => if inTable n addr.toNat then tableWrite n else n)

/-! ### Class S records (R275) -/

/-- The queue paths of class S records: queue 16, and the line path when QM_LOGCFG.LINECLS sends the class. -/
def safetyPaths (n : Node) : List Nat := 16 :: linePaths n .s

/-- Has every path taken entry `num`? -/
def allTaken (n : Node) (num : Nat) : Bool := (safetyPaths n).all (fun q => decide (num < (logPath n q).next))

/-- An entry leaves the store before every path has taken it (R275). -/
def overwritten (n : Node) (num : Nat) : Node :=
  if allTaken n num then n else sf (count n (R.QM_CNT 9)) R.QM_EVT F.QM_EVT_SOVW 1

/-- Make room for one more entry of a kind: the safety area holds 4,096, CX SRAM 256. -/
def makeRoom (n : Node) (kept : Bool) : Node :=
  let same := n.qm.log.safety.filter (fun e => e.kept == kept)
  if same.length < (if kept then 4096 else 256) then n
  else
    let victim := if kept then same.head? else (same.find? (fun e => allTaken n e.num)).orElse (fun _ => same.head?)
    match victim with
    | some v => withLog (overwritten n v.num) { n.qm.log with safety := n.qm.log.safety.filter (fun e => e.num != v.num) }
    | none => n

/-- The caddy write of the oldest waiting class S record completes, or the record is held unpersisted (R275). -/
def persistSafety (n : Node) : Node :=
  match n.qm.log.waiting with
  | [] => n
  | w :: rest =>
    let kept := !nvFailed n
    let r := { w.record with unpersisted := !kept }
    let n := withLog n { n.qm.log with waiting := rest }
    let n := makeRoom n kept
    let l := n.qm.log
    let n := withLog n { l with safety := l.safety ++ [⟨l.safetyNum, r, kept⟩], safetyNum := l.safetyNum + 1 }
    let n := if kept then n else sf n R.QM_EVT F.QM_EVT_UNPERS 1
    let n := match w.evtReg with
      | some (a, b) => sbit n a b
      | none => n
    showRecent n r

/-- SAFETY_RECORD_PERSIST (R275). -/
def execSafetyRecordPersist (s : State) : Host.Outcome State Fault Refusal := onQueues s persistSafety

/-- The next class S record of a path, when the path has room (R275). -/
def deliverSafety (n : Node) (q : Nat) : Node :=
  let p := logPath n q
  match n.qm.log.safety.find? (fun e => decide (p.next ≤ e.num)) with
  | some e => if (desc n q).room 1 then packRecord (setLogPath n q { p with next := e.num + 1 }) q e.record else n
  | none => n

/-- SAFETY_RECORD_DELIVER (R275): to the host log queue, or to the line path. -/
def execSafetyRecordDeliver (line : Bool) (s : State) : Host.Outcome State Fault Refusal :=
  onQueues s (fun n => if line then (linePaths n .s).foldl deliverSafety n else deliverSafety n 16)

/-- HISTORY_BATCH_WRITE (R276): nothing is written while NV is FAILED. -/
def flushHistory (n : Node) : Node :=
  if nvFailed n then withLog n { n.qm.log with batch := [] }
  else
    let h := n.qm.log.history ++ n.qm.log.batch
    withLog n { n.qm.log with history := h.drop (h.length - 16384), batch := [] }

/-- HISTORY_BATCH_WRITE (R276). -/
def execHistoryBatchWrite (s : State) : Host.Outcome State Fault Refusal := onQueues s flushHistory

/-! ### Summaries (R277) -/

/-- The summary record of one count. -/
def summaryRecord (n : Node) (q : Nat) (x : Suppressed) : EventRecord :=
  { cn := n.tb.cn, code := 0xFFF0#16, ts := nowNs n, cls := x.cls, summary := true, source := 0x0008#16, node := ownNumber n
    lseq := x.firstLseq
    data := leBytes 2 x.code.toNat ++ leBytes 1 q ++ [0#8] ++ leBytes 4 x.count ++ leBytes 4 x.firstCn.toNat }

/-- Emit the summaries of a path while it has room (R277). -/
def emitSummaries (q : Nat) : List Suppressed → Node → Node
  | [], n => n
  | x :: xs, n =>
    if !(desc n q).room 1 then n
    else
      let p := logPath n q
      let n := packRecord (setLogPath n q { p with supp := p.supp.drop 1 }) q (summaryRecord n q x)
      emitSummaries q xs (sf (count n (R.QM_CNT 8)) R.QM_EVT F.QM_EVT_SUMMARY 1)

/-- SUMMARY_RECORD_EMIT (R277) on path 16 + k. -/
def execSummaryRecordEmit (k : Fin 8) (s : State) : Host.Outcome State Fault Refusal :=
  onQueues s (fun n => emitSummaries (16 + k.val) (logPath n (16 + k.val)).supp n)

/-- LOG_CELL_PUSH (R274): at a boundary, cells that hold at least one record. -/
def pushLogCells (n : Node) : Node := forRange 8 (fun n k => pushLogCell n (16 + k)) n

/-! ### Status and the recent buffer -/

/-- QM_LOGSTAT. -/
def logStatus (n : Node) : BitVec 32 :=
  let l := n.qm.log
  let supp := (l.paths.map (fun e => e.2.supp.length)).foldl max 0
  let unpers := (l.safety.filter (fun e => !e.kept)).length
  let spend := (l.safety.filter (fun e => decide ((logPath n 16).next ≤ e.num))).length
  fset (fset (fset 0#32 F.QM_LOGSTAT_SUPP supp) F.QM_LOGSTAT_UNPERS unpers) F.QM_LOGSTAT_SPEND spend

/-- A read of QM_RECENT[k]: a read of QM_RECENT[0] latches all 16 records. -/
def readRecent (n : Node) (k : Nat) : Node × BitVec 32 :=
  let n := if k = 0 then withLog n { n.qm.log with latched := n.qm.log.recent } else n
  let b := (n.qm.log.latched.map EventRecord.bytes).getD (k / 8) (List.replicate 32 0#8)
  (n, BitVec.ofNat 32 (le b (4 * (k % 8)) 4))

/-- RECENT_READ (R274). -/
def execRecentRead (k : Fin 128) (s : State) : Host.Outcome State Fault Refusal :=
  onQueues s (fun n => let (n, v) := readRecent n k.val; emit n (.word v))

end Sys2Proof.Machine
end

