-- ==== Sys2Proof/Machine/Rings.lean ====
section
/-! DEFINITION. Frame queues that software fills and empties through doorbells (R311, R312, R363, R385). -/

namespace Sys2Proof.Machine

/-- How many whole frames lie in exactly `left` cells from count `k` of a ring; none where the count ends inside a
frame or a LEN is above 16,368.  The first number bounds the recursion: every frame fills a cell. -/
def framesIn (n : Node) (d : Desc) : Nat → Nat → Nat → Option Nat
  | _, _, 0 => some 0
  | 0, _, _ + 1 => none
  | fuel + 1, k, left =>
    let len := hdrLen (dramRead n (cellAddr n d k) 16)
    let c := frameCells len
    if len > 16368 || c > left then none
    else (framesIn n d fuel ((k + c) % 2 ^ 24) (left - c)).map (· + 1)

/-- The node pushes the frames between the old and the new TAIL (R312); none where the doorbell is invalid. -/
def tailDoorbell (n : Node) (q tail : Nat) : Option Node :=
  let d := desc n q
  let adv := subMod 24 tail d.tail
  if !d.room adv then none
  else (framesIn n d adv d.tail adv).map (fun k =>
    let n := setDesc n q { d with tail := tail % 2 ^ 24 }
    let n := countBy n (R.QM_CNT 0) k
    if d.fill = 0 && decide (k > 0) then fireUnstated n 1 q else n)

/-- Remove the head entry whatever its weir says, as an ADVANCE does. -/
def removeFrames (q : Nat) : Nat → Node → Node
  | 0, n => n
  | k + 1, n =>
    let d := desc n q
    let len := hdrLen (dramRead n (cellAddr n d d.head) 16)
    let c := frameCells len
    removeFrames q k (removeHead n q ⟨c, len, false, []⟩)

/-- The node removes the frames up to a new HEAD (R312); none where the doorbell is invalid. -/
def headDoorbell (n : Node) (q head : Nat) : Option Node :=
  let d := desc n q
  let adv := subMod 24 head d.head
  if adv > d.fill || decide (d.kind ≠ .frame) then none
  else (framesIn n d adv d.head adv).map (fun k => removeFrames q k n)

/-- Empty a queue: HEAD = TAIL. -/
def emptyQueue (n : Node) (q : Nat) : Node := setDesc n q { desc n q with head := (desc n q).tail }

/-- Queue number a QUEUE field gives: below 256, none (R363, R385). -/
def namedQueue (v : Nat) : Option Nat := if v < 256 then none else some v

end Sys2Proof.Machine
end

