-- ==== Sys2Proof/Machine/Ether.lean ====
section
/-! DEFINITION. The Ethernet MACs (spec/14_ethernet.md, R358 to R372).  Receiving and sending of a frame is one
command each; the operands carry what only the medium decides: the bytes, code errors, reassembly, the instant. -/

namespace Sys2Proof.Machine

/-- What the node keeps for MAC m. -/
def mac (n : Node) (m : Nat) : Mac := look {} n.em m

/-- Set it. -/
def setMac (n : Node) (m : Nat) (x : Mac) : Node := { n with em := put {} n.em m x }

/-- Count in EM_CNT[m][k]. -/
def emCount (n : Node) (m k : Nat) : Node := count n (R.EM_CNT m k)

/-- Set an event bit of EM_MACEVT[m]. -/
def macEvt (n : Node) (m : Nat) (f : Field) : Node := sf n (R.EM_MACEVT m) f 1

/-- MAC m runs: RUN, the heartbeat of CX, and EN in force (R359). -/
def macOn (n : Node) (m : Nat) : Bool := isRun n && cxAlive n && ff n (R.EM_MACCFG m) F.EM_MACCFG_EN == 1

/-- The link of MAC m is up. -/
def macLink (n : Node) (m : Nat) : Bool := gf n (R.EM_MACSTAT m) F.EM_MACSTAT_LINK == 1

/-- Is a MAXLEN value one of 60 to 9,600? -/
def maxlenOk (v : Nat) : Bool := decide (60 ≤ v) && decide (v ≤ 9600)

/-- MAXLEN; values outside 60 to 9,600 are treated as 1,518. -/
def maxlen (n : Node) (m : Nat) : Nat :=
  let v := ff n (R.EM_MACCFG m) F.EM_MACCFG_MAXLEN
  if maxlenOk v then v else 1518

/-- IF in force: 2 on MACs 0 to 3, and 3, are treated as 0. -/
def macIf (n : Node) (m : Nat) : Nat :=
  let v := ff n (R.EM_MACCFG m) F.EM_MACCFG_IF
  if v = 3 ∨ (v = 2 ∧ m < 4) then 0 else v

/-- Does Table EM-1 allow a speed code on MAC m under an IF? -/
def speedOk (m iface speed : Nat) : Bool :=
  if m < 4 then decide (speed ≤ 2)
  else if iface = 2 then decide (speed = 5) else decide (3 ≤ speed) && decide (speed ≤ 5)

/-! ### Stamps (R369, R370) -/

/-- Low 16 bits of the CN of a 32-bit stamp near the local CN (R149). -/
def stampCnlo (n : Node) (ts : BitVec 32) : Nat :=
  let base := 125000 * cnNow n
  let d := signed 32 (subMod 32 ts.toNat base)
  ((((base : Int) + d) / 125000) % 65536).toNat

/-- TSDOM: TB_STAT.STATE is LOCKED, HOLDOVER or ROOT, and the cycle is not that of a step (R370). -/
def tsdom (n : Node) : Bool := decide (3 ≤ gf n R.TB_STAT F.TB_STAT_STATE) && !n.tb.stepNow

/-- A stamp with a signed latency in ns added. -/
def withLatency (ts : BitVec 32) (lat : Int) : BitVec 32 := ts + BitVec.ofInt 32 lat

/-! ### Receiving (R360 to R362, R368) -/

/-- Byte i of a frame. -/
def fbyte (b : List Byte) (i : Nat) : Nat := (b.getD i 0#8).toNat

/-- The frame check sequence: the IEEE 802.3 CRC-32, least significant byte first (PRESUMED of IEEE 802.3, log entry 22). -/
def etherFcs (body : List Byte) : List Byte := leBytes 4 (crc32 body).toNat

/-- Received bytes without the FCS. -/
def etherBody (b : List Byte) : List Byte := b.take (b.length - 4)

/-- Is the FCS good? -/
def etherFcsOk (b : List Byte) : Bool := decide (4 ≤ b.length) && b.drop (b.length - 4) == etherFcs (etherBody b)

/-- EtherType of an untagged frame. -/
def etherType (b : List Byte) : Nat := fbyte b 12 * 256 + fbyte b 13

/-- The frame begins with a VLAN tag (IEEE 802.1Q customer or service tag, log entry 22). -/
def hasVlan (b : List Byte) : Bool := decide (16 ≤ b.length) && (etherType b == 0x8100 || etherType b == 0x88A8)

/-- PCP of the first VLAN tag; untagged 0 (R360). -/
def framePcp (b : List Byte) : Nat := if hasVlan b then fbyte b 14 / 32 else 0

/-- Destination address EM_ADDR names: byte 0 first. -/
def macAddr (n : Node) (m : Nat) : Nat :=
  ff n (R.EM_ADDR_HI m) F.EM_ADDR_HI_VALUE * 2 ^ 32 + ff n (R.EM_ADDR_LO m) F.EM_ADDR_LO_VALUE

/-- Does MAC m accept a destination address (R360)? -/
def accepts (n : Node) (m : Nat) (b : List Byte) : Bool :=
  let da := be b 0 6
  let cfg (f : Field) : Bool := ff n (R.EM_MACCFG m) f == 1
  let hash := bits (crc32 (cut b 0 6)).toNat 26 6
  let hashed := bitOf ((inForce n (R.EM_MCHASH_LO m)).toNat + 2 ^ 32 * (inForce n (R.EM_MCHASH_HI m)).toNat) hash
  let broadcast := da == 2 ^ 48 - 1
  let multicast := bitOf (fbyte b 0) 0 && !broadcast
  da == macAddr n m || (broadcast && !cfg F.EM_MACCFG_BCREJ)
    || (multicast && (cfg F.EM_MACCFG_MCALL || hashed)) || cfg F.EM_MACCFG_PROMISC

/-- Deliver an accepted frame to its receive queue (R360, R361). -/
def deliverEther (n : Node) (m : Nat) (b : List Byte) (flags : Nat) (ts : BitVec 32) : Node :=
  let pcp := framePcp b
  let k := bits (inForce n (R.EM_PCPMAP m)).toNat (2 * pcp) 2
  match namedQueue (ff n (R.EM_RXQ m k) F.EM_RXQ_QUEUE) with
  | none => emCount n m 6
  | some q =>
    if gf n (R.EM_MACSTAT m) ⟨20 + k, 1⟩ = 1 then n
    else
      let len := min b.length (maxlen n m)
      let aux := b2n (tsdom n) * 2 ^ 31 + pcp * 2 ^ 28 + k * 2 ^ 26
      let (n, ok) := pushFrame n q { len := len, fflags := flags, ts := ts.toNat, cnlo := stampCnlo n ts, port := m, aux := aux } b
      if ok then n else macEvt (emCount n m 5) m F.EM_MACEVT_RXDROP

/-- A received pause frame with a good FCS (R367, R368). -/
def pauseReceived (n : Node) (m quanta : Nat) : Node :=
  if ff n (R.EM_MACCFG m) F.EM_MACCFG_RXPAUSE = 0 then emCount n m 8
  else sflag (macEvt (emCount n m 7) m F.EM_MACEVT_PAUSE) (R.EM_MACSTAT m) F.EM_MACSTAT_PAUSED (quanta != 0)

/-- A received MAC control frame with a good FCS: opcode 1 is pause (IEEE 802.3 Annex 31B, log entry 22). -/
def controlReceived (n : Node) (m : Nat) (b : List Byte) : Node :=
  if be b 14 2 = 1 then pauseReceived n m (be b 16 2) else emCount n m 8

/-- A received frame: counted, checked, filtered and delivered. -/
def etherReceived (n : Node) (m : Nat) (frame : List Byte) (codeErr reasm preemptable : Bool) (raw : BitVec 32) : Node :=
  let b := etherBody frame
  let fcsErr := !etherFcsOk frame
  let runt := decide (b.length < 60)
  let bad := fcsErr || codeErr || runt || reasm
  let n := countBy n (R.EM_CNT m 1) frame.length
  let n := doIf (!bad) (fun n => emCount n m 0) n
  let n := doIf fcsErr (fun n => emCount n m 2) n
  let n := doIf codeErr (fun n => emCount n m 3) n
  let n := doIf runt (fun n => emCount n m 3) n
  let n := doIf reasm (fun n => macEvt (emCount n m 11) m F.EM_MACEVT_REASM) n
  let long := decide (b.length > maxlen n m)
  let n := doIf long (fun n => emCount n m 4) n
  let keep := ff n (R.EM_MACCFG m) F.EM_MACCFG_KEEPBAD == 1
  if decide (b.length < 14) || (bad && !keep) then n
  else if etherType b = 0x8808 then (if bad then n else controlReceived n m b)
  else if !accepts n m b then emCount n m 6
  else
    let flags := b2n bad + 2 * b2n long + 2 ^ 8 * b2n fcsErr + 2 ^ 9 * b2n codeErr + 2 ^ 10 * b2n runt
      + 2 ^ 11 * b2n reasm + 2 ^ 12 * b2n preemptable + 2 ^ 13 * b2n (hasVlan b)
    deliverEther n m b flags (withLatency raw (signed 16 (ff n (R.EM_LAT m) F.EM_LAT_RXLAT)))

/-- EM_FRAME_RECEIVED: the bytes from the destination address to the FCS, what the PCS and the reassembly found, and
the ingress time in ns at the PCS. -/
def execEmFrameReceived (m : Fin 6) (frame : List Byte) (codeErr reasm preemptable : Bool) (ingress : BitVec 32)
    (s : State) : Host.Outcome State Fault Refusal :=
  onNode s (fun n => if macOn n m.val && macLink n m.val then etherReceived n m.val frame codeErr reasm preemptable ingress else n)

/-- PAUSE_RECEIVED: a pause frame with a good FCS and its pause_time. -/
def execPauseReceived (m : Fin 6) (quanta : BitVec 16) (s : State) : Host.Outcome State Fault Refusal :=
  onNode s (fun n => if macOn n m.val && macLink n m.val then pauseReceived n m.val quanta.toNat else n)

/-- PAUSE_EXPIRY (R367). -/
def execPauseExpiry (m : Fin 6) (s : State) : Host.Outcome State Fault Refusal :=
  onNode s (fun n => sf n (R.EM_MACSTAT m.val) F.EM_MACSTAT_PAUSED 0)

/-- CONTROL_FRAME_RECEIVED: a MAC control frame that is not a pause frame (R368). -/
def execControlFrameReceived (m : Fin 6) (s : State) : Host.Outcome State Fault Refusal :=
  onNode s (fun n => if macOn n m.val && macLink n m.val then emCount n m.val 8 else n)

/-! ### Transmitting (R363, R364, R365) -/

/-- A completion record (Table EM-4). -/
def emRecord (tag ts cnlo m tstat flags : Nat) : List Byte :=
  leBytes 4 tag ++ leBytes 4 ts ++ leBytes 2 cnlo ++ leBytes 1 m ++ leBytes 1 tstat ++ leBytes 1 flags ++ leBytes 3 0

/-- Unused record positions: TSTAT 0xFF, the other bytes free (log entry 2). -/
def padDone : Nat → Node → List Byte → Node × List Byte
  | 0, n, bs => (n, bs)
  | k + 1, n, bs =>
    let (a, n) := freshWord n
    let (b, n) := freshWord n
    padDone k n (bs ++ leBytes 8 a.toNat ++ leBytes 3 b.toNat ++ [0xFF#8] ++ leBytes 4 (b.toNat / 2 ^ 24))

/-- Push the packed completion records of MAC m as one cell (R364). -/
def pushDone (n : Node) (m : Nat) : Node :=
  let x := mac n m
  match namedQueue (ff n (R.EM_TXCQ m) F.EM_TXCQ_QUEUE) with
  | none => setMac n m { x with done := [] }
  | some q =>
    if x.done.isEmpty then n
    else
      let (n, bs) := padDone (8 - x.done.length) n x.done.flatten
      (pushCell (setMac n m { x with done := [] }) q bs).1

/-- Pack a completion record, where EM_TXCQ names a queue; push the cell when it is full (R364). -/
def completeEther (n : Node) (m : Nat) (r : List Byte) : Node :=
  if (namedQueue (ff n (R.EM_TXCQ m) F.EM_TXCQ_QUEUE)).isNone then n
  else
    let x := mac n m
    let n := setMac n m { x with done := x.done ++ [r] }
    if x.done.length + 1 ≥ 8 then pushDone n m else n

/-- Is transmit queue k of MAC m stopped by a doorbell (R363)? -/
def txStopped (n : Node) (m k : Nat) : Bool := gf n (R.EM_MACSTAT m) ⟨18 + k, 1⟩ == 1

/-- The queue EM_TXQ[k] names, where its head can be taken. -/
def txReady (n : Node) (m k : Nat) : Option Nat :=
  match namedQueue (ff n (R.EM_TXQ m k) F.EM_TXQ_QUEUE) with
  | none => none
  | some q => if !txStopped n m k && (headEntry n q).isSome && decide ((desc n q).kind = .frame) then some q else none

/-- The transmit queue served next: EM_TXQ[0] before EM_TXQ[1] (R365). -/
def nextTx (n : Node) (m : Nat) : Option (Nat × Nat) :=
  match txReady n m 0 with
  | some q => some (0, q)
  | none => (txReady n m 1).map (fun q => (1, q))

/-- Preemption is active (R365). -/
def preempting (n : Node) (m : Nat) : Bool := gf n (R.EM_MACSTAT m) F.EM_MACSTAT_PACTIVE == 1

/-- Fragments a preemptable frame of `len` bytes with its FCS can fill: a non-final fragment has at least
64 (1 + ADDFRAG) bytes with its mCRC (R365). -/
def maxFragments (n : Node) (m len : Nat) : Nat := len / (64 * (1 + ff n (R.EM_PREEMPT m) F.EM_PREEMPT_ADDFRAG) - 4)

/-- A frame removed and not sent (R364). -/
def removedEther (n : Node) (m cnt tstat tag : Nat) : Node :=
  completeEther (macEvt (emCount n m cnt) m F.EM_MACEVT_TXREMOVED) m (emRecord tag 0 0 m tstat 0)

/-- Send one frame. -/
def sendEther (n : Node) (m k : Nat) (h : FrameHeader) (payload : List Byte) (raw : BitVec 32) (frags : Nat) : Node :=
  let own := bitOf h.fflags 9
  let body := if own then payload else cut payload 0 (max 60 payload.length)
  let wire := if own then body else body ++ etherFcs body
  let f := if k = 1 ∧ preempting n m then max 1 (min frags (maxFragments n m wire.length)) else 1
  let n := emit n (.ether m wire)
  let n := countBy (emCount n m 9) (R.EM_CNT m 15) wire.length
  let n := if f > 1 then countBy n (R.EM_CNT m 10) f else n
  let ts := withLatency raw (-(signed 16 (ff n (R.EM_LAT m) F.EM_LAT_TXLAT)))
  if bitOf h.fflags 8 then
    completeEther n m (emRecord h.aux ts.toNat (stampCnlo n ts) m 0 (b2n (tsdom n) + 2 * b2n (decide (f > 1))))
  else n

/-- MAC m takes the head frame of the transmit queue it serves next (R364). -/
def transmitEther (n : Node) (m : Nat) (raw : BitVec 32) (frags : Nat) : Node :=
  match nextTx n m with
  | none => n
  | some (k, q) =>
    match popFrame n q with
    | (n, none) => n
    | (n, some (h, payload)) =>
      if h.len > maxlen n m + 4 * b2n (bitOf h.fflags 9) then removedEther n m 13 1 h.aux
      else if !macLink n m then removedEther n m 14 2 h.aux
      else sendEther n m k h payload raw frags

/-- EM_FRAME_TRANSMIT: the egress time in ns at the PCS, and in how many fragments a preemptable frame left.  A paused
transmitter starts nothing (R367); without a link the head frame is removed (R364). -/
def execEmFrameTransmit (m : Fin 6) (egress : BitVec 32) (fragments : BitVec 8) (s : State) : Host.Outcome State Fault Refusal :=
  onNode s (fun n =>
    if macOn n m.val && (!macLink n m.val || gf n (R.EM_MACSTAT m.val) F.EM_MACSTAT_PAUSED == 0)
    then transmitEther n m.val egress fragments.toNat else n)

/-- An invalid doorbell (R363): bit `i` of QERR. -/
def qerr (n : Node) (m i : Nat) : Node := macEvt (sf n (R.EM_MACSTAT m) ⟨18 + i, 1⟩ 1) m F.EM_MACEVT_QERR

/-- A write of EM_TXDB[m][k] (R363, R312). -/
def emTxDoorbell (n : Node) (m k tail : Nat) : Node :=
  let n := sf n (R.EM_TXDB m k) F.EM_TXDB_COUNT tail
  match namedQueue (ff n (R.EM_TXQ m k) F.EM_TXQ_QUEUE) with
  | none => n
  | some q => if txStopped n m k then n else (tailDoorbell n q tail).getD (qerr n m k)

/-- EM_TX_DOORBELL. -/
def execEmTxDoorbell (m : Fin 6) (k : Fin 2) (tail : BitVec 24) (s : State) : Host.Outcome State Fault Refusal :=
  onNode s (fun n => if isRun n && cxAlive n then emTxDoorbell n m.val k.val tail.toNat else n)

/-- A write of EM_RXDB[m][k] (R363, R312). -/
def emRxDoorbell (n : Node) (m k head : Nat) : Node :=
  let n := sf n (R.EM_RXDB m k) F.EM_RXDB_COUNT head
  match namedQueue (ff n (R.EM_RXQ m k) F.EM_RXQ_QUEUE) with
  | none => n
  | some q => if gf n (R.EM_MACSTAT m) ⟨20 + k, 1⟩ = 1 then n else (headDoorbell n q head).getD (qerr n m (2 + k))

/-- EM_RX_DOORBELL. -/
def execEmRxDoorbell (m : Fin 6) (k : Fin 4) (head : BitVec 24) (s : State) : Host.Outcome State Fault Refusal :=
  onNode s (fun n => if isRun n && cxAlive n then emRxDoorbell n m.val k.val head.toNat else n)

/-- A write of EM_QCTL[m]: bits 0 and 1 flush EM_TXQ, bits 2 to 5 EM_RXQ (R363). -/
def emQctl (n : Node) (m flush : Nat) : Node :=
  forRange 6 (fun n i =>
    if !bitOf flush i then n
    else
      let a := if i < 2 then R.EM_TXQ m i else R.EM_RXQ m (i - 2)
      let n := sf n (R.EM_MACSTAT m) ⟨18 + i, 1⟩ 0
      match namedQueue (ff n a F.EM_TXQ_QUEUE) with
      | none => n
      | some q => emptyQueue n q) n

/-- EM_QUEUE_FLUSH. -/
def execEmQueueFlush (m : Fin 6) (flush : BitVec 6) (s : State) : Host.Outcome State Fault Refusal :=
  onNode s (fun n => if isRun n && cxAlive n then emQctl n m.val flush.toNat else n)

/-! ### Link and verification (R365, R366) -/

/-- Show VERIFY, and PACTIVE with it: active while EN = 1 and verification has succeeded or DISVERIFY = 1 (R365). -/
def setVerify (n : Node) (m v : Nat) : Node :=
  sflag (sf n (R.EM_MACSTAT m) F.EM_MACSTAT_VERIFY v) (R.EM_MACSTAT m) F.EM_MACSTAT_PACTIVE (v == 3 || v == 5)

/-- Start of verification: verifying while the link is up, waiting for it otherwise (R366). -/
def startVerify (n : Node) (m : Nat) : Node :=
  setVerify (setMac n m { mac n m with verifySent := 0 }) m (if macLink n m then 2 else 1)

/-- EM_PREEMPT in force has been latched: EN and DISVERIFY choose the state; EN becoming 1, or written 1 after a
failure, starts verification (R366). -/
def latchPreempt (n : Node) (m : Nat) : Node :=
  let st := gf n (R.EM_MACSTAT m) F.EM_MACSTAT_VERIFY
  if ff n (R.EM_PREEMPT m) F.EM_PREEMPT_EN = 0 then setVerify n m 0
  else if ff n (R.EM_PREEMPT m) F.EM_PREEMPT_DISVERIFY = 1 then setVerify n m 5
  else if st = 0 ∨ st = 4 ∨ st = 5 then startVerify n m else n

/-- The link of MAC m comes up at a speed. -/
def macLinkUp (n : Node) (m speed : Nat) : Node :=
  let n := sf (sf n (R.EM_MACSTAT m) F.EM_MACSTAT_LINK 1) (R.EM_MACSTAT m) F.EM_MACSTAT_SPEED speed
  let n := macEvt n m F.EM_MACEVT_LINKUP
  if ff n (R.EM_PREEMPT m) F.EM_PREEMPT_EN = 1 ∧ ff n (R.EM_PREEMPT m) F.EM_PREEMPT_DISVERIFY = 0 then startVerify n m else n

/-- EM_LINK_UP: the speed negotiated; with IF 1 the fixed SPEED, with IF 2 10 Gbit/s.  A speed that Table EM-1 does
not allow leaves the link down. -/
def execEmLinkUp (m : Fin 6) (speed : Fin 8) (s : State) : Host.Outcome State Fault Refusal :=
  onNode s (fun n =>
    let i := macIf n m.val
    let sp := if i = 1 then ff n (R.EM_MACCFG m.val) F.EM_MACCFG_SPEED else if i = 2 then 5 else speed.val
    if macOn n m.val && !macLink n m.val && speedOk m.val i sp then macLinkUp n m.val sp else n)

/-- The link of MAC m goes down. -/
def macLinkDown (n : Node) (m : Nat) : Node :=
  let n := sf (sf n (R.EM_MACSTAT m) F.EM_MACSTAT_LINK 0) (R.EM_MACSTAT m) F.EM_MACSTAT_SPEED 0
  let n := macEvt (sf n (R.EM_MACSTAT m) F.EM_MACSTAT_PAUSED 0) m F.EM_MACEVT_LINKDOWN
  if ff n (R.EM_PREEMPT m) F.EM_PREEMPT_EN = 1 ∧ ff n (R.EM_PREEMPT m) F.EM_PREEMPT_DISVERIFY = 0 then startVerify n m else n

/-- EM_LINK_DOWN. -/
def execEmLinkDown (m : Fin 6) (s : State) : Host.Outcome State Fault Refusal :=
  onNode s (fun n => if macOn n m.val && macLink n m.val then macLinkDown n m.val else n)

/-- Is MAC m verifying? -/
def verifying (n : Node) (m : Nat) : Bool := macOn n m && gf n (R.EM_MACSTAT m) F.EM_MACSTAT_VERIFY == 2

/-- VERIFY_FRAME_SEND: up to 3 verify frames (R366). -/
def execVerifyFrameSend (m : Fin 6) (s : State) : Host.Outcome State Fault Refusal :=
  onNode s (fun n =>
    let x := mac n m.val
    if verifying n m.val && decide (x.verifySent < 3) then
      emit (setMac n m.val { x with verifySent := x.verifySent + 1 }) (.verify m.val false)
    else n)

/-- VERIFY_RESPONSE_RECEIVED (R366). -/
def execVerifyResponseReceived (m : Fin 6) (s : State) : Host.Outcome State Fault Refusal :=
  onNode s (fun n => if verifying n m.val then setVerify n m.val 3 else n)

/-- VERIFY_FAIL: the third interval has passed without a response (R366). -/
def execVerifyFail (m : Fin 6) (s : State) : Host.Outcome State Fault Refusal :=
  onNode s (fun n =>
    if verifying n m.val && (mac n m.val).verifySent == 3 then
      setVerify (macEvt (emCount n m.val 12) m.val F.EM_MACEVT_VERIFYFAIL) m.val 4
    else n)

/-- VERIFY_FRAME_RECEIVED: answered whenever EN = 1 (R366). -/
def execVerifyFrameReceived (m : Fin 6) (s : State) : Host.Outcome State Fault Refusal :=
  onNode s (fun n =>
    if macOn n m.val && macLink n m.val && ff n (R.EM_PREEMPT m.val) F.EM_PREEMPT_EN == 1 then emit n (.verify m.val true) else n)

/-! ### Wake patterns (R371) and the boundary -/

/-- The bytes pattern i selects: their indices in rising order (R371). -/
def maskBytes (n : Node) (i : Nat) : List Nat :=
  which 128 (fun j => bitOf (rd n (R.EM_WPMASK i (j / 32))).toNat (j % 32))

/-- Does a frame received by MAC m match pattern i (R371)? -/
def patternMatches (n : Node) (m i : Nat) (frame : List Byte) : Bool :=
  let b := etherBody frame
  let sel := maskBytes n i
  gf n (R.EM_WPCFG i) F.EM_WPCFG_EN == 1 && bitOf (gf n (R.EM_WPCFG i) F.EM_WPCFG_MACEN) m
    && etherFcsOk frame && !sel.isEmpty && decide (sel.getLastD 0 < b.length)
    && (crc16 (sel.map (fun j => b.getD j 0#8))).toNat == gf n (R.EM_WPCFG i) F.EM_WPCFG_CRC

/-- The lowest pattern a frame matches (R372). -/
def matchedPattern (n : Node) (m : Nat) (frame : List Byte) : Option Nat :=
  (List.range 16).find? (fun i => patternMatches n m i frame)

/-- Registers of the EM block keep their values out of RUN: the wake patterns and EM_WAKESTAT (R359). -/
def emKeeps (a : Nat) : Bool := a == R.EM_WAKESTAT || (decide (0xD00100 ≤ a) && decide (a < 0xD00300))

/-- The boundary: every cell that holds a completion record is pushed (R364). -/
def etherBoundary (n : Node) : Node := forRange 6 pushDone n

/-- EM_EVT as read: bit m while EM_MACEVT of MAC m is not 0. -/
def emEvt (n : Node) : BitVec 32 :=
  fset (rd n R.EM_EVT) F.EM_EVT_MACEVT ((List.range 6).foldl (fun v m => v + b2n (rd n (R.EM_MACEVT m) != 0#32) * 2 ^ m) 0)

end Sys2Proof.Machine
end

