-- ==== Sys2Proof/Machine/Can.lean ====
section
/-! DEFINITION. The CAN FD controllers (spec/15_can.md, R373 to R394).  What ISO 11898-1 rules and the spec only
names (the error counters' steps, the lengths of frames) is PRESUMED from that standard (log entry 23). -/

namespace Sys2Proof.Machine

/-- What the node keeps for controller c. -/
def can (n : Node) (c : Nat) : Can := look {} n.cb c
/-- Set it. -/
def setCan (n : Node) (c : Nat) (x : Can) : Node := { n with cb := put {} n.cb c x }
/-- Count in CB_CNT[c][k]. -/
def cbCount (n : Node) (c k : Nat) : Node := count n (R.CB_CNT c k)
/-- Set an event bit of CB_EVT[c]. -/
def cbEvt (n : Node) (c : Nat) (f : Field) : Node := sf n (R.CB_EVT c) f 1
/-- Set an event bit of CB_EVT[c] with a class N event. -/
def cbRaise (n : Node) (c : Nat) (f : Field) : Node := raise n .n 14 c (R.CB_EVT c) f
/-- A field of CB_CFG[c] in force. -/
def cbCfg (n : Node) (c : Nat) (f : Field) : Nat := ff n (R.CB_CFG c) f
/-- CB_STAT[c].STATE: 0 error active, 1 error passive, 2 bus-off, 3 disabled. -/
def cbState (n : Node) (c : Nat) : Nat := gf n (R.CB_STAT c) F.CB_STAT_STATE
/-- Controller c is in SLEEP. -/
def canAsleep (n : Node) (c : Nat) : Bool := gf n (R.CB_STAT c) F.CB_STAT_SLEEP == 1
/-- Controller c runs: RUN, the heartbeat of CX, and EN in force (R388). -/
def canOn (n : Node) (c : Nat) : Bool := isRun n && cxAlive n && cbCfg n c F.CB_CFG_EN == 1
/-- Controller c takes part in traffic: it runs, is not in SLEEP and not bus-off. -/
def canLive (n : Node) (c : Nat) : Bool := canOn n c && !canAsleep n c && cbState n c != 2

/-! ### Error confinement (R377 to R379) -/

/-- STATE by the counters (R377). -/
def stateOf (tec rec_ : Nat) : Nat := if 255 < tec then 2 else if 128 ≤ tec ∨ 128 ≤ rec_ then 1 else 0

/-- Set the error counters, and the state they give, with its event (R377, R378). -/
def setErrors (n : Node) (c tec rec_ : Nat) : Node :=
  let old := cbState n c
  let st := stateOf tec rec_
  let n := setCan n c { can n c with tec := tec, rec_ := rec_ }
  let n := sf (sf n (R.CB_STAT c) F.CB_STAT_TEC (min tec 255)) (R.CB_STAT c) F.CB_STAT_REC (min rec_ 255)
  if st = old then n
  else
    let n := sf n (R.CB_STAT c) F.CB_STAT_STATE st
    if st = 0 then cbRaise n c F.CB_EVT_EACTIVE
    else if st = 1 then cbRaise n c F.CB_EVT_EPASS
    else
      let n := cbCount (cbRaise n c F.CB_EVT_BUSOFF) c 8
      if cbCfg n c F.CB_CFG_AUTOREC = 1 then sf n (R.CB_STAT c) F.CB_STAT_RECOV 1 else n

/-- Receive counter after a good frame (ISO 11898-1): one less, and above 127 some value of 119 to 127. -/
def goodReceive (n : Node) (c : Nat) : Node :=
  let x := can n c
  if x.rec_ = 0 then n
  else if x.rec_ ≤ 127 then setErrors n c x.tec (x.rec_ - 1)
  else
    let (w, n) := freshWord n
    setErrors n c x.tec (119 + w.toNat % 9)

/-- A bus error found by a receiver. -/
def receiveError (n : Node) (c : Nat) (dominantAfter : Bool) : Node :=
  let x := can n c
  setErrors (cbCount n c 7) c x.tec (x.rec_ + if dominantAfter then 9 else 1)

/-! ### Receiving (R374, R380 to R384, R389) -/

/-- Data bytes of a DLC: above 8 in a classical frame 8. -/
def dlcLen (fdf : Bool) (dlc : Nat) : Nat :=
  if dlc ≤ 8 then dlc else if !fdf then 8
  else ([12, 16, 20, 24, 32, 48, 64] : List Nat).getD (dlc - 9) 64

/-- Data bytes of a frame. -/
def canLen (f : CanFrame) : Nat := if f.rtr && !f.fdf then 0 else dlcLen f.fdf f.dlc.toNat

/-- Word w of object o. -/
def objWord (n : Node) (c o w : Nat) : BitVec 32 := look 0#32 (can n c).objs (20 * o + w)

/-- Set words of object o from word w. -/
def setObj (n : Node) (c o : Nat) : Nat → List (BitVec 32) → Node
  | _, [] => n
  | w, v :: vs =>
    let x := can n c
    setObj (setCan n c { x with objs := put 0#32 x.objs (20 * o + w) v }) c o (w + 1) vs

/-- The words a frame gives an object (Table CB-2). -/
def objWords (n : Node) (c o : Nat) (f : CanFrame) (ts : BitVec 32) (dom lost : Bool) : List (BitVec 32) :=
  let w0 := 2 ^ 31 + 2 ^ 30 * b2n (lost || bitOf (objWord n c o 0).toNat 31) + 2 ^ 29 * b2n f.ide + f.id.toNat
  let len := canLen f
  let w1 := stampCnlo n ts * 65536 + 1024 * b2n f.esi + 512 * b2n (f.brs && f.fdf) + 256 * b2n f.fdf + len
  let cnt := (bits (objWord n c o 3).toNat 0 16 + 1) % 65536
  let data := cut (cut f.data 0 len) 0 64
  [BitVec.ofNat 32 w0, BitVec.ofNat 32 w1, ts, BitVec.ofNat 32 (b2n dom * 65536 + cnt)]
    ++ (List.range 16).map (fun k => BitVec.ofNat 32 (le data (4 * k) 4))

/-- Store a frame into object o (R381). -/
def objStore (n : Node) (c o : Nat) (f : CanFrame) (ts : BitVec 32) (dom lost : Bool) : Node :=
  setObj (cbCount n c 1) c o 0 (objWords n c o f ts dom lost)

/-- A frame for object o: stored, or kept in a pending buffer while the object is locked (R383). -/
def objArrive (n : Node) (c o : Nat) (f : CanFrame) (ts : BitVec 32) : Node :=
  let x := can n c
  if x.lock ≠ some o then objStore n c o f ts (tsdom n) false
  else if x.pend.any (fun p => p.obj == o) then
    setCan n c { x with pend := x.pend.map (fun p => if p.obj = o then ⟨o, f, ts, tsdom n, true⟩ else p) }
  else if x.pend.length < 8 then setCan n c { x with pend := x.pend ++ [⟨o, f, ts, tsdom n, false⟩] }
  else cbCount (setCan n c { x with dropped := true }) c 4

/-- The lowest enabled object with the IDE and ID of a frame (R380). -/
def objFor (n : Node) (c : Nat) (f : CanFrame) : Option Nat :=
  (List.range 2048).find? (fun o =>
    gf n (R.CB_OBJCFG c o) F.CB_OBJCFG_EN == 1 && gf n (R.CB_OBJCFG c o) F.CB_OBJCFG_IDE == b2n f.ide
      && gf n (R.CB_OBJCFG c o) F.CB_OBJCFG_ID == f.id.toNat)

/-- Push a frame into CB_RXQ (R384). -/
def canPush (n : Node) (c q : Nat) (f : CanFrame) (ts : BitVec 32) : Node :=
  let len := canLen f
  let remote := f.rtr && !f.fdf
  let fl := 2 ^ 8 * b2n f.fdf + 2 ^ 9 * b2n (f.brs && f.fdf) + 2 ^ 10 * b2n f.esi + 2 ^ 11 * b2n remote + 2 ^ 12 * b2n f.ide
    + 2 ^ 13 * b2n (tsdom n)
  let aux := f.id.toNat + (if remote then f.dlc.toNat else 0) * 2 ^ 28
  match pushFrame n q { len := len, fflags := fl, ts := ts.toNat, cnlo := stampCnlo n ts, port := c, aux := aux % 2 ^ 32 } f.data with
  | (n, true) => cbCount n c 2
  | (n, false) => cbEvt n c F.CB_EVT_RXDROP

/-- Store a good frame (R380). -/
def canStore (n : Node) (c : Nat) (f : CanFrame) (ts : BitVec 32) : Node :=
  let n := cbCount n c 0
  let q := namedQueue (ff n (R.CB_RXQ c) F.CB_RXQ_QUEUE)
  let toQueue (n : Node) : Node := match q with | none => cbCount n c 3 | some q => canPush n c q f ts
  if f.rtr && !f.fdf then toQueue n
  else match objFor n c f with
    | none => toQueue n
    | some o =>
      let n := objArrive n c o f ts
      match q with
      | some q => if gf n (R.CB_OBJCFG c o) F.CB_OBJCFG_MIRROR = 1 then canPush n c q f ts else n
      | none => n

/-- FDF or res received recessive where FDEN does not allow it (R374). -/
def fdViolation (n : Node) (c : Nat) : Node :=
  if cbCfg n c F.CB_CFG_PEXEN = 1 then cbCount (cbEvt n c F.CB_EVT_PEX) c 9 else receiveError n c false

/-- PROTOCOL_EXCEPTION: FDF recessive while FDEN = 0, or res recessive while FDEN = 1 (R374). -/
def execProtocolException (c : Fin 4) (s : State) : Host.Outcome State Fault Refusal :=
  onNode s (fun n => if canLive n c.val && cbCfg n c.val F.CB_CFG_MODE != 3 then fdViolation n c.val else n)

/-! ### Time-triggered operation: the basic cycle (R392, R394) -/

/-- TTEN in force. -/
def ttOn (n : Node) (c : Nat) : Bool := cbCfg n c F.CB_CFG_TTEN == 1
/-- BCLEN; 0 is treated as 1. -/
def bcLen (n : Node) (c : Nat) : Nat := max 1 (ff n (R.CB_TTCFG c) F.CB_TTCFG_BCLEN)
/-- Number k of the basic cycle that starts in the present cycle (R392). -/
def basicCycle (n : Node) (c : Nat) : Nat := cnNow n / bcLen n c % (ff n (R.CB_TTCFG c) F.CB_TTCFG_NBC + 1)
/-- NCOL; other values than 2 to 63 are treated as 2. -/
def ncol (n : Node) (c : Nat) : Nat := max 2 (ff n (R.CB_TTCFG c) F.CB_TTCFG_NCOL)

/-- The reference message with a PRIO and its data byte (R392). -/
def refFrame (n : Node) (c prio : Nat) (k : BitVec 8) : CanFrame :=
  { ide := ff n (R.CB_TTREFID c) F.CB_TTREFID_IDE == 1
    id := BitVec.ofNat 29 (ff n (R.CB_TTREFID c) F.CB_TTREFID_ID / 8 * 8 + prio), dlc := 1#4, data := [k] }

/-- Is a frame the reference message of controller c (R392)? -/
def isReference (n : Node) (c : Nat) (f : CanFrame) : Bool :=
  ttOn n c && !f.fdf && !f.rtr && canLen f == 1 && f.ide == (ff n (R.CB_TTREFID c) F.CB_TTREFID_IDE == 1)
    && f.id.toNat / 8 == ff n (R.CB_TTREFID c) F.CB_TTREFID_ID / 8

/-- A reference message was sent or received: a basic cycle begins (R392, R394). -/
def ttReference (n : Node) (c prio : Nat) (ts : BitVec 32) : Node :=
  let n := sf (sf n (R.CB_TTSTAT c) F.CB_TTSTAT_CURPRIO prio) (R.CB_TTSTAT c) F.CB_TTSTAT_CYCLE (basicCycle n c)
  let n := sf n (R.CB_TTSTAT c) F.CB_TTSTAT_TTSTOP 0
  setCan n c { can n c with refTs := some ts, col := 0, misses := 0 }

/-- A good frame: counters, reference, storing. -/
def canGood (n : Node) (c : Nat) (f : CanFrame) (ts : BitVec 32) : Node :=
  let n := goodReceive n c
  let n := if isReference n c f then ttReference n c (f.id.toNat % 8) ts else n
  canStore n c f ts

/-- CAN_FRAME_RECEIVED: the frame on the bus, how its reception ends, and the time in ns at the sample point of its
start of frame (R389). -/
def execCanFrameReceived (c : Fin 4) (f : CanFrame) (how : CanRx) (ts : BitVec 32) (s : State) :
    Host.Outcome State Fault Refusal :=
  onNode s (fun n =>
    let c := c.val
    if !canLive n c || cbCfg n c F.CB_CFG_MODE == 3 then n
    else if f.fdf && cbCfg n c F.CB_CFG_FDEN == 0 then fdViolation n c
    else match how with
      | .good => canGood n c f ts
      | .error => receiveError n c false
      | .dominantAfterFlag => receiveError n c true)

/-! ### Object locks (R382, R383) -/

/-- The end of the lock: the pending frame is written into the object (R383). -/
def endLock (n : Node) (c : Nat) : Node :=
  let x := can n c
  match x.lock with
  | none => n
  | some o =>
    let n := setCan n c { x with lock := none, pend := x.pend.filter (fun p => p.obj != o), dropped := false }
    match x.pend.find? (fun p => p.obj == o) with
    | none => if x.dropped then setObj n c o 0 [objWord n c o 0 ||| 0x40000000#32] else n
    | some p => objStore n c o p.frame p.ts p.tsdom (p.more || x.dropped)

/-- A read of word 0 of object o locks it (R382). -/
def objLock (n : Node) (c o : Nat) : Node × BitVec 32 :=
  let n :=
    if (can n c).lock = some o then n
    else
      let n := if (can n c).lock.isSome then endLock (cbEvt n c F.CB_EVT_LOCKBRK) c else n
      setCan n c { can n c with lock := some o }
  (n, objWord n c o 0)

/-- A read of word 19 of an object: of the locked object it releases it, clearing VALID and LOST (R382). -/
def objRelease (n : Node) (c o : Nat) : Node × BitVec 32 :=
  let v := objWord n c o 19
  if (can n c).lock = some o then
    (endLock (setObj n c o 0 [objWord n c o 0 &&& 0x3FFFFFFF#32]) c, v)
  else (n, v)

/-- A read of word w of object o. -/
def objRead (n : Node) (c o w : Nat) : Node × BitVec 32 :=
  if w = 0 then objLock n c o else if w = 19 then objRelease n c o else (n, objWord n c o w)

/-- A read of an object word through an interface, with the word put out. -/
def readObject (n : Node) (c o w : Nat) : Node :=
  if isRun n && cxAlive n then
    match objRead n c o w with
    | (n, v) => emit n (.word v)
  else n

/-- OBJECT_LOCK: a read of word 0. -/
def execObjectLock (c : Fin 4) (o : Fin 2048) (s : State) : Host.Outcome State Fault Refusal :=
  onNode s (fun n => readObject n c.val o.val 0)

/-- OBJECT_RELEASE: a read of word 19. -/
def execObjectRelease (c : Fin 4) (o : Fin 2048) (s : State) : Host.Outcome State Fault Refusal :=
  onNode s (fun n => readObject n c.val o.val 19)

/-- OBJECT_LOCK_TIMEOUT: 64 µs after the lock was taken (R382). -/
def execObjectLockTimeout (c : Fin 4) (s : State) : Host.Outcome State Fault Refusal :=
  onNode s (fun n => if (can n c.val).lock.isSome then endLock (cbEvt n c.val F.CB_EVT_LOCKTMO) c.val else n)

/-! ### Completion records (R386) -/

/-- Push the packed completion records of controller c as one cell (R386, R364). -/
def pushCanDone (n : Node) (c : Nat) : Node :=
  let x := can n c
  match namedQueue (ff n (R.CB_TXCQ c) F.CB_TXCQ_QUEUE) with
  | none => setCan n c { x with done := [] }
  | some q =>
    if x.done.isEmpty then n
    else
      let (n, bs) := padDone (8 - x.done.length) n x.done.flatten
      (pushCell (setCan n c { x with done := [] }) q bs).1

/-- Pack a completion record (R386). -/
def completeCan (n : Node) (c : Nat) (r : List Byte) : Node :=
  if (namedQueue (ff n (R.CB_TXCQ c) F.CB_TXCQ_QUEUE)).isNone then n
  else
    let x := can n c
    let n := setCan n c { x with done := x.done ++ [r] }
    if x.done.length + 1 ≥ 8 then pushCanDone n c else n

/-- A frame removed with a TSTAT (R386). -/
def removedCan (n : Node) (c tag tstat : Nat) : Node :=
  completeCan (cbCount n c 6) c (emRecord tag 0 0 (c + 16) tstat 0)

/-! ### Transmitting (R376, R385, R387) -/

/-- The next valid length of a format, and its DLC; none where there is none. -/
def validDlc (fdf : Bool) (len : Nat) : Option Nat :=
  if len ≤ 8 then some len else if !fdf then none else (List.range 16).find? (fun d => decide (len ≤ dlcLen true d))

/-- The frame a queue entry describes (R384, R385); none where it is invalid. -/
def jobOf (n : Node) (c : Nat) (h : FrameHeader) (payload : List Byte) (once : Bool) : Option CanJob :=
  let fdf := bitOf h.fflags 8
  let rtr := bitOf h.fflags 11 && !fdf
  if fdf && cbCfg n c F.CB_CFG_FDEN == 0 then none
  else (validDlc fdf h.len).map (fun d =>
    let f : CanFrame :=
      { ide := bitOf h.fflags 12, id := BitVec.ofNat 29 h.aux, fdf := fdf
        brs := fdf && bitOf h.fflags 9 && (can n c).dbtWritten, esi := bitOf h.fflags 10, rtr := rtr
        dlc := BitVec.ofNat 4 (if rtr then h.aux / 2 ^ 28 else d)
        data := if rtr then [] else cut payload 0 (dlcLen fdf d) }
    { frame := f, tag := h.aux, tsreq := bitOf h.fflags 14, once := once })

/-- Half-ns of one bit at the nominal and at the data timing (R375): one CAN clock is 25 half-ns. -/
def nominalBit (n : Node) (c : Nat) : Nat :=
  let r := R.CB_NBT c
  (3 + ff n r F.CB_NBT_TSEG1 + ff n r F.CB_NBT_TSEG2) * (ff n r F.CB_NBT_BRP + 1) * 25
/-- Half-ns of one data bit. -/
def dataBit (n : Node) (c : Nat) : Nat :=
  let r := R.CB_DBT c
  (3 + ff n r F.CB_DBT_TSEG1 + ff n r F.CB_DBT_TSEG2) * (ff n r F.CB_DBT_BRP + 1) * 25

/-- Longest duration of a frame in half-ns: worst-case stuffing and 3 bits of intermission (R393, log entry 23). -/
def longest (n : Node) (c : Nat) (f : CanFrame) : Nat :=
  let len := canLen f
  if !f.fdf then
    let stuffed := (if f.ide then 54 else 34) + 8 * len
    (stuffed + (stuffed - 1) / 4 + 13) * nominalBit n c
  else
    let arb := if f.ide then 36 else 17
    let body := arb + 5 + 8 * len
    let arbBits := arb + (arb - 1) / 4
    let crc := if len ≤ 16 then 4 + 17 + 6 else 4 + 21 + 7
    let dataBits := 5 + 8 * len + ((body - 1) / 4 - (arb - 1) / 4) + crc + 1
    (arbBits + 12) * nominalBit n c + dataBits * (if f.brs then dataBit n c else nominalBit n c)

/-- µs after the reference message at which column j closes: where column j + 1 opens, or at the next reference
message (R393). -/
def columnClose (n : Node) (c j : Nat) : Nat :=
  if j + 1 < ncol n c then ff n (R.CB_TTCOL c (j + 1)) F.CB_TTCOL_START else 125 * bcLen n c

/-- Does an attempt that starts at a time end before the open column closes (R393)? -/
def fitsColumn (n : Node) (c : Nat) (f : CanFrame) (ts : BitVec 32) : Bool :=
  match (can n c).refTs with
  | none => false
  | some r => decide (2 * (ts - r).toNat + longest n c f ≤ 2000 * columnClose n c (can n c).col)

/-- TYPE of the open column: 0 arbitrating, 1 exclusive, 2 silent; 0b11 is treated as silent. -/
def columnType (n : Node) (c j : Nat) : Nat :=
  min 2 (ff n (R.CB_TTMAT c (gf n (R.CB_TTSTAT c) F.CB_TTSTAT_CYCLE) j) F.CB_TTMAT_TYPE)

/-- May the controller start a frame of its transmit queues now (R393, R394)? -/
def mayStart (n : Node) (c : Nat) (f : CanFrame) (ts : BitVec 32) : Bool :=
  !ttOn n c || (gf n (R.CB_TTSTAT c) F.CB_TTSTAT_TTSTOP == 0 && decide (1 ≤ (can n c).col)
    && columnType n c (can n c).col == 0 && fitsColumn n c f ts)

/-- Change the job in front. -/
def setJob (n : Node) (c : Nat) (j : CanJob) : Node := setCan n c { can n c with jobs := j :: (can n c).jobs.drop 1 }
/-- Remove the job in front. -/
def dropJob (n : Node) (c : Nat) : Node := setCan n c { can n c with jobs := (can n c).jobs.drop 1 }

/-- Start an attempt of the job in front: ESI recessive while error passive (R377), transmitter delay (R376). -/
def startJob (n : Node) (c : Nat) (j : CanJob) (ts : BitVec 32) (delay : Nat) : Node :=
  let f := { j.frame with esi := j.frame.fdf && (j.frame.esi || cbState n c == 1) }
  let n := setJob n c { j with active := true, ts := ts }
  let n := emit n (.can c f)
  if f.fdf && f.brs && ff n (R.CB_DBT c) F.CB_DBT_TDCEN == 1 then
    let n := sf n (R.CB_STAT c) F.CB_STAT_TDCV (min delay 127)
    if delay > 127 then cbRaise n c F.CB_EVT_TDCSAT else n
  else n

/-- The transmit queue served next: CB_TXQ0 before CB_TXQ1 (R385). -/
def canQueue (n : Node) (c : Nat) : Option Nat :=
  let ready (a : Nat) : Option Nat := (namedQueue (ff n a F.CB_TXQ0_QUEUE)).filter (fun q => (headEntry n q).isSome && decide ((desc n q).kind = .frame))
  match ready (R.CB_TXQ0 c) with
  | some q => some q
  | none => ready (R.CB_TXQ1 c)

/-- Take the head frame of the queue served next: an invalid one is removed with TSTAT 1 (R385). -/
def takeJob (n : Node) (c q : Nat) (once : Bool) : Node :=
  match popFrame n q with
  | (n, none) => n
  | (n, some (h, payload)) =>
    match jobOf n c h payload once with
    | none => removedCan n c h.aux 1
    | some j => setCan n c { can n c with jobs := j :: (can n c).jobs }

/-- The head frame of the queue served next, where it is valid. -/
def peekJob (n : Node) (c q : Nat) : Option CanJob := (peekFrame n q).bind (fun (h, p) => jobOf n c h p false)

/-- Can the controller send at all: it takes part in traffic, in normal or loopback mode? -/
def canSends (n : Node) (c : Nat) : Bool :=
  canLive n c && (cbCfg n c F.CB_CFG_MODE == 0 || cbCfg n c F.CB_CFG_MODE == 3)

/-- Start sending: the frame that waits for another attempt, or the next one. -/
def canTransmit (n : Node) (c : Nat) (ts : BitVec 32) (delay : Nat) : Node :=
  match (can n c).jobs with
  | j :: _ => if j.active || !mayStart n c j.frame ts then n else startJob n c j ts delay
  | [] =>
    match canQueue n c with
    | none => n
    | some q =>
      match peekJob n c q with
      | none => if ttOn n c && (can n c).col == 0 then n else takeJob n c q false
      | some p =>
        if !mayStart n c p.frame ts then n
        else
          let n := takeJob n c q false
          match (can n c).jobs with
          | j :: _ => startJob n c j ts delay
          | [] => n

/-- CAN_FRAME_TRANSMIT: the time in ns at the sample point of the start of frame (R389), and the transmitter delay in
CAN clocks (R376). -/
def execCanFrameTransmit (c : Fin 4) (ts : BitVec 32) (delay : BitVec 8) (s : State) : Host.Outcome State Fault Refusal :=
  onNode s (fun n => if canSends n c.val then canTransmit n c.val ts delay.toNat else n)

/-- Enter SLEEP (R390): CAN_STB_c goes high (R388). -/
def canEnterSleep (n : Node) (c : Nat) : Node :=
  let n := sf n (R.CB_STAT c) F.CB_STAT_SLEEP 1
  emit (setCan n c { can n c with sleepReq := false }) (.pin "CAN_STB" c true)

/-- After an attempt: a waiting ABORT removes the frame (R387), a waiting SLEEP is entered (R390). -/
def afterAttempt (n : Node) (c : Nat) : Node :=
  if (can n c).sleepReq then canEnterSleep n c else n

/-- A failed attempt of job j: removed by an ABORT (R387), removed where it is sent once (R393; its TSTAT is a free
value, log entry 24), or kept for another attempt. -/
def attemptFailed (n : Node) (c : Nat) (j : CanJob) : Node :=
  if j.abort then removedCan (dropJob n c) c j.tag 2
  else if j.once then
    let (w, n) := freshWord (dropJob n c)
    removedCan n c j.tag (w.toNat % 256)
  else setJob n c { j with active := false }

/-- CAN_TRANSMIT_COMPLETE on the job in front. -/
def canComplete (n : Node) (c : Nat) (j : CanJob) : CanTx → Node
  | .sent =>
    let x := can n c
    let n := setErrors (dropJob n c) c (x.tec - 1) x.rec_
    let n := cbCount (sf n (R.CB_STAT c) F.CB_STAT_NOACK 0) c 5
    let n := if j.tsreq then completeCan n c (emRecord j.tag j.ts.toNat (stampCnlo n j.ts) (c + 16) 0 (b2n (tsdom n))) else n
    if cbCfg n c F.CB_CFG_MODE = 3 then canStore n c j.frame j.ts else n
  | .lostArbitration => attemptFailed n c { j with noAcks := 0 }
  | .noAck =>
    let x := can n c
    let n := setErrors (cbCount n c 7) c (if cbState n c = 1 then x.tec else x.tec + 8) x.rec_
    let j := { j with noAcks := j.noAcks + 1 }
    if j.noAcks = 16 then
      let n := cbRaise (sf n (R.CB_STAT c) F.CB_STAT_NOACK 1) c F.CB_EVT_NOACK
      if cbCfg n c F.CB_CFG_NOACKABORT = 1 ∧ j.abort = false then removedCan (dropJob n c) c j.tag 3 else attemptFailed n c j
    else attemptFailed n c j
  | .error =>
    let x := can n c
    attemptFailed (setErrors (cbCount n c 7) c (x.tec + 8) x.rec_) c { j with noAcks := 0 }

/-- CAN_TRANSMIT_COMPLETE: how the attempt on the bus ended. -/
def execCanTransmitComplete (c : Fin 4) (how : CanTx) (s : State) : Host.Outcome State Fault Refusal :=
  onNode s (fun n =>
    match (can n c.val).jobs with
    | j :: _ => if canOn n c.val && j.active then afterAttempt (canComplete n c.val j how) c.val else n
    | [] => n)

/-- BUSOFF_RECOVERY_COMPLETE (R378). -/
def execBusoffRecoveryComplete (c : Fin 4) (s : State) : Host.Outcome State Fault Refusal :=
  onNode s (fun n =>
    if canOn n c.val && cbState n c.val == 2 && gf n (R.CB_STAT c.val) F.CB_STAT_RECOV == 1
    then setErrors (sf n (R.CB_STAT c.val) F.CB_STAT_RECOV 0) c.val 0 0 else n)

/-- A write of CB_CTL.RECOVER (R378). -/
def canRecover (n : Node) (c : Nat) : Node := if cbState n c = 2 then sf n (R.CB_STAT c) F.CB_STAT_RECOV 1 else n

/-- A write of CB_CTL.ABORT (R387). -/
def canAbort (n : Node) (c : Nat) : Node :=
  match (can n c).jobs with
  | [] => n
  | j :: _ => if j.active then setJob n c { j with abort := true } else removedCan (dropJob n c) c j.tag 2

/-- A write of CB_CTL.SLEEP (R390). -/
def canSleep (n : Node) (c : Nat) : Node :=
  if (can n c).jobs.any CanJob.active then setCan n c { can n c with sleepReq := true } else canEnterSleep n c

/-- The controller leaves SLEEP (R390, R388). -/
def canLeaveSleep (n : Node) (c : Nat) : Node :=
  if canAsleep n c then emit (cbEvt (sf n (R.CB_STAT c) F.CB_STAT_SLEEP 0) c F.CB_EVT_WAKE) (.pin "CAN_STB" c false) else n

/-- A write of CB_CTL. -/
def cbCtlWrite (n : Node) (c : Nat) (v : BitVec 32) : Node :=
  if !canOn n c then n
  else
    let n := doIf (fget v F.CB_CTL_RECOVER == 1) (fun n => canRecover n c) n
    let n := doIf (fget v F.CB_CTL_SLEEP == 1) (fun n => canSleep n c) n
    let n := doIf (fget v F.CB_CTL_WAKE == 1) (fun n => canLeaveSleep n c) n
    doIf (fget v F.CB_CTL_ABORT == 1) (fun n => canAbort n c) n

/-- CAN_RECOVER. -/
def execCanRecover (c : Fin 4) (s : State) : Host.Outcome State Fault Refusal := onNode s (fun n => cbCtlWrite n c.val 1#32)
/-- CAN_SLEEP. -/
def execCanSleep (c : Fin 4) (s : State) : Host.Outcome State Fault Refusal := onNode s (fun n => cbCtlWrite n c.val 2#32)
/-- CAN_WAKE. -/
def execCanWake (c : Fin 4) (s : State) : Host.Outcome State Fault Refusal := onNode s (fun n => cbCtlWrite n c.val 4#32)
/-- CAN_ABORT. -/
def execCanAbort (c : Fin 4) (s : State) : Host.Outcome State Fault Refusal := onNode s (fun n => cbCtlWrite n c.val 8#32)

/-- A write of CB_TXDB[c][k] (R385): an invalid advance pushes nothing. -/
def canTxDoorbell (n : Node) (c k tail : Nat) : Node :=
  let n := sf n (R.CB_TXDB c k) F.CB_TXDB_COUNT tail
  match namedQueue (ff n (if k = 0 then R.CB_TXQ0 c else R.CB_TXQ1 c) F.CB_TXQ0_QUEUE) with
  | none => n
  | some q => (tailDoorbell n q tail).getD n

/-- CAN_TX_DOORBELL. -/
def execCanTxDoorbell (c : Fin 4) (k : Fin 2) (tail : BitVec 24) (s : State) : Host.Outcome State Fault Refusal :=
  onNode s (fun n => if isRun n && cxAlive n then canTxDoorbell n c.val k.val tail.toNat else n)

/-- A write of CB_RXDB[c] (R385). -/
def canRxDoorbell (n : Node) (c head : Nat) : Node :=
  let n := sf n (R.CB_RXDB c) F.CB_RXDB_COUNT head
  match namedQueue (ff n (R.CB_RXQ c) F.CB_RXQ_QUEUE) with
  | none => n
  | some q => (headDoorbell n q head).getD n

/-- CAN_RX_DOORBELL. -/
def execCanRxDoorbell (c : Fin 4) (head : BitVec 24) (s : State) : Host.Outcome State Fault Refusal :=
  onNode s (fun n => if isRun n && cxAlive n then canRxDoorbell n c.val head.toNat else n)

/-! ### Time-triggered operation (R392 to R394) -/

/-- TT_REFERENCE_SEND: a potential master sends the reference message and wins the bus; the time in ns of its start of
frame. -/
def execTtReferenceSend (c : Fin 4) (ts : BitVec 32) (s : State) : Host.Outcome State Fault Refusal :=
  onNode s (fun n =>
    let c := c.val
    if canSends n c && ttOn n c && ff n (R.CB_TTCFG c) F.CB_TTCFG_MASTER == 1 && cnNow n % bcLen n c == 0 then
      let p := ff n (R.CB_TTCFG c) F.CB_TTCFG_PRIO
      let f := refFrame n c p (BitVec.ofNat 8 (basicCycle n c))
      ttReference (cbCount (emit n (.can c f)) c 10) c p ts
    else n)

/-- TT_REFERENCE_RECEIVED: the sender's PRIO, the data byte, and the time of its start of frame. -/
def execTtReferenceReceived (c : Fin 4) (prio : Fin 8) (k : Byte) (ts : BitVec 32) (s : State) :
    Host.Outcome State Fault Refusal :=
  onNode s (fun n =>
    if canLive n c.val && cbCfg n c.val F.CB_CFG_MODE != 3 && ttOn n c.val
    then canGood n c.val (refFrame n c.val prio.val k) ts else n)

/-- An exclusive column: the head of QUEUE is sent once where it fits, and removed with TSTAT 4 where not (R393). -/
def exclusiveColumn (n : Node) (c j : Nat) (ts : BitVec 32) (delay : Nat) : Node :=
  match namedQueue (ff n (R.CB_TTMAT c (gf n (R.CB_TTSTAT c) F.CB_TTSTAT_CYCLE) j) F.CB_TTMAT_QUEUE) with
  | none => n
  | some q =>
    if (can n c).jobs.any CanJob.active || (desc n q).kind ≠ .frame then n
    else
      let n := takeJob n c q true
      match (can n c).jobs with
      | [] => n
      | x :: _ =>
        if !x.once then n
        else if fitsColumn n c x.frame ts then startJob n c x ts delay
        else removedCan (dropJob n c) c x.tag 4

/-- TT_COLUMN_OPEN: column j opens at a time (R393). -/
def execTtColumnOpen (c : Fin 4) (j : Fin 64) (ts : BitVec 32) (delay : BitVec 8) (s : State) : Host.Outcome State Fault Refusal :=
  onNode s (fun n =>
    let c := c.val
    if canLive n c && ttOn n c && decide (1 ≤ j.val) && decide (j.val < ncol n c) then
      let n := setCan n c { can n c with col := j.val }
      if columnType n c j.val = 1 ∧ gf n (R.CB_TTSTAT c) F.CB_TTSTAT_TTSTOP = 0 ∧ canSends n c
      then exclusiveColumn n c j.val ts delay.toNat else n
    else n)

/-- TT_REFERENCE_MISSED (R394). -/
def execTtReferenceMissed (c : Fin 4) (s : State) : Host.Outcome State Fault Refusal :=
  onNode s (fun n =>
    let c := c.val
    if canLive n c && ttOn n c then
      let x := can n c
      let n := cbCount (setCan n c { x with misses := x.misses + 1 }) c 11
      if x.misses + 1 = 2 then cbRaise (sf n (R.CB_TTSTAT c) F.CB_TTSTAT_TTSTOP 1) c F.CB_EVT_TTLOSS else n
    else n)

/-! ### Power, wake filters and the boundary (R388, R391) -/

/-- Does a frame match wake filter i of controller c (R391)?  Bytes beyond its length count as 0. -/
def wakeFilterMatches (n : Node) (c : Nat) (f : CanFrame) (i : Nat) : Bool :=
  let w (k : Nat) : Nat := (rd n (R.CB_WFILT c i k)).toNat
  let d := cut f.data 0 8
  bitOf (w 0) 31 && bitOf (w 0) 29 == f.ide && bits (w 0) 0 29 == f.id.toNat
    && (List.range 2).all (fun k => (BitVec.ofNat 32 (le d (4 * k) 4) ^^^ BitVec.ofNat 32 (w (1 + k))) &&& BitVec.ofNat 32 (w (3 + k)) == 0#32)

/-- Has controller c an enabled wake filter? -/
def hasWakeFilter (n : Node) (c : Nat) : Bool := (List.range 4).any (fun i => bitOf (rd n (R.CB_WFILT c i 0)).toNat 31)

/-- CAN_STB_c (R388): high in PARKED, in DOZE without an enabled wake filter, and in SLEEP. -/
def canStb (n : Node) (c : Nat) : Bool :=
  powerState n == 1 || (powerState n == 2 && !hasWakeFilter n c) || canAsleep n c

/-- Put out CAN_STB of every controller. -/
def putStb (n : Node) : Node := forRange 4 (fun n c => emit n (.pin "CAN_STB" c (canStb n c))) n

/-- Registers of the CB block keep their values out of RUN: the wake registers (R388). -/
def cbKeeps (a : Nat) : Bool := decide (0xE3F000 ≤ a) && decide (a < 0xE40000)

/-- EN latched at a boundary: a controller disabled shows STATE 3, one enabled begins error active. -/
def latchCanEnable (n : Node) (c : Nat) (was : Bool) : Node :=
  let is := cbCfg n c F.CB_CFG_EN == 1
  if was == is then n
  else if is then sf (setCan n c { can n c with tec := 0, rec_ := 0 }) (R.CB_STAT c) F.CB_STAT_STATE 0
  else sf n (R.CB_STAT c) F.CB_STAT_STATE 3

/-- The boundary: every cell that holds a completion record is pushed (R386, R364). -/
def canBoundary (n : Node) : Node := forRange 4 pushCanDone n

end Sys2Proof.Machine
end

