-- ==== Sys2Proof/Machine/SafetyChannel.lean ====
section
/-! DEFINITION. The passenger alarm safety channel (spec/17_safety.md, R422 to R441): inputs, pairs, outputs,
lock-out, deliberate reset, and the records of other nodes.  A sample is a command of its own (10 µs, R422). -/

namespace Sys2Proof.Machine

/-- Change the safety channel. -/
def withSf (n : Node) (f : SafeState → SafeState) : Node := { n with sa := f n.sa }
/-- PX runs the channel: powered and PX not FAILED (R14, Table AC-7). -/
def sfOn (n : Node) : Bool := n.sa.powered && !dieFailed n 7
/-- Contact c. -/
def contact (n : Node) (c : Nat) : Contact := look {} n.sa.contacts c
/-- Set it. -/
def setContact (n : Node) (c : Nat) (x : Contact) : Node := withSf n (fun s => { s with contacts := put {} s.contacts c x })
/-- Pair n. -/
def pairOf (n : Node) (k : Nat) : Pair := look {} n.sa.pairs k
/-- Set it. -/
def setPair (n : Node) (k : Nat) (x : Pair) : Node := withSf n (fun s => { s with pairs := put {} s.pairs k x })
/-- Output k. -/
def safeOut (n : Node) (k : Nat) : SafeOut := look {} n.sa.outs k
/-- Set it. -/
def setSafeOut (n : Node) (k : Nat) (x : SafeOut) : Node := withSf n (fun s => { s with outs := put {} s.outs k x })

/-! ### The parameter block (Table CF-11) -/

/-- A number of the block in force; 0 where PX holds none. -/
def spField (n : Node) (off len : Nat) : Nat := match n.sa.block with | none => 0 | some b => le b off len
/-- PEAEN bit of pair k. -/
def peaEn (n : Node) (k : Nat) : Bool := bitOf (spField n 4 1) k
/-- Test-pulse output that feeds contact c (R422). -/
def feeds (n : Node) (c : Nat) : Nat := (bits (spField n 5 1) (c / 2) 1 + c % 2) % 2
/-- FILT of pair k in samples; a value outside 1 to 20 ms is taken at the nearer limit (log entry 25). -/
def filtSamples (n : Node) (k : Nat) : Nat := 100 * max 1 (min 20 (spField n (8 + k) 1))
/-- DISC of pair k in samples; a value outside 2 to 100 is taken at the nearer limit (log entry 25). -/
def discSamples (n : Node) (k : Nat) : Nat := 1000 * max 2 (min 100 (spField n (16 + k) 1))
/-- TRIPMAP byte of pair k. -/
def tripMap (n : Node) (k : Nat) : Nat := spField n (24 + k) 1
/-- LINEALM bit. -/
def lineAlm (n : Node) (i : Nat) : Bool := bitOf (spField n 32 1) i

/-! ### The view (R444, Table SF-4) -/

/-- Code of a pair's state (Table SF-1). -/
def PairSt.code : PairSt → Nat
  | .unused => 0 | .rest => 1 | .one => 2 | .tripped => 3 | .return => 4 | .fault => 5

/-- Is a pair tripped: in ONE, TRIPPED, RETURN or FAULT (R425)? -/
def PairSt.isTripped : PairSt → Bool
  | .unused => false | .rest => false | .one => true | .tripped => true | .return => true | .fault => true

/-- Is pair k tripped? -/
def pairTripped (n : Node) (k : Nat) : Bool := (pairOf n k).st.isTripped
/-- A number with bit i where p i holds. -/
def mask (w : Nat) (p : Nat → Bool) : Nat := (List.range w).foldl (fun v i => v + b2n (p i) * 2 ^ i) 0
/-- Does a tripped pair have bit k set in its TRIPMAP byte (R426)? -/
def localTrip (n : Node) (k : Nat) : Bool := (List.range 8).any (fun i => pairTripped n i && bitOf (tripMap n i) k)
/-- Is output k to be energised (R426)? -/
def safeDemand (n : Node) (k : Nat) : Bool :=
  n.sa.lock.isNone && n.sa.block.isSome && n.sa.started && !n.sa.uvlo && !localTrip n k && n.sa.line.isNone

/-- The STATE byte (Table SF-4). -/
def safeStateByte (n : Node) : Nat :=
  let tr := which 8 (pairTripped n)
  128 * b2n (!tr.isEmpty) + 64 * b2n n.sa.lock.isSome + 32 * b2n (safeOut n 0).on + 16 * b2n (safeOut n 1).on
    + 8 * b2n n.sa.block.isSome + tr.headD 0

/-- SF_STAT (R444). -/
def sfStat (n : Node) : Nat :=
  let s := n.sa
  let noblock := decide (s.lock.map SafeLock.cause = some 6)
  2 ^ 31 * b2n (s.lock.isSome && !noblock) + 2 ^ 30 * b2n noblock + 2 ^ 29 * b2n s.uvlo + 2 ^ 28 * b2n s.testing
    + 2 ^ 27 * b2n s.line.isSome + 2 ^ 26 * b2n (lineAlm n 1) + 2 ^ 25 * b2n (lineAlm n 0) + 2 ^ 24 * b2n s.code.isSome
    + 2 ^ 16 * mask 8 (pairTripped n) + 2 ^ 8 * spField n 4 1 + 2 * b2n (safeOut n 1).on + b2n (safeOut n 0).on

/-- One output in SF_OUTSTAT. -/
def outStat (n : Node) (k : Nat) : Nat :=
  let o := safeOut n k
  b2n (safeDemand n k) + 2 * b2n o.on + 4 * b2n o.high + 8 * b2n (localTrip n k) + 16 * b2n n.sa.line.isSome + 32 * b2n o.darkOk

/-- Nodes PX monitors. -/
def monitored (n : Node) : List (Nat × SafeMon) := n.sa.mons.filter (fun e => e.2.mon)

/-- Show the state of the channel in the SF view (R444). -/
def sfShow (n : Node) : Node :=
  let s := n.sa
  let w (n : Node) (a v : Nat) : Node := wr n a (BitVec.ofNat 32 v)
  let n := w n R.SF_STAT (sfStat n)
  let n := w n R.SF_LOCK (match s.lock with | none => 0 | some l => l.cnlo * 65536 + l.detail * 256 + l.cause)
  let n := w n R.SF_PAIRSTAT ((List.range 8).foldl (fun v k => v + (pairOf n k).st.code * 16 ^ k) 0)
  let n := w n R.SF_CONTACT (mask 16 (fun c => (contact n c).filt) + 65536 * mask 16 (fun c => (contact n c).tpErr))
  let n := w n R.SF_OUTSTAT (outStat n 0 + 256 * outStat n 1)
  let n := w n R.SF_SPVER (spField n 0 4)
  let n := w n R.SF_SPCHK (spField n 60 4)
  let ms := monitored n
  let n := w n R.SF_LINESTAT (min ms.length 511 * 2 ^ 22 + (ms.filter (fun e => e.2.tmo)).length * 4096
    + (match s.line with | none => 0 | some (f, _, _) => f))
  let n := w n R.SF_LINECN (match s.line with | none => (rd n R.SF_LINECN).toNat / 65536 * 65536 | some (_, r, c) => c * 65536 + r)
  w n R.SF_VBAT s.vbat

/-- A safety event: class S, with CODE 0x4000 plus the bit (R444). -/
def sfEvent (n : Node) (f : Field) (detail : List Byte := []) : Node := raise n .s 16 0 R.SF_EVT f detail
/-- Count in SF_CNT. -/
def sfCount (n : Node) (k : Nat) : Node := count n (R.SF_CNT k)

/-! ### Outputs and lock-out (R426 to R428) -/

/-- Bring output k to its demand (R426). -/
def driveOutput (n : Node) (k : Nat) : Node :=
  let o := safeOut n k
  let d := safeDemand n k
  if d = o.on then n
  else emit (setSafeOut n k { o with on := d, falling := if d then none else some 0, bad := 0 }) (.pin "SOUT" k d)

/-- Bring both outputs to their demand and show the view. -/
def sfRefresh (n : Node) : Node := sfShow (driveOutput (driveOutput n 0) 1)

/-- A change of SF_LOCK, or three wrong entries, or 600 s: the reset request is discarded with one class S event (R433). -/
def dropCode (n : Node) : Node :=
  if n.sa.code.isNone then n else otherEvent (withSf n (fun s => { s with code := none })) .s 16 0 R.SF_RSTSTAT

/-- A fault of Table SF-2 (R428): count, latch, switch off; `test` is the Table SF-6 test of SF_DIAG. -/
def sfFault (n : Node) (cause detail test : Nat) : Node :=
  let n := wr (sfCount n 2) R.SF_DIAG (BitVec.ofNat 32 test)
  if n.sa.lock.isNone || decide (n.sa.lock.map SafeLock.cause = some 6) then
    let n := withSf n (fun s => { s with
      lock := some ⟨cause, detail, cnNow n % 65536⟩, started := false, testing := false })
    dropCode (sfEvent n F.SF_EVT_LOCKOUT [BitVec.ofNat 8 cause, BitVec.ofNat 8 detail])
  else n

/-! ### Pairs (R425) -/

/-- Pair k enters a state. -/
def pairTo (n : Node) (k : Nat) (st : PairSt) (timed : Bool) : Node := setPair n k ⟨st, if timed then some 0 else none⟩

/-- A pair trips. -/
def pairTrip (n : Node) (k : Nat) (st : PairSt) : Node :=
  pairTo (sfEvent (sfCount n 0) F.SF_EVT_TRIP [BitVec.ofNat 8 k]) k st (st == .one)

/-- Pair k on the filtered states of its contacts before and after the sample (Table SF-1).  Both contacts changing in
ONE or RETURN is taken as the operation first, then the return (log entry 25). -/
def pairStep (n : Node) (k : Nat) (a0 b0 a1 b1 : Bool) : Node :=
  if a0 == a1 && b0 == b1 then n
  else
    let both := a1 && b1
    let none_ := !a1 && !b1
    match (pairOf n k).st with
    | .rest => if both then pairTrip n k .tripped else pairTrip n k .one
    | .one =>
      if both then pairTo n k .tripped false
      else if none_ then pairTo (sfEvent (sfCount n 1) F.SF_EVT_SINGLE [BitVec.ofNat 8 k]) k .rest false
      else pairTo n k .return true
    | .tripped =>
      if none_ then pairTo (sfEvent n F.SF_EVT_RELEASE [BitVec.ofNat 8 k]) k .rest false else pairTo n k .return true
    | .return =>
      if both then pairTo n k .tripped false
      else if none_ then pairTo (sfEvent n F.SF_EVT_RELEASE [BitVec.ofNat 8 k]) k .rest false
      else pairTo n k .return true
    | .unused => n
    | .fault => n

/-! ### Samples (R422 to R427) -/

/-- A sample of contact c at `v` against VBAT, both in 10 mV: operated below 0.6 × VBAT (R422). -/
def operated (vbat v : Nat) : Bool := decide (10 * v < 6 * vbat)

/-- Blanking of the contact's own test-pulse output (R424). -/
def blanked (n : Node) (c : Nat) : Bool := if feeds n c = 0 then decide (0 < n.sa.blank0) else decide (0 < n.sa.blank1)

/-- One sample of the filter of contact c (R424). -/
def filterStep (n : Node) (c : Nat) (op : Bool) : Node :=
  let x := contact n c
  let v := if blanked n c then x.last else op
  if v == x.filt then setContact n c { x with last := v, cnt := 0 }
  else if x.cnt + 1 ≥ filtSamples n (c / 2) then setContact n c { x with last := v, filt := v, cnt := 0 }
  else setContact n c { x with last := v, cnt := x.cnt + 1 }

/-- One sample of pair k: its filters, its state, its discrepancy time, which stands below 4.5 V (R430). -/
def pairSample (vbat : Nat) (vs : List Nat) (n : Node) (k : Nat) : Node :=
  if (pairOf n k).st = .unused then n
  else
    let a0 := (contact n (2 * k)).filt
    let b0 := (contact n (2 * k + 1)).filt
    let n := filterStep n (2 * k) (operated vbat (vs.getD (2 * k) 0))
    let n := filterStep n (2 * k + 1) (operated vbat (vs.getD (2 * k + 1) 0))
    let n := if n.sa.uvlo then n else setPair n k { pairOf n k with disc := (pairOf n k).disc.map (· + 1) }
    pairStep n k a0 b0 (contact n (2 * k)).filt (contact n (2 * k + 1)).filt

/-- One sample of the read-back of output k at `v` (10 mV) (R427): an energised output must read at least VBAT − 1.5 V;
one that is off at most 2.0 V from 1.2 ms after the switch-off; 2 ms of disagreement, or 5 ms while it switches off. -/
def readBack (vbat v : Nat) (n : Node) (k : Nat) : Node :=
  let o := safeOut n k
  if o.on then
    let agree := decide (vbat ≤ v + 150)
    let bad := if agree then 0 else o.bad + 1
    let n := setSafeOut n k { o with high := agree, falling := none, bad := bad }
    if bad = 200 then sfFault n 3 k 6 else n
  else
    let low := decide (v ≤ 200)
    match o.falling with
    | some t =>
      if low then setSafeOut n k { o with high := false, falling := none, bad := 0 }
      else
        let n := setSafeOut n k { o with high := true, falling := some (t + 1), bad := t + 1 - 120 }
        if t + 1 = 500 then sfFault n 3 k 6 else n
    | none =>
      let bad := if low then 0 else o.bad + 1
      let n := setSafeOut n k { o with high := !low, bad := bad }
      if bad = 200 then sfFault n 3 k 6 else n

/-- VBAT of a sample: below 4.5 V the outputs are off and UVLO is set (R430). -/
def uvloStep (n : Node) (vbat : Nat) : Node :=
  let n := withSf n (fun s => { s with vbat := vbat })
  if vbat < 450 ∧ !n.sa.uvlo then
    sfEvent (withSf n (fun s => { s with uvlo := true, started := false, testing := false })) F.SF_EVT_UVLO
  else n

/-- What makes a line trip at one monitored node: 3 timeout, 1 TRIP, 2 LOCKOUT; 0 none (R439). -/
def monReason (m : SafeMon) : Nat := if m.tmo then 3 else if m.trip then 1 else if m.lock then 2 else 0

/-- The first monitored node that makes a line trip, and why. -/
def lineCause (n : Node) : Option (Nat × Nat) :=
  ((monitored n).find? (fun e => monReason e.2 != 0)).map (fun e => (e.1, monReason e.2))

/-- A line trip begins (R439). -/
def lineTripBegin (n : Node) : Node :=
  match lineCause n, n.sa.line with
  | some (k, r), none =>
    sfEvent (withSf n (fun s => { s with line := some (k, r, cnNow n % 65536) })) F.SF_EVT_LINETRIP (leBytes 2 k ++ leBytes 1 r)
  | _, _ => n

/-- At a sample a line trip ends once no condition holds (R439). -/
def lineTripEnd (n : Node) : Node :=
  match lineCause n, n.sa.line with
  | none, some (k, _, _) => sfEvent (withSf n (fun s => { s with line := none })) F.SF_EVT_LINECLR (leBytes 2 k)
  | _, _ => n

/-- One sample: VBAT, the voltages of the 16 contacts and the two read-backs, all in 10 mV. -/
def sfSample (n : Node) (vbat : Nat) (vs : List Nat) (r0 r1 : Nat) : Node :=
  let n := uvloStep n vbat
  let n := forRange 8 (fun n k => pairSample vbat vs n k) n
  let n := withSf n (fun s => { s with blank0 := s.blank0 - 1, blank1 := s.blank1 - 1 })
  let n := lineTripBegin (lineTripEnd n)
  let n := readBack vbat r1 (readBack vbat r0 n 0) 1
  let n := driveOutput (driveOutput n 0) 1
  sfShow (withSf n (fun s => { s with states := (safeStateByte n :: s.states).take 3 }))

/-- SAFETY_INPUT_SAMPLE (R422): VBAT, the contacts 2 n (A) and 2 n + 1 (B) of pair n, and the read-backs, in 10 mV. -/
def execSafetyInputSample (vbat : BitVec 16) (contacts : List (BitVec 16)) (r0 r1 : BitVec 16) (s : State) :
    Host.Outcome State Fault Refusal :=
  onNode s (fun n => if sfOn n then sfSample n vbat.toNat (contacts.map BitVec.toNat) r0.toNat r1.toNat else n)

/-- A contact checked in a pulse of its test-pulse output: reading at rest in 2 consecutive pulses is a fault (R423). -/
def pulseCheck (o rest : Nat) (n : Node) (c : Nat) : Node :=
  if (pairOf n (c / 2)).st = .unused || feeds n c != o then n
  else
    let x := contact n c
    if !bitOf rest c then setContact n c { x with tpBad := 0 }
    else if x.tpBad + 1 = 2 then
      sfFault (sfCount (setContact n c { x with tpBad := 2, tpErr := true }) 5) 2 c 5
    else setContact n c { x with tpBad := x.tpBad + 1 }

/-- TEST_PULSE (R423): a pulse of TPO_o, and which contacts read at rest from 100 µs after its start until its end. -/
def execTestPulse (o : Fin 2) (rest : BitVec 16) (s : State) : Host.Outcome State Fault Refusal :=
  onNode s (fun n =>
    if !sfOn n then n
    else
      let n := emit (emit n (.pin "TPO" o.val false)) (.pin "TPO" o.val true)
      let n := withSf n (fun s => if o.val = 0 then { s with blank0 := 25 } else { s with blank1 := 25 })
      sfRefresh (forRange 16 (fun n c => pulseCheck o.val rest.toNat n c) n))

/-- DISCREPANCY_EXPIRY of pair k (R425), once its discrepancy time has run. -/
def execDiscrepancyExpiry (k : Fin 8) (s : State) : Host.Outcome State Fault Refusal :=
  onNode s (fun n =>
    let p := pairOf n k.val
    let due := (p.disc.elim false (fun d => decide (discSamples n k.val ≤ d)))
    if sfOn n && due && (p.st == .one || p.st == .return) && !n.sa.uvlo
    then sfRefresh (sfFault (pairTo n k.val .fault false) 1 k.val 7) else n)

/-- DARK_TEST of output k (R427): it is switched off for up to 500 µs; whether it then still reads above 2.0 V. -/
def execDarkTest (k : Fin 2) (high : Bool) (s : State) : Host.Outcome State Fault Refusal :=
  onNode s (fun n =>
    if sfOn n && (safeOut n k.val).on then
      let n := emit (emit n (.pin "SOUT" k.val false)) (.pin "SOUT" k.val true)
      let n := setSafeOut n k.val { safeOut n k.val with darkOk := !high }
      sfRefresh (if high then sfFault n 4 k.val 6 else n)
    else n)

/-- PERIODIC_DIAGNOSTIC (R441): a test of Table SF-6; tests 1 to 4 that fail lock out with SELFTEST.  Tests 5 to 7 are
TEST_PULSE, DARK_TEST, the read-backs and the pair states themselves. -/
def execPeriodicDiagnostic (test : Fin 8) (pass : Bool) (s : State) : Host.Outcome State Fault Refusal :=
  onNode s (fun n =>
    if sfOn n && !pass && decide (1 ≤ test.val) && decide (test.val ≤ 4) then sfRefresh (sfFault n 5 test.val test.val) else n)

/-! ### Start-up test and supply (R430) -/

/-- The channel becomes able to energise an output: the start-up test begins. -/
def startTest (n : Node) : Node :=
  if n.sa.lock.isNone && n.sa.block.isSome && !n.sa.uvlo then withSf n (fun s => { s with testing := true, started := false }) else n

/-- STARTUP_TEST: what the test found: in-use contacts that read at rest in both pulses of their output, outputs that
read above 2.0 V while off, and a failed test 1 to 4 of Table SF-6 (0 none).  A failure locks out with its cause. -/
def execStartupTest (contacts : BitVec 16) (high : BitVec 2) (diag : Fin 8) (s : State) : Host.Outcome State Fault Refusal :=
  onNode s (fun n =>
    if sfOn n && n.sa.testing then
      let n := withSf n (fun s => { s with testing := false })
      let bad := which 16 (fun c => (pairOf n (c / 2)).st != .unused && bitOf contacts.toNat c)
      match bad.head?, (which 2 (bitOf high.toNat)).head? with
      | some c, _ =>
        sfRefresh (sfFault (sfCount (setContact n c { contact n c with tpBad := 2, tpErr := true }) 5) 2 c 5)
      | none, some k => sfRefresh (sfFault n 3 k 6)
      | none, none =>
        if 1 ≤ diag.val ∧ diag.val ≤ 4 then sfRefresh (sfFault n 5 diag.val diag.val)
        else sfRefresh (withSf n (fun s => { s with started := true }))
    else n)

/-- VBAT_RECOVERY: VBAT has been at or above 4.5 V for 10 ms (R430). -/
def execVbatRecovery (vbat : BitVec 16) (s : State) : Host.Outcome State Fault Refusal :=
  onNode s (fun n =>
    if sfOn n && n.sa.uvlo && decide (450 ≤ vbat.toNat) then
      sfRefresh (startTest (withSf n (fun s => { s with uvlo := false, vbat := vbat.toNat })))
    else n)

/-! ### Applying a block (R299, R429, R448) -/

/-- PX applies a delivered block at a boundary where its CHECK is good (R299): pairs are taken into use in REST, or
become UNUSED; NOBLOCK ends (R429); the limp-home mask is copied into the island (R448). -/
def sfApply (n : Node) (b : List Byte) : Node :=
  if !sfOn n || (crc32c (b.take 60)).toNat != le b 60 4 || b.length != 64 then n
  else
    let n := withSf n (fun s => { s with block := some b, lhmask := le b 6 2 % 4096 })
    let n := wr n R.LS_LHMASK (BitVec.ofNat 32 (le b 6 2 % 4096))
    let n := sfEvent n F.SF_EVT_PARAM
    let n := forRange 8 (fun n k =>
      let used := (pairOf n k).st != .unused
      if peaEn n k == used then n
      else
        let n := setContact (setContact n (2 * k) {}) (2 * k + 1) {}
        setPair n k (if used then {} else { st := .rest })) n
    let n := if n.sa.lock.map SafeLock.cause = some 6 then startTest (withSf n (fun s => { s with lock := none })) else n
    sfRefresh n

/-! ### Deliberate reset (R431 to R433) -/

/-- A clearing is refused: 1 fault present, 2 SRESET_N low over 2.0 s. -/
def refuseClear (n : Node) (why : Nat) : Node :=
  sfCount (sf (sfEvent n F.SF_EVT_RSTREJ [BitVec.ofNat 8 why]) R.SF_RSTSTAT F.SF_RSTSTAT_REJECT why) 4

/-- Is no fault present (R431): every in-use pair at rest, test pulses and read-backs passing, a good block held? -/
def noFault (n : Node) : Bool :=
  n.sa.block.isSome
    && (List.range 16).all (fun c => (pairOf n (c / 2)).st == .unused || (!(contact n c).filt && (contact n c).tpBad == 0))
    && (List.range 2).all (fun k => (safeOut n k).on || !(safeOut n k).high)

/-- A clearing of the lock-out by 1 SRESET_N or 2 command (R431). -/
def clearLock (n : Node) (src : Nat) : Node :=
  if n.sa.lock.isNone then n
  else if !noFault n then sfShow (refuseClear n 1)
  else
    let n := dropCode (withSf n (fun s => { s with lock := none }))
    let n := forRange 16 (fun n c => setContact n c { contact n c with tpErr := false }) n
    let n := forRange 8 (fun n k => if (pairOf n k).st = .fault then pairTo n k .rest false else n) n
    let n := sf (sf n R.SF_RSTSTAT F.SF_RSTSTAT_SRC src) R.SF_RSTSTAT F.SF_RSTSTAT_CNLO (cnNow n)
    sfRefresh (startTest (sfEvent (sfCount n 3) F.SF_EVT_LOCKCLR [BitVec.ofNat 8 src]))

/-- SRESET_RELEASE (R432): a rising edge after `low` ms; `counted` is false for a pin that was low when the channel
started and has not been high for 100 ms since. -/
def execSresetRelease (low : BitVec 32) (counted : Bool) (s : State) : Host.Outcome State Fault Refusal :=
  onNode s (fun n =>
    if !sfOn n || !counted || n.sa.lock.isNone || decide (low.toNat < 10) then n
    else if 2000 < low.toNat then sfShow (refuseClear n 2)
    else if 500 ≤ low.toNat then clearLock n 1 else n)

/-- The reset code: CRC-32C of identity, CN of the request and cause, most significant byte first (R433). -/
def resetCode (n : Node) (cause : Nat) : BitVec 32 := crc32c (beBytes 8 n.uid.toNat ++ beBytes 6 (cnNow n) ++ beBytes 1 cause)

/-- A write of 1 to CF_SFRST.REQ by a session role (R433): 4 SAFETY; any other has no effect and records one class G
event.  Without a lock-out there is nothing to clear. -/
def sfrst (n : Node) (role : Nat) (v : BitVec 32) : Node :=
  if role = 0 then protectedWrite n R.CF_SFRST
  else if role ≠ 4 then otherEvent n .g 9 0 R.CF_SFRST
  else if v.getLsbD 0 = false then n
  else match n.sa.lock with
    | none => n
    | some l =>
      if !sfOn n then n
      else
        let code := resetCode n l.cause
        let n := withSf n (fun s => { s with code := some (code, 0) })
        sfShow (emit n (.bytes (ascii "SAFETY LOCKOUT RESET CODE " ++ hexDigits 8 code.toNat ++ [0x0D#8, 0x0A#8])))

/-- SFRST_REQUEST: the role of the session (0 none). -/
def execSfrstRequest (role : Fin 5) (s : State) : Host.Outcome State Fault Refusal :=
  onNode s (fun n => if lineOn n then sfrst n role.val 1#32 else n)

/-- RESET_CODE_EXPIRY: 600 s after the request (R433). -/
def execResetCodeExpiry (s : State) : Host.Outcome State Fault Refusal :=
  onNode s (fun n => if sfOn n then sfShow (dropCode n) else n)

/-- An entry of 8 digits against the reset code (R433): a match clears by R431. -/
def codeMatch (n : Node) : Node := clearLock (withSf n (fun s => { s with code := none })) 2

/-- A wrong entry counts against the request; the third discards it. -/
def codeWrong (n : Node) : Node :=
  match n.sa.code with
  | none => n
  | some (c, t) => if 2 ≤ t then sfShow (dropCode n) else withSf n (fun s => { s with code := some (c, t + 1) })

/-! ### Records on the line (R435 to R438) -/

/-- SCRC: the CRC-16 of R371 over identity, full CN, SEQ and STATE, most significant byte first (R435). -/
def scrc (uid cn seq state : Nat) : Nat := (crc16 (beBytes 8 uid ++ beBytes 6 cn ++ beBytes 1 seq ++ beBytes 1 state)).toNat

/-- P of R79. -/
def safetyP (mode : Nat) : Nat := if mode = 2 then 2 else 5

/-- Record j of cycle cn in which node k writes (R79); none in the other cycles. -/
def safetySlot (mode k cn : Nat) : Option Nat :=
  let p := safetyP mode
  if cn % p = (k - 1) % p then some ((k - 1) / p) else none

/-- Does this node write safety records (R435): LINEALM bit 0, a number, PX running? -/
def writesSafety (n : Node) : Bool := sfOn n && lineAlm n 0 && decide (ownNumber n ≠ 0)

/-- SEQ and STATE of the record of cycle cn: one per cycle, the same on both channels; STATE as decided at least 20 µs
before (R435). -/
def nextSafety (n : Node) (cn : Nat) : Node :=
  if n.sa.seqCn = some cn then n
  else
    let st := (n.sa.states.getLast?).getD (safeStateByte n)
    sfCount (withSf n (fun s => { s with seq := s.seq % 255 + 1, seqCn := some cn, seqState := st })) 6

/-- What PX keeps of the records of node k. -/
def mon (n : Node) (k : Nat) : SafeMon := look {} n.sa.mons k
/-- Set it. -/
def setMon (n : Node) (k : Nat) (m : SafeMon) : Node := withSf n (fun s => { s with mons := put {} s.mons k m })

/-- A record of node k in cycle cn, its tag checked by the caller (R436 to R438). -/
def acceptSafety (n : Node) (k cn seq state crc : Nat) (tagGood : Bool) : Node :=
  if !sfOn n || k = ownNumber n then n
  else
    let uid := rosterUid n k
    let m := mon n k
    if !tagGood || seq = 0 || crc ≠ scrc uid cn seq state then sfCount n 8
    else if m.seq = seq then n
    else
      let n := if m.seq ≠ 0 ∧ seq ≠ m.seq % 255 + 1 then sfCount n 10 else n
      let run := if cn = cnWrap (m.cn + safetyP (lineMode n)) then m.run + 1 else 1
      let m := { m with
        uid := uid, seq := seq, trip := bitOf state 7, lock := bitOf state 6, age := 0, cn := cn, run := run
        mon := m.mon || lineAlm n 1, tmo := m.tmo && decide (run < 8) }
      sfRefresh (lineTripBegin (sfCount (setMon n k m) 7))

/-- SAFETY_NODE_TIMEOUT of node k (R438): no record accepted for 160 cycles. -/
def execSafetyNodeTimeout (k : Fin 513) (s : State) : Host.Outcome State Fault Refusal :=
  onNode s (fun n =>
    let m := mon n k.val
    if sfOn n && m.mon && !m.tmo && decide (160 ≤ m.age) then
      let n := sfCount (setMon n k.val { m with tmo := true, run := 0 }) 9
      sfRefresh (lineTripBegin (sfEvent n F.SF_EVT_TIMEOUT (leBytes 2 k.val)))
    else n)

/-- The boundary: ages; no node is monitored while LINEALM bit 1 is 0 (R437). -/
def sfBoundary (n : Node) : Node :=
  if !sfOn n then n
  else
    let on := lineAlm n 1
    sfShow (withSf n (fun s => { s with
      mons := s.mons.map (fun e => (e.1, { e.2 with age := min 255 (e.2.age + 1), mon := e.2.mon && on, tmo := e.2.tmo && on })) }))

/-- Monitored identities take their numbers of the new epoch; one without a number departs with one class S event
that carries it; what was kept of unmonitored nodes ends with the epoch (R437). -/
def sfEpoch (n : Node) : Node :=
  let old := monitored n
  let n := withSf n (fun s => { s with mons := [] })
  let n := old.foldl (fun n e =>
    let k := numberOf n e.2.uid
    if k = 0 ∨ k = ownNumber n then sfEvent n F.SF_EVT_DEPART (leBytes 8 e.2.uid) else setMon n k e.2) n
  if sfOn n then sfShow n else n

/-- SF_MON[k] as read (R444). -/
def sfMonWord (n : Node) (k : Nat) : BitVec 32 :=
  let m := mon n k
  BitVec.ofNat 32 (2 ^ 31 * b2n m.mon + 2 ^ 30 * b2n m.tmo + 2 ^ 29 * b2n m.trip + 2 ^ 28 * b2n m.lock + m.seq * 256
    + (if m.seq = 0 then 0 else m.age))

/-! ### Power (R400, R428, R429) -/

/-- The Line group is powered: the channel starts, with the lock-out the island holds, or NOBLOCK (R429). -/
def sfPowerUp (n : Node) : Node :=
  if dieFailed n 7 then n
  else
    sfShow (wr { n with sa := { powered := true, lock := some (n.sa.lock.getD ⟨6, 0, cnNow n % 65536⟩), lhmask := n.sa.lhmask } }
      R.LS_LHMASK (BitVec.ofNat 32 n.sa.lhmask))

/-- The Line group loses power: both outputs off; the island keeps the lock-out and the limp-home mask.  NOBLOCK is no
held lock-out: every boot gives it anew. -/
def sfPowerDown (n : Node) : Node :=
  let off (n : Node) (k : Nat) : Node := if (safeOut n k).on then emit n (.pin "SOUT" k false) else n
  let n := off (off n 0) 1
  { n with sa := { lock := n.sa.lock.filter (fun l => l.cause != 6), lhmask := n.sa.lhmask } }

/-- An ISLAND reset loses what the island held: the channel starts locked out with cause ISLAND (R429), and the
limp-home mask is 0 (R448). -/
def sfIslandReset (n : Node) : Node := { n with sa := { lock := some { cause := 7 } } }

/-- PX fails: outputs to the safe state, the channel stops; the view keeps the last values read (Table AC-7, R444). -/
def sfPxFailed (n : Node) : Node :=
  let off (n : Node) (k : Nat) : Node := if (safeOut n k).on then emit n (.pin "SOUT" k false) else n
  off (off n 0) 1

end Sys2Proof.Machine
end

