-- ==== Sys2Proof/Machine/Csf.lean ====
section
/-! DEFINITION. Cycle start frames: composing, checking, taking and losing them (R61, R62, R66, R67, R108, R157,
R161, R339). -/

namespace Sys2Proof.Machine

/-- The fields of a CSF (Table LC-8). -/
def parseCsf (b : List Byte) : Csf :=
  { cn := be b 24 6, epoch := be b 30 2, leader := be b 32 8, origin := be b 40 8, nodes := be b 48 2, mode := be b 50 1
    d := be b 51 1, dmin := be b 52 1, segHead := bitOf (be b 53 1) 0, ringB := bitOf (be b 53 1) 1 }

/-- Does a CSF's tag verify under a key, at a CN (Tables LC-16, LC-17)? -/
def csfTagUnder (k : EpochKey) (c cn : Nat) (b : List Byte) : Bool :=
  fTagged b && decide (itemTag k cn c 1 0 0xFFFF (fSrc b) (headerBare b ++ cut b 24 64) = cut b 88 8)

/-- The CN a CSF is checked at: rebuilt from the node's own CN, or, before the node is in the time domain and between
a yield and its step, the CSF's own (R66, R116, R339). -/
def csfCn (n : Node) (f : Csf) : Nat :=
  if hasDomain n && !n.inn.provisional then rebuildCn (cnNow n) (f.cn % 65536) else f.cn

/-- What a received CSF is to the node. -/
inductive CsfVerdict where
  /-- its CRC is bad, or the node holds no K_T (R340) -/
  | unusable
  /-- its CN or epoch does not agree (R66) -/
  | mismatch
  /-- its tag fails (R87) -/
  | badTag
  /-- CRC good, and the node holds no verified key: window timing only (R62) -/
  | timing
  /-- verified -/
  | good
  /-- of an epoch whose COMMIT the node missed (R108) -/
  | late (pr : Prepared)
  /-- of an epoch for which the node holds no number; it verifies under that epoch's key in the node's TDOM (R108) -/
  | foreign (k : EpochKey)
  deriving DecidableEq, Repr

/-- A CSF of another epoch than the one in force at its CN (R108). -/
def judgeOther (n : Node) (c : Nat) (b : List Byte) (f : Csf) : CsfVerdict :=
  let prep := match n.inn.prepared with
    | some pr => if pr.epoch = f.epoch then some pr else none
    | none => none
  match prep with
  | some pr =>
    match n.line.nextKeys.find? (fun k => k.epoch == f.epoch && k.tdom == pr.tdom) with
    | some k => if csfTagUnder k c (csfCn n f) b then .late pr else .badTag
    | none => .mismatch
  | none =>
    match n.line.kt with
    | some kt =>
      let k := epochKeyOf kt (ownTdom n) f.epoch
      if csfTagUnder k c (csfCn n f) b && !originates n c then .foreign k else .mismatch
    | none => .unusable

/-- Check a CSF (R62, R64, R66, R87, R340). -/
def judgeCsf (n : Node) (c : Nat) (b : List Byte) (f : Csf) : CsfVerdict :=
  if crcClass b ≠ .good ∨ n.line.kt = none then .unusable
  else match keyAt n (csfCn n f) with
    | none => .timing
    | some k =>
      if fCnlo b ≠ csfCn n f % 65536 then .mismatch
      else if f.epoch = k.epoch && fEpochlo b = k.epoch % 256 then
        (if csfTagUnder k c (csfCn n f) b then .good else .badTag)
      else judgeOther n c b f

/-- The line mode in force, and MODEMIS with its class G event (R157). -/
def takeMode (n : Node) (mode : Nat) : Node :=
  if mode > 2 then n
  else
    let n := forRange 2 (fun n c => sf n (R.LC_STAT c) F.LC_STAT_MODE mode) n
    if mode = gf n R.DU_CFG F.DU_CFG_MODE then sf n R.DU_STAT F.DU_STAT_MODEMIS 0
    else if gf n R.DU_STAT F.DU_STAT_MODEMIS = 1 then n
    else raise (sf n R.DU_STAT F.DU_STAT_MODEMIS 1) .g 5 0 R.DU_EVT F.DU_EVT_MODEMIS

/-- LC_STAT.FLYWHEEL shows the longer of the two passes' runs without a valid CSF, stopping at 7 (R62). -/
def showFlywheel (n : Node) (c : Nat) : Node :=
  sf n (R.LC_STAT c) F.LC_STAT_FLYWHEEL (min 7 (max (chan n c).outMiss (chan n c).retMiss))

/-- A valid CSF opens the outbound pass: windows, CSFVALID, the end of upstream loss (R62). -/
def openOutbound (n : Node) (c : Nat) (f : Csf) : Node :=
  let x := chan n c
  let n := setChan n c { x with
    outCsf := some f, outMiss := 0
    segHeadCns := if f.segHead then (f.cn :: x.segHeadCns).take 16 else x.segHeadCns }
  let n := sf (sf n (R.LC_STAT c) F.LC_STAT_CSFVALID 1) (R.LC_STAT c) F.LC_STAT_UPLOSS 0
  showFlywheel n c

/-- A valid CSF opens the return pass. -/
def openReturn (n : Node) (c : Nat) (f : Csf) : Node :=
  showFlywheel (setChan n c { chan n c with retCsf := some f, retMiss := 0 }) c

/-- LISTEN and CONTEND end at a valid CSF (Table IN-2): any CSF of good CRC that a node with K_T receives. -/
def integrateOnCsf (n : Node) (p : Nat) : Node :=
  if inState n = 1 || inState n = 2 then
    let n := sf (setInState n 3) R.IN_STAT F.IN_STAT_FALLBACK 0
    let n := forRange 2 (fun n c =>
      if c = p / 2 then sf n (R.LC_STAT c) F.LC_STAT_INNER (p % 2) else n) n
    refreshRoles n
  else n

/-- What a verified CSF says beyond its timing (R67, R157). -/
def useCsf (n : Node) (c : Nat) (f : Csf) : Node :=
  let n := takeMode n f.mode
  let old := gf n (R.LC_PRES c) F.LC_PRES_D
  let n := sf (sf n (R.LC_PRES c) F.LC_PRES_D f.d) (R.LC_PRES c) F.LC_PRES_DMIN f.dmin
  let n := if old ≠ f.d && old ≠ 0 then lcEvt n c F.LC_EVT_DCHG else n
  let n := sf n (R.LC_STAT c) F.LC_STAT_EPOCHLO (f.epoch % 256)
  if epochNow n = 0 then setImg n 16 (leBytes 8 f.leader) else n

/-- A CSF shows an epoch for which the node holds no number (R108). -/
def enterForeign (n : Node) (k : EpochKey) : Node :=
  let n := loseNumber { n with inn := { n.inn with prepared := none } }
  let n := sf n R.IN_EPOCH F.IN_EPOCH_EPOCH k.epoch
  refreshRoles (setKey n (some k))

/-- Flags of the port on which a valid CSF came (R110, R160, R162). -/
def notePortCsf (n : Node) (p : Nat) (turned : Bool) (f : Csf) : Node :=
  let x := port n p
  if turned then setPort n p { x with retNow := true }
  else setPort n p { x with csfNow := true, csfLeaderNow := x.csfLeaderNow || !f.segHead }

/-- Take a CSF that counts as valid. -/
def acceptCsf (n : Node) (c p : Nat) (turned verified : Bool) (f : Csf) : Node :=
  let n := integrateOnCsf n p
  let n := if verified && !(originates n c && !turned) then useCsf n c f else if verified then n else takeMode n f.mode
  let n := notePortCsf n p turned f
  if turned then openReturn n c f
  else if originates n c then n
  else
    let n := openOutbound n c f
    if turns n c then openReturn n c f else n

/-- Check a CSF and take what it gives; `stamp` is its corrected ingress stamp. -/
def readCsf (n : Node) (c p : Nat) (stamp : Stamp) (b : List Byte) : Node :=
  let f := parseCsf b
  let turned := fTurned b
  let keep := fun (n : Node) =>
    if turned || originates n c then n else setChan n c { chan n c with rawCsf := some (b, p, stamp) }
  match judgeCsf n c b f with
  | .unusable => n
  | .mismatch => cnMismatch n c
  | .badTag => tagFailure n c
  | .timing => acceptCsf (keep n) c p turned false f
  | .good => acceptCsf (keep n) c p turned true f
  | .late pr => acceptCsf (keep (refreshRoles (lateAdoption n pr f.cn))) c p turned true f
  | .foreign k => acceptCsf (keep (enterForeign n k)) c p turned true f

/-- Pass a CSF on and keep its egress stamp (R53). -/
def passCsf (n : Node) (c : Nat) (b : List Byte) (egress : BitVec 40) : Node :=
  if role n c = 0 || (originates n c && !fTurned b) then n
  else
    let n := (passFrame n c b b false).1
    let q := if fTurned b || turns n c then innerPort n c else outerPort n c
    if originates n c then n
    else setPort n q { port n q with csfOut := some ⟨stampOut n q egress, fCnlo b⟩ }

/-- The originator's own CSF has returned: the lap from its egress to this ingress, in ns (LC_LAP). -/
def noteLap (n : Node) (c cnlo : Nat) (t : Stamp) : Node :=
  match (chan n c).sent.find? (fun e => e.1 == cnlo) with
  | some (_, out) => setChan n c { chan n c with lap := (stampDiff t out).toNat / 256 }
  | none => n

/-- CSF_RECEIVED (R62): on port p, with the raw stamps of its ingress and of its egress where it is passed on. -/
def execCsfReceived (p : Fin 4) (frame : List Byte) (ingress egress : BitVec 40) (s : State) :
    Host.Outcome State Fault Refusal :=
  onNode s (fun n =>
    let p := p.val
    let c := p / 2
    if !lineOn n || !lineDieOk n c || !portPasses n p then n
    else if fType frame ≠ 1 then notPermitted n c frame
    else
      let n := countCrc n p frame
      let t := stampIn n p ingress
      let n := setPort n p { port n p with csfIn := some ⟨t, fCnlo frame⟩ }
      let n := if fTurned frame && originates n c then noteLap n c (fCnlo frame) t else n
      let n := readCsf n c p t frame
      passCsf n c frame egress)

/-- The CSF a pass goes on with where none came: the next CN (R62). -/
def nextCsf (f : Option Csf) : Option Csf := f.map (fun f => { f with cn := cnWrap (f.cn + 1) })

/-- CSF_FLYWHEEL (R62): a pass of a channel has no valid CSF in a cycle. -/
def execCsfFlywheel (c : Fin 2) (ret : Bool) (s : State) : Host.Outcome State Fault Refusal :=
  onNode s (fun n =>
    let c := c.val
    if !lineOn n || originates n c || role n c = 0 then n
    else
      let x := chan n c
      let n := if ret then setChan n c { x with retMiss := x.retMiss + 1, retCsf := nextCsf x.retCsf }
        else sf (setChan n c { x with outMiss := x.outMiss + 1, outCsf := nextCsf x.outCsf }) (R.LC_STAT c) F.LC_STAT_CSFVALID 0
      lcEvt (lcCount (showFlywheel n c) c 16) c F.LC_EVT_FLYWHEEL)

/-- UPSTREAM_LOSS (R62): 2 consecutive cycles without a valid CSF on the outbound pass. -/
def execUpstreamLoss (c : Fin 2) (s : State) : Host.Outcome State Fault Refusal :=
  onNode s (fun n =>
    let c := c.val
    if (chan n c).outMiss < 2 || gf n (R.LC_STAT c) F.LC_STAT_UPLOSS = 1 || originates n c then n
    else raise (sf n (R.LC_STAT c) F.LC_STAT_UPLOSS 1) .n 3 c (R.LC_EVT c) F.LC_EVT_UPLOSS)

/-! ### Originating (R61, R67, R161) -/

/-- NODES of the node's CSF on channel c: nodes from the originator to the tail (Table LC-8, R161). -/
def csfNodes (n : Node) (c : Nat) : Nat :=
  if role n c = 2 then nodesNow n - ownNumber n + 1
  else if role n c = 6 && !isLeader n then 1 else if nodesNow n = 0 then 1 else nodesNow n

/-- The CSF of the node for cycle `cn` (R61, R67, R93, R161). -/
def makeCsf (n : Node) (c cn : Nat) : List Byte :=
  let other := (chan n (1 - c)).outCsf
  let head := decide (role n c = 2) || (decide (role n c = 6) && isSegHead n c)
  let leader := if head then other.elim (imgLeader n) (·.leader)
    else if isLeader n then n.uid.toNat else imgLeader n
  let d := if head then other.elim (gf n (R.LC_PRES c) F.LC_PRES_D) (·.d) else gf n (R.LC_PRES c) F.LC_PRES_D
  let dmin := if head then other.elim (gf n (R.LC_PRES c) F.LC_PRES_DMIN) (·.dmin) else gf n (R.LC_PRES c) F.LC_PRES_DMIN
  let epoch := epochAt n cn
  let flags := b2n head + 2 * b2n (c = 1 && ringBOrigin n && !head)
  let hdr := header 1 0 (cn % 65536) (epoch % 256) 128 (ownNumber n) 72 0xFFFF 0
  let body := beBytes 6 cn ++ beBytes 2 epoch ++ beBytes 8 leader ++ beBytes 8 n.uid.toNat ++ beBytes 2 (csfNodes n c)
    ++ beBytes 1 (lineMode n) ++ beBytes 1 d ++ beBytes 1 dmin ++ beBytes 1 flags ++ List.replicate 34 0#8
  let bare := overlay hdr 5 [0#8]
  let tag := makeTag n cn c 1 0 0xFFFF (ownNumber n) (bare ++ body)
  withCrc (preamble ++ hdr ++ body ++ tag ++ [0#8, 0#8, 0#8, 0#8]) false

/-- CSF_TRANSMIT at the boundary that opens cycle `cn` (R61); the raw egress stamp is the boundary's input. -/
def csfTransmit (n : Node) (c cn : Nat) (egress : BitVec 40) : Node :=
  if !originates n c then n
  else
    let b := makeCsf n c cn
    let f := parseCsf b
    let q := innerPort n c
    let t := stampOut n q egress
    let x := chan n c
    let n := setChan n c { x with
      outCsf := some f, sent := ((cn % 65536, t) :: x.sent).take 32
      segHeadCns := if f.segHead then (f.cn :: x.segHeadCns).take 16 else x.segHeadCns }
    if role n c = 6 then setChan n c { chan n c with retCsf := some f }
    else setPort (sendFrame n q b) q { port n q with csfOut := some ⟨t, cn % 65536⟩ }

end Sys2Proof.Machine
end

