-- ==== Sys2Proof/Machine/MiniSlot.lean ====
section
/-! DEFINITION. Mini-slots: classes, claims, chains, sending and receiving of line messages
(spec/03_line_cycle.md, R80 to R83; R266, R278). -/

namespace Sys2Proof.Machine

/-- Fragments of a message of `len` payload bytes (R82). -/
def fragments (len : Nat) : Nat := max 1 (ceilDiv len 160)

/-- Length of a message on the wire: a class C message carries an 8-byte tag (Table LC-16). -/
def LineMsg.wireLen (m : LineMsg) : Nat := m.payload.length + (if m.cls = .control then 8 else 0)

/-- FLAGS of fragment i of k (Table LC-7). -/
def fragFlags (m : LineMsg) (i k : Nat) : Nat :=
  (if m.cls = .control then 128 else 0) + (if i = 0 then 32 else 0) + (if i + 1 = k then 16 else 0)

/-- The header of fragment i of a message that starts in mini-slot `first`. -/
def fragHeader (n : Node) (m : LineMsg) (first i cn : Nat) : List Byte :=
  let len := min 160 (m.wireLen - 160 * i)
  headerOf n m.type (first + i) cn (fragFlags m i (fragments m.wireLen)) (ownNumber n) len m.dest m.stream

/-- The whole payload of a message on channel c, its tag included (R87, Table LC-16). -/
def wirePayload (n : Node) (c : Nat) (m : LineMsg) (first cn : Nat) : List Byte :=
  if m.cls = .control then
    let bare := overlay (fragHeader n m first 0 cn) 5 [0#8]
    m.payload ++ makeTag n cn c m.type first 0xFFFF (ownNumber n) (bare ++ m.payload)
  else m.payload

/-- The frame of fragment i. -/
def fragFrame (n : Node) (c : Nat) (m : LineMsg) (first i cn : Nat) : List Byte :=
  buildFrame (lineMode n) m.type (fragHeader n m first i cn) ((wirePayload n c m first cn).drop (160 * i))

/-- Send a frame of the node's own into the outbound pass of channel c: on the inner port at the originator, onto the
return pass at a tail, and on the outer port otherwise. -/
def sendOwn (n : Node) (c : Nat) (b : List Byte) (stompable : Bool) : Node :=
  if originates n c then
    if role n c = 6 then emit n (.ownCycle c (orFrameFlags b 0x08#8)) else sendFrame n (innerPort n c) b
  else if turns n c then
    sendFrame n (innerPort n c) (withCrc (orFrameFlags b 0x08#8) (stompable && breakStomp n c))
  else sendFrame n (outerPort n c) b

/-- A claim of a class is counted (R81, R83). -/
def countClaim (n : Node) (c : Nat) (cls : MsClass) : Node :=
  let x := chan n c
  match cls with
  | .control => lcCount (setChan n c { x with claimsC := x.claimsC + 1 }) c 11
  | .message => lcCount (setChan n c { x with claimsML := x.claimsML + 1 }) c 10
  | .log =>
    let h := match x.logHist with
      | [] => [1]
      | k :: ks => (k + 1) :: ks
    lcCount (lcCount (setChan n c { x with claimsML := x.claimsML + 1, logHist := h }) c 10) c 17

/-- May the node make a claim of a class on channel c now (R81, R83)? -/
def mayClaim (n : Node) (c : Nat) (cls : MsClass) : Bool :=
  let x := chan n c
  let cfg := R.LC_CFG (cfgChan n c)
  let quota := if x.starved then min 1 (ff n cfg F.LC_CFG_MSQUOTA) else ff n cfg F.LC_CFG_MSQUOTA
  let ml := decide (x.claimsML < quota) && (x.starved || !x.yield)
  match cls with
  | .control => decide (x.claimsC < 4)
  | .message => ml
  | .log => ml && decide (x.logHist.sum < ff n cfg F.LC_CFG_LOGQ)

/-- STARVED_CLEAR (R83): the waiting message has been sent. -/
def messageSent (n : Node) (c : Nat) (m : LineMsg) : Node :=
  let x := chan n c
  match m.cls with
  | .control => n
  | _ => setChan n c { x with starved := false, waited := 0, abandoned := 0, retry := none }

/-- Remember the message sent in ring and forerunner modes, so that its other copy is the same message (R57). -/
def noteRingSent (n : Node) (c cn : Nat) (m : LineMsg) : Node :=
  if isNative n then n
  else
    let cs := match n.line.ringSent with
      | some (k, cs, m') => if k = cn ∧ m' = m then c :: cs else [c]
      | none => [c]
    { n with line := { n.line with ringSent := some (cn, cs, m) } }

/-- Start sending a message in mini-slot `slot` of cycle `cn`. -/
def startMessage (n : Node) (c slot cn : Nat) (m : LineMsg) : Node :=
  let k := fragments m.wireLen
  let n := countClaim n c m.cls
  let n := noteRingSent n c cn m
  let n := if m.type = 0x0A && be m.payload 0 2 = gf n R.IN_PROPSTAT F.IN_PROPSTAT_PSEQ then sf n R.IN_PROPCTL F.IN_PROPCTL_GO 0 else n
  let n := sendOwn n c (fragFrame n c m slot 0 cn) true
  if k ≤ 1 then messageSent n c m
  else setChan n c { chan n c with chain := some ⟨m, slot + 1, 1, cn⟩ }

/-- CHAIN_ABANDON (R82): the message is sent again whole in a later cycle. -/
def abandonChain (n : Node) (c : Nat) (ch : Chain) : Node :=
  let x := chan n c
  let n := setChan n c { x with
    chain := none, abandoned := if ch.msg.cls = .control then x.abandoned else x.abandoned + 1
    retry := if ch.msg.cls = .control then x.retry else some ch.msg
    control := if ch.msg.cls = .control then ch.msg :: x.control else x.control }
  lcCount n c 12

/-- A mini-slot passes outbound already claimed: a chain in progress there is abandoned (R82). -/
def noteClaimed (n : Node) (c : Nat) (b : List Byte) : Node :=
  match (chan n c).chain with
  | some ch => if !fTurned b && decide (fType b ≠ 8) then abandonChain n c ch else n
  | none => n

/-- The next fragment of a chain in progress. -/
def continueChain (n : Node) (c : Nat) (ch : Chain) : Node :=
  let first := ch.nextSlot - ch.nextFrag
  let n := sendOwn n c (fragFrame n c ch.msg first ch.nextFrag ch.cn) true
  if ch.nextFrag + 1 < fragments ch.msg.wireLen then
    setChan n c { chan n c with chain := some { ch with nextSlot := ch.nextSlot + 1, nextFrag := ch.nextFrag + 1 } }
  else messageSent (setChan n c { chan n c with chain := none }) c ch.msg

/-- A log record read from a queue cell, as the line carries it (R272, R278). -/
def lineRecord (b : List Byte) : List Byte :=
  let rev := fun off len => (cut b off len).reverse
  rev 0 6 ++ rev 6 2 ++ rev 8 4 ++ cut b 12 2 ++ rev 14 2 ++ rev 16 2 ++ rev 18 2 ++ cut b 20 12

/-- The used records of a log cell: slots whose CLASS is not 0xFF (R274). -/
def cellRecords (b : List Byte) : List (List Byte) :=
  (([0, 1, 2, 3] : List Nat).map (fun i => cut b (32 * i) 32)).filter (fun r => be r 12 1 != 255)

/-- LINE_LOG_SEND: the next class L message of channel c, 1 to 4 records of one cell (R278). -/
def takeLog (n : Node) (c : Nat) : Node × Option LineMsg :=
  let q := if isNative n then 22 + c else 22
  if n.qm.collector = 0 || n.qm.collector = ownNumber n then (n, none)
  else match headEntry n q with
    | none => (n, none)
    | some h =>
      let rs := cellRecords h.bytes
      let n := countBy (removeHead n q h) (R.QM_CNT 11) rs.length
      (n, some { type := 0x0D, cls := .log, dest := n.qm.collector, payload := rs.flatMap lineRecord })

/-- The next class M message, the head entry of a queue (R266).  The spec does not name the queue, DEST or STREAM:
they are the command's (log entry 10). -/
def takeMessage (n : Node) (q dest stream : Nat) : Node × Option LineMsg :=
  match (desc n q).kind with
  | .frame =>
    match peekFrame n q with
    | some (_, payload) =>
      if payload.length ≤ 1440 then
        ((popFrame n q).1, some { type := 9, cls := .message, dest := dest, stream := stream, payload := payload })
      else (n, none)
    | none => (n, none)
  | _ =>
    match headEntry n q with
    | some h => (removeHead n q h, some { type := 9, cls := .message, dest := dest, stream := stream, payload := h.bytes })
    | none => (n, none)

/-- Does a message of `len` bytes fit into the mini-slots that remain from `slot` (R82)? -/
def fitsSegment (n : Node) (slot len : Nat) : Bool := decide (slot + fragments len ≤ miniCount (lineMode n))

/-- The message the other channel has already carried in this cycle, in ring and forerunner modes (R57). -/
def ringCopy (n : Node) (c cn : Nat) : Option LineMsg :=
  if isNative n then none
  else match n.line.ringSent with
    | some (k, cs, m) => if k = cn && !cs.contains c then some m else none
    | none => none

/-- The next class L message, where it may be claimed (R81). -/
def claimLog (n : Node) (c slot cn : Nat) : Node × Bool :=
  if mayClaim n c .log then
    match takeLog n c with
    | (n', some m) => (startMessage n' c slot cn m, true)
    | (_, none) => (n, false)
  else (n, false)

/-- The next class M message, or a message that is sent again whole, where it may be claimed and fits; else class L
(R81 to R83). -/
def claimMessage (n : Node) (c slot cn q dest stream : Nat) : Node × Bool :=
  let wait := fun (n : Node) => setChan n c { chan n c with waitNow := true }
  match (chan n c).retry with
  | some m =>
    if mayClaim n c m.cls && fitsSegment n slot m.wireLen then (startMessage n c slot cn m, true) else (wait n, false)
  | none =>
    if mayClaim n c .message then
      match takeMessage n q dest stream with
      | (n', some m) =>
        if fitsSegment n slot m.wireLen then (startMessage n' c slot cn m, true) else claimLog (wait n) c slot cn
      | (_, none) => claimLog n c slot cn
    else (if decide ((desc n q).fill ≠ 0) then wait n else n, false)

/-- Claim an empty mini-slot in class order: class C first, then M, then L (R80, R81).  A class C message that may not be
claimed here, for its limit or its length, does not hold back the other classes. -/
def claimSlot (n : Node) (c slot cn q dest stream : Nat) : Node × Bool :=
  let x := chan n c
  match ringCopy n c cn with
  | some m =>
    if mayClaim n c m.cls && fitsSegment n slot m.wireLen then (startMessage n c slot cn m, true) else (n, false)
  | none =>
    match x.control with
    | m :: ms =>
      if mayClaim n c .control && fitsSegment n slot m.wireLen then
        let n := if isNative n then setChan n c { x with control := ms }
          else forRange 2 (fun n k => setChan n k { chan n k with control := (chan n k).control.filter (fun y => y != m) }) n
        (startMessage n c slot cn m, true)
      else claimMessage n c slot cn q dest stream
    | [] => claimMessage n c slot cn q dest stream

/-- MINISLOT_CLAIM (R80): an unclaimed mini-slot arrives on the outbound pass. -/
def execMinislotClaim (c : Fin 2) (frame : List Byte) (queue : Fin 1048576) (dest : BitVec 16) (stream : BitVec 32)
    (s : State) : Host.Outcome State Fault Refusal :=
  onNode s (fun n =>
    let c := c.val
    if !hears n c frame then n
    else if !miniTypeOk (fType frame) then notPermitted n c frame
    else
      let n := countCrc n (rxPort n c frame) frame
      if fType frame ≠ 8 || fTurned frame || !passesCn n c frame then
        (passFrame (noteClaimed n c frame) c frame frame true).1
      else
        let slot := fIndex frame
        let cn := cnOf n c frame
        match (chan n c).chain with
        | some ch =>
          if ch.nextSlot = slot ∧ ch.cn = cn then continueChain n c ch
          else (passFrame (abandonChain n c ch) c frame frame true).1
        | none =>
          if ownNumber n = 0 || !cxAlive n then (passFrame n c frame frame true).1
          else
            let (n, done) := claimSlot n c slot cn queue.val dest.toNat stream.toNat
            if done then n else (passFrame n c frame frame true).1)

/-! ### Receiving -/

/-- A chain assembled from its fragments: type, source, first header, whole payload. -/
structure Received where
  type : Nat
  src : Nat
  dest : Nat
  stream : Nat
  cn : Nat
  index : Nat
  head : List Byte
  payload : List Byte
  deriving DecidableEq, Repr

/-- Take one fragment of a chain on channel c (R82): the whole message once LAST has come. -/
def assemble (n : Node) (c : Nat) (b : List Byte) : Node × Option Received :=
  let x := chan n c
  let cn := cnOf n c b
  let part := cut b 24 (min 160 (fLen b))
  let src := fSrc b
  if fFirst b then
    if fLast b then
      (n, some ⟨fType b, src, fDest b, fStream b, cn, fIndex b, cut b 8 16, part⟩)
    else
      let rx : RxChain := ⟨src, fType b, cut b 8 16, part, fIndex b + 1, cn⟩
      (setChan n c { x with rx := rx :: x.rx.filter (fun r => r.src != src || r.type != fType b) }, none)
  else match x.rx.find? (fun r => r.src == src && r.type == fType b && r.next == fIndex b && r.cn == cn) with
    | some r =>
      let rest := x.rx.filter (fun r => r.src != src || r.type != fType b)
      if fLast b then
        (setChan n c { x with rx := rest },
          some ⟨r.type, src, be r.head 10 2, be r.head 12 4, cn, be r.head 1 1, r.head, r.payload ++ part⟩)
      else (setChan n c { x with rx := { r with payload := r.payload ++ part, next := r.next + 1 } :: rest }, none)
    | none => (n, none)

/-- Is a tagged chain good: TAGGED set and its tag verifies (Table LC-16, R87)? -/
def chainTagOk (n : Node) (c : Nat) (r : Received) : Bool :=
  let len := r.payload.length
  bitOf (be r.head 5 1) 7 && decide (8 ≤ len) &&
    tagOk n r.cn c r.type r.index 0xFFFF r.src (overlay r.head 5 [0#8] ++ r.payload.take (len - 8)) (r.payload.drop (len - 8))

/-- Has a mini-slot message of this cycle with the same TYPE, SRCNODE and payload been taken from the other channel (R57)? -/
def msTaken (n : Node) (r : Received) : Bool :=
  !isNative n && n.line.usedMs.contains (r.cn, r.type, r.src, r.payload)

/-- Note it. -/
def takeMs (n : Node) (r : Received) : Node :=
  if isNative n then n
  else { n with line := { n.line with usedMs := ((r.cn, r.type, r.src, r.payload) :: n.line.usedMs).take 256 } }

/-- Is a message for this node? -/
def forMe (n : Node) (dest : Nat) : Bool := dest == 0xFFFF || (dest != 0 && dest == ownNumber n)

/-- Push a line message into its destination queue (R266): the header of Table QM-2, PORT the source node; the spec
gives FFLAGS, TS and AUX of a line frame no other content. -/
def pushLineMessage (n : Node) (q : Nat) (r : Received) : Node :=
  let h : FrameHeader := { len := r.payload.length, port := r.src, cnlo := r.cn % 65536, ts := (nowNs n).toNat, aux := r.stream }
  match (desc n q).kind with
  | .frame => (pushFrame n q h r.payload).1
  | _ => (pushCell n q (cut r.payload 0 128)).1

/-- Read a data container (R74): a frame for this node goes to a queue. -/
def readData (n : Node) (c : Nat) (b : List Byte) (q : Nat) : Node :=
  let key := (cnOf n c b, 3, fIndex b, 0)
  if usable n c b && !isUsed n key && fSrc b ≠ 0 && !fNull b && forMe n (fDest b) then
    pushLineMessage (markUsed n key) q
      ⟨3, fSrc b, fDest b, fStream b, cnOf n c b, fIndex b, cut b 8 16, cut b 40 (min 1440 (fLen b))⟩
  else n

/-- The sluice blocks the node's lanes of a container that is not AUDIO (R91): each lane with a block to write. -/
def blockLanes (n : Node) (w : Sparse (BitVec 32)) (c cn s : Nat) : Node :=
  (which (laneCount (lineMode n)) (fun k => decide (laneMode w (cfgChan n c) s k ≠ 0) && (ownBlock n cn (laneAddr (cfgChan n c) s k)).isSome)).foldl
    (fun n _ => localBlocked n c) n

/-- The outbound pass of a data container. -/
def dataOutbound (n : Node) (c : Nat) (b : List Byte) (q dest stream sink : Nat) : Node :=
  let cn := cnOf n c b
  let (n, out) :=
    if !passesCn n c b then (cnMismatch n c, b)
    else match cfgAt n cn with
      | none => (lcCount n c 4, b)
      | some w =>
        let n := blockLanes n w c cn (fIndex b)
        if ownNumber n = 0 || !slotOwn w (cfgChan n c) (fIndex b) || slotKind (lineMode n) w (cfgChan n c) (fIndex b) ≠ 2 then (n, b)
        else if fSrc b ≠ 0 then (lcEvt (lcCount n c 7) c F.LC_EVT_COLLIDE, b)
        else writeDataSlot n c b q dest stream
  let (n, read) := passFrame n c b out true
  if read then readData n c (turnedCopy b out) sink else n

/-- DATA_SLOT_OUTBOUND (R74).  The queue that feeds an owned slot, DEST and STREAM of its frames, and the queue of a
frame that a tail reads here are not named by the spec: they are the command's (log entry 10). -/
def execDataSlotOutbound (c : Fin 2) (frame : List Byte) (queue : Fin 1048576) (dest : BitVec 16) (stream : BitVec 32)
    (sink : Fin 1048576) (s : State) : Host.Outcome State Fault Refusal :=
  onNode s (fun n =>
    if !hears n c.val frame then n
    else if fType frame ≠ 3 || !slotTypeOk (lineMode n) (fIndex frame) 3 then notPermitted n c.val frame
    else dataOutbound (countCrc n (rxPort n c.val frame) frame) c.val frame queue.val dest.toNat stream.toNat sink.val)

/-- Pass a claimed mini-slot, or a data container, and read it on the return pass: what it completes, if anything. -/
def receiveMini (n : Node) (c : Nat) (b : List Byte) : Node × Option Received :=
  let n := countCrc n (rxPort n c b) b
  let n := if passesCn n c b then n else cnMismatch n c
  let n := noteClaimed n c b
  let (n, read) := passFrame n c b b true
  if read && usable n c b then assemble n c b else (n, none)

/-- MINISLOT_MESSAGE_RECEIVED (R266): a message, or a frame of a data slot, for this node.  The destination queue is not
named by the spec: it is the command's (log entry 10). -/
def execMinislotMessageReceived (c : Fin 2) (frame : List Byte) (queue : Fin 1048576) (s : State) :
    Host.Outcome State Fault Refusal :=
  onNode s (fun n =>
    let c := c.val
    if !hears n c frame then n
    else if fType frame = 3 then
      let n := countCrc n (rxPort n c frame) frame
      let n := if passesCn n c frame then n else cnMismatch n c
      let (n, read) := passFrame n c frame frame true
      if read then readData n c frame queue.val else n
    else if fType frame ≠ 9 then notPermitted n c frame
    else match receiveMini n c frame with
      | (n, some r) => if forMe n r.dest && !msTaken n r then pushLineMessage (takeMs n r) queue.val r else n
      | (n, none) => n)

/-- MS_LOG_RECEIVED: the collector takes the line log records (R278). -/
def takeLogRecords (n : Node) (payload : List Byte) : Node :=
  (List.range (payload.length / 32)).foldl (fun n i =>
    let b := lineRecord (cut payload (32 * i) 32)
    let cls := be b 12 1
    let r : EventRecord :=
      { cn := BitVec.ofNat 48 (le b 0 6), code := BitVec.ofNat 16 (le b 6 2), ts := BitVec.ofNat 32 (le b 8 4)
        cls := if cls = 0 then .s else if cls = 1 then .d else if cls = 2 then .n else if cls = 3 then .a else .g
        unpersisted := bitOf (be b 13 1) 0, summary := bitOf (be b 13 1) 1
        source := BitVec.ofNat 16 (le b 14 2), node := le b 16 2, lseq := BitVec.ofNat 16 (le b 18 2), data := b.drop 20 }
    deliver (count n (R.QM_CNT 12)) 21 r) n

/-- MS_LOG_RECEIVED (R278). -/
def execMsLogReceived (c : Fin 2) (frame : List Byte) (s : State) : Host.Outcome State Fault Refusal :=
  onNode s (fun n =>
    let c := c.val
    if !hears n c frame then n
    else if fType frame ≠ 0x0D then notPermitted n c frame
    else match receiveMini n c frame with
      | (n, some r) =>
        if forMe n r.dest && !msTaken n r && gf n R.QM_LOGCFG F.QM_LOGCFG_RXEN = 1 then takeLogRecords (takeMs n r) r.payload else n
      | (n, none) => n)

/-- Queue a class C message on one channel. -/
def queueControl (n : Node) (c type dest : Nat) (payload : List Byte) : Node :=
  let x := chan n c
  setChan n c { x with control := x.control ++ [{ type := type, cls := .control, dest := dest, payload := payload }] }

/-- Queue a class C message on both channels. -/
def queueBoth (n : Node) (type dest : Nat) (payload : List Byte) : Node :=
  queueControl (queueControl n 0 type dest payload) 1 type dest payload

/-- Send a class C message of the node's own in a mini-slot of channel c now (R81): at most 4 class C claims a cycle;
a claim beyond the limit is blocked by the sluice (R91). -/
def sendControl (n : Node) (c slot type dest : Nat) (payload : List Byte) : Node :=
  let m : LineMsg := { type := type, cls := .control, dest := dest, payload := payload }
  if !mayClaim n c .control then localBlocked n c
  else
    let n := countClaim n c .control
    (List.range (fragments m.wireLen)).foldl
      (fun n i => sendOwn n c (fragFrame n c m slot i (cnNow n)) true) n

end Sys2Proof.Machine
end

