-- ==== Sys2Proof/Machine/Inaug.lean ====
section
/-! DEFINITION. Node states, cold start and the inauguration laps (spec/04_inauguration.md, R94 to R109, R158, R480,
R481). -/

namespace Sys2Proof.Machine

/-- Change the inauguration state. -/
def withIn (n : Node) (f : InState → InState) : Node := { n with inn := f n.inn }

/-! ### Contention (R96 to R100) -/

/-- A port counts as in UP for R97: in UP with HOLDRSN 0. -/
def facesLine (n : Node) (p : Nat) : Bool := portUp n p && holdReason n p == 0

/-- Is the node an end node (R97)? -/
def isEndNode (n : Node) : Bool :=
  (!facesLine n (portOf 0 0) && !facesLine n (portOf 1 0)) || (!facesLine n (portOf 0 1) && !facesLine n (portOf 1 1))

/-- Is the node cold-start capable (IN_LOCAL.CSCAP)? -/
def csCap (n : Node) : Bool := gf n R.IN_LOCAL F.IN_LOCAL_CSCAP == 1

/-- Start beacons: LISTEN to CONTEND. -/
def startBeacons (n : Node) : Node := withIn (setInState n 2) (fun i => { i with portMoved := false })

/-- The two ways from LISTEN to CONTEND (Table IN-2), evaluated at every boundary and at the two waits' ends. -/
def tryContend (n : Node) : Node :=
  if inState n ≠ 1 || !n.inn.linkWaitOver || !isEndNode n || n.line.kt.isNone then n
  else if csCap n then startBeacons n
  else if n.inn.fallbackOver then startBeacons (sf n R.IN_STAT F.IN_STAT_FALLBACK 1)
  else n

/-- CONTEND to LISTEN (R99, R100). -/
def stopBeacons (n : Node) : Node := sf (setInState n 1) R.IN_STAT F.IN_STAT_FALLBACK 0

/-- LINK_WAIT_EXPIRY (R96). -/
def execLinkWaitExpiry (s : State) : Host.Outcome State Fault Refusal :=
  onNode s (fun n => if inState n = 0 then n else tryContend (withIn n (fun i => { i with linkWaitOver := true })))

/-- FALLBACK_WAIT_EXPIRY (R96): 200 ms after the link wait with no valid CSF. -/
def execFallbackWaitExpiry (s : State) : Host.Outcome State Fault Refusal :=
  onNode s (fun n =>
    if inState n ≠ 1 || !n.inn.linkWaitOver then n else tryContend (withIn n (fun i => { i with fallbackOver := true })))

/-- BFLAGS of the node's beacons (Table IN-3). -/
def beaconFlags (n : Node) : Nat :=
  128 * gf n R.IN_LOCAL F.IN_LOCAL_ACTCAB + 64 * gf n R.IN_LOCAL F.IN_LOCAL_CSCAP

/-- The tag of a beacon on channel c: its header with FLAGS 0, and bytes 24 to 39. -/
def beaconTag (kt : List Byte) (c : Nat) (bare body : List Byte) : List Byte :=
  tag8 (admissionKey kt) (assocData 0 0 c 0x0E 0 0xFFFF 0 ++ bare ++ body)

/-- The header of a beacon. -/
def beaconHeader : List Byte := header 0x0E 0 0 0 128 0 24 0xFFFF 0

/-- A beacon of the node on channel c (Table IN-3). -/
def makeBeacon (n : Node) (kt : List Byte) (c : Nat) : List Byte :=
  let body := beBytes 8 n.uid.toNat ++ beBytes 1 (beaconFlags n) ++ [0#8, 0#8, 0#8] ++ beBytes 4 n.inn.bseq
  withCrc (preamble ++ beaconHeader ++ body ++ beaconTag kt c (overlay beaconHeader 5 [0#8]) body ++ [0#8, 0#8, 0#8, 0#8]) false

/-- BEACON_SEND (R98): a contender's beacon on every forwarding port. -/
def execBeaconSend (s : State) : Host.Outcome State Fault Refusal :=
  onNode s (fun n =>
    match n.line.kt with
    | none => n
    | some kt =>
      if inState n ≠ 2 then n
      else
        let n := withIn n (fun i => { i with bseq := (i.bseq + 1) % 2 ^ 32 })
        forRange 4 (fun n p => sendFrame n p (makeBeacon n kt (p / 2))) n)

/-- Is a beacon of flags `f` and identity `u` better than the node's own (R99)? -/
def betterBeacon (n : Node) (f u : Nat) : Bool :=
  let own := beaconFlags n
  if bits f 7 1 ≠ bits own 7 1 then bitOf f 7
  else if bits f 6 1 ≠ bits own 6 1 then bitOf f 6
  else decide (u < n.uid.toNat)

/-- Use a beacon whose tag and CRC are good (R99, R100). -/
def useBeacon (n : Node) (b : List Byte) : Node :=
  let u := be b 24 8
  let f := be b 32 1
  let q := be b 36 4
  let last := (n.inn.beacons.find? (fun x => x.1 == u)).map (·.2)
  if last.elim false (fun l => decide (q ≤ l)) then n
  else
    let n := withIn n (fun i => { i with beacons := (u, q) :: i.beacons.filter (fun x => x.1 != u) })
    if inState n = 2 && (betterBeacon n f u || (!csCap n && bitOf f 6)) then stopBeacons n else n

/-- BEACON_RECEIVED (R98, R99): passed to the other port of the channel while no cycle runs there, and used. -/
def execBeaconReceived (p : Fin 4) (frame : List Byte) (s : State) : Host.Outcome State Fault Refusal :=
  onNode s (fun n =>
    let p := p.val
    let c := p / 2
    let other := portOf c (1 - p % 2)
    if !lineOn n || !portPasses n p then n
    else if role n c ≠ 0 then notPermitted n c frame
    else if fType frame ≠ 0x0E then n
    else
      let n := countCrc n p frame
      let n := if portPasses n other then forwardFrame n other frame frame false else n
      match n.line.kt with
      | none => n
      | some kt =>
        if crcClass frame ≠ .good then n
        else if fTagged frame && decide (beaconTag kt c (headerBare frame) (cut frame 24 16) = cut frame 40 8) then useBeacon n frame
        else tagFailure n c)

/-- The side on which a cold-start winner originates: the side with a port in UP. -/
def openSide (n : Node) : Nat := if facesLine n (portOf 0 0) || facesLine n (portOf 1 0) then 0 else 1

/-- The leader's own roster entry in epoch 0 (log entry 12). -/
def ownRosterEntry (n : Node) : Node :=
  setImg n (rosterAt 1) (leBytes 8 n.uid.toNat ++ leBytes 2 1 ++ leBytes 1 (5 + 2 * orient n))

/-- BEACON_WINDOW_EXPIRY (R96, R103): the node becomes leader and node 1 of epoch 0; it forms TDOM and sends its first
CSF at the next boundary. -/
def execBeaconWindowExpiry (s : State) : Host.Outcome State Fault Refusal :=
  onNode s (fun n =>
    if inState n ≠ 2 then n
    else if n.inn.portMoved then withIn n (fun i => { i with portMoved := false })
    else
      let side := openSide n
      let n := sf (sf (setInState n 4) R.IN_STAT F.IN_STAT_LEADER 1) R.IN_STAT F.IN_STAT_FALLBACK 0
      let n := sf (sf n R.IN_STAT F.IN_STAT_NODES 1) R.IN_STAT F.IN_STAT_ORIENT side
      let n := sf (sf n R.IN_EPOCH F.IN_EPOCH_EPOCH 0) R.IN_EPOCH F.IN_EPOCH_NODE 1
      let n := sf n R.IN_EVT F.IN_EVT_LEADER 1
      let n := forRange 2 (fun n c => sf n (R.LC_STAT c) F.LC_STAT_INNER side) n
      let n := takeMode n (gf n R.DU_CFG F.DU_CFG_MODE)
      let n := ownRosterEntry (setImg n 16 (leBytes 8 n.uid.toNat))
      withIn (setDelay n 16 0) (fun i => { i with forming := true }))

/-- FORMWAIT as used (IN_SEQCFG). -/
def formWait (n : Node) : Nat := max 16 (gf n R.IN_SEQCFG F.IN_SEQCFG_FORMWAIT)

/-- FORMWAIT_EXPIRY (R103): the cold-start win has lasted FORMWAIT cycles. -/
def execFormwaitExpiry (s : State) : Host.Outcome State Fault Refusal :=
  onNode s (fun n =>
    match n.inn.wonCn with
    | some w =>
      if isLeader n && epochNow n == 0 && decide ((formWait n : Int) ≤ cnDiff (cnNow n) w) then
        withIn n (fun i => { i with wonCn := none, wanted := true })
      else n
    | none => n)

/-! ### The laps (Table IN-4) -/

/-- The payload of a PREPARE, COMMIT, COUPLE or PLAN. -/
structure Lap where
  op : Nat := 0
  flags : Nat := 0
  epoch : Nat := 0
  count : Nat := 0
  total : Nat := 0
  commitCn : Nat := 0
  acks : Nat := 0
  leader : Nat := 0
  tdom : Nat := 0
  d : Nat := 0
  dmin : Nat := 0
  delaySum : Nat := 0
  partner : List Byte := []
  deriving DecidableEq, Repr

/-- RESTART. -/
def Lap.restart (l : Lap) : Bool := bitOf l.flags 7
/-- ENDTAIL. -/
def Lap.endTail (l : Lap) : Bool := bitOf l.flags 6
/-- REVERSE. -/
def Lap.reverse (l : Lap) : Bool := bitOf l.flags 5
/-- DESCEND. -/
def Lap.descend (l : Lap) : Bool := bitOf l.flags 4
/-- MERGE. -/
def Lap.merge (l : Lap) : Bool := bitOf l.flags 3
/-- FAST. -/
def Lap.fast (l : Lap) : Bool := bitOf l.flags 2

/-- The 152 payload bytes before the tag. -/
def Lap.bytes (l : Lap) : List Byte :=
  beBytes 1 l.op ++ beBytes 1 l.flags ++ beBytes 2 l.epoch ++ beBytes 2 l.count ++ beBytes 2 l.total ++ beBytes 6 l.commitCn
    ++ beBytes 2 l.acks ++ beBytes 8 l.leader ++ beBytes 8 l.tdom ++ beBytes 2 l.d ++ beBytes 2 l.dmin
    ++ beBytes 4 l.delaySum ++ cut l.partner 0 56 ++ List.replicate 56 0#8

/-- Read a payload. -/
def parseLap (b : List Byte) : Lap :=
  { op := be b 0 1, flags := be b 1 1, epoch := be b 2 2, count := be b 4 2, total := be b 6 2, commitCn := be b 8 6
    acks := be b 14 2, leader := be b 16 8, tdom := be b 24 8, d := be b 32 2, dmin := be b 34 2
    delaySum := be b 36 4, partner := cut b 40 56 }

/-- Send a PREPARE or COMMIT of the node's own on both channels, in mini-slots `a` and `b` (R103, R106, R480). -/
def sendLap (n : Node) (l : Lap) (a b : Nat) : Node :=
  sendControl (sendControl n 0 a 0x0C 0xFFFF l.bytes) 1 b 0x0C 0xFFFF l.bytes

/-- May the node claim for a lap on both channels (R81)? -/
def canLap (n : Node) : Bool := mayClaim n 0 .control && mayClaim n 1 .control

/-! ### Starting (R94, R103, R105, R115) -/

/-- The epoch a leader gives: one above the largest it knows; after 0xFFFF, 1 (R94). -/
def nextEpoch (n : Node) : Nat :=
  let k := max (epochNow n) n.inn.maxEpoch
  if k ≥ 0xFFFF then 1 else k + 1

/-- t_node in ns (R92). -/
def tNode (n : Node) : Nat := if isFore n then 3000 else 800

/-- L in ns from DELAYSUM and N (R92, R106). -/
def lapTime (n : Node) (delaySum nodes : Nat) : Nat := if nodes ≤ 1 then 0 else 2 * delaySum + (2 * nodes - 3) * tNode n

/-- Lm (R106): cycles from the latest mini-slot and one lap. -/
def lapCycles (l : Nat) : Nat := ceilDiv (119220 + l) 125000

/-- Lm before any copy has returned (R105). -/
def firstLapCycles (n : Node) : Nat :=
  let l := max (rd n (R.LC_LAP 0)).toNat (rd n (R.LC_LAP 1)).toNat
  if l = 0 then 10 else lapCycles l

/-- End of the last static slot marked audio on a channel, in ps (R92). -/
def slotEnd (n : Node) (c : Nat) : Nat :=
  let mode := lineMode n
  let audio := (List.range (slotCount mode)).filter (fun s => s ≥ firstAudioSlot mode && ff n (R.LC_SLOTCFG (cfgChan n c) s) F.LC_SLOTCFG_KIND == 1)
  let s := audio.getLastD (slotCount mode - 1)
  if mode = 2 then (125 + 1208 * (s + 1)) * 8000 else (625 + 1560 * (s + 1)) * 800

/-- D_min for a lap time in ns (R92): the larger of the two channels'. -/
def dMin (n : Node) (l : Nat) : Nat := 5 + ceilDiv (2000000 + (max (slotEnd n 0) (slotEnd n 1) + 1000 * l)) 125000000

/-- The train-wide presentation-delay setting (Table IN-13). -/
def delaySetting (n : Node) : Nat := if 6 ≤ setting n 0 ∧ setting n 0 ≤ 255 then setting n 0 else 16

/-- D of a new epoch (R93): it never decreases at a re-inauguration. -/
def newDelay (n : Node) (dmin : Nat) : Nat :=
  let d := max (delaySetting n) dmin
  if epochNow n = 0 then d else max d (gf n (R.LC_PRES 0) F.LC_PRES_D)

/-- Side the leader that sends a PREPARE takes (R481). -/
def leaderSide (n : Node) (flags xSide : Nat) : Nat :=
  if bitOf flags 5 then gf n (R.LC_STAT 0) F.LC_STAT_INNER else xSide

/-- A lone leader has nobody to number: its PREPARE returns at once with TOTAL 1. -/
def isAlone (n : Node) : Bool := !portPasses n (innerPort n 0) && !portPasses n (innerPort n 1)

/-- The PREPARE has returned whole: N, L, D and Lm (R106); a forerunner leader numbers 128 positions (R158). -/
def prepareBack (n : Node) (i : Inaug) (l : Lap) : Node :=
  let total := if isFore n && i.count0 = 1 then min 128 l.total else l.total
  let nodes := (if total < i.count0 then i.count0 - total else total - i.count0) + 1
  let lns := lapTime n l.delaySum nodes
  let merge := bitOf i.flags 3
  let dmin := if merge then i.dmin else dMin n lns
  let d := if merge then i.d else newDelay n dmin
  let i := { i with returned := true, total := total, delaySum := l.delaySum, lm := lapCycles lns
                    l := if merge then i.l else lns, d := d, dmin := dmin }
  let n := withIn n (fun x => { x with inaug := some i })
  match n.inn.prepared with
  | some pr =>
    if pr.epoch = i.epoch && pr.total = 0 then
      withIn n (fun x => { x with prepared := some { pr with
        total := total, d := d, dmin := dmin, number := if bitOf i.flags 5 then total + 1 - pr.number else pr.number } })
    else n
  | none => n

/-- Start an inauguration with a PREPARE (R103, R115). -/
def startInaug (n : Node) (l : Lap) (side slotA slotB merged : Nat) : Node :=
  let n := deriveKey n l.tdom l.epoch
  let i : Inaug := { epoch := l.epoch, sentCn := cnNow n, count0 := l.count, flags := l.flags, tdom := l.tdom, leader := l.leader
                     d := l.d, dmin := l.dmin, commitCn := l.commitCn, lm := firstLapCycles n, plan := l.partner.take 8
                     merged := merged, total := l.count
                     l := n.inn.epochL }
  let pr : Prepared := { epoch := l.epoch, number := l.count, orient := side, leader := l.leader, tdom := l.tdom, flags := l.flags
                         d := l.d, dmin := l.dmin }
  let n := withIn n (fun x => { x with inaug := some i, prepared := some pr, wanted := false, abandonNow := false })
  let n := sf n R.IN_STAT F.IN_STAT_INAUG 1
  let n := if l.merge then sf n R.IN_STAT F.IN_STAT_MERGE 1 else n
  if isAlone n then prepareBack n i { l with total := l.count } else sendLap n l slotA slotB

/-- The PREPARE of a yielding leader (R115): COUNT from LFIRST up, or down from LFIRST + NB - 1. -/
def yieldPrepare (n : Node) (y : MergePlan) : Lap :=
  { op := 1, flags := 8 + (if y.fast then 4 else 0) + (if y.descend then 16 else 0), epoch := y.epoch
    count := if y.descend then y.lfirst + nodesNow n - 1 else y.lfirst
    commitCn := y.commitCn, leader := y.leader, tdom := y.tdom, d := y.d, dmin := y.dmin }

/-- Side of the port on which an admission record with the plan came: the side that faces X. -/
def xSide (n : Node) : Nat :=
  ((List.range 4).find? (fun p => portUp n p && holdReason n p == 1 && (port n p).coupled)).elim (orient n) (· % 2)

/-- PREPARE_SEND (R103, R105, R115): the leader starts the inauguration that is wanted. -/
def execPrepareSend (slotA slotB : Fin 118) (s : State) : Host.Outcome State Fault Refusal :=
  onNode s (fun n =>
    if !isLeader n || inState n ≠ 4 || n.inn.inaug.isSome || n.inn.forming || !canLap n || !cxAlive n then n
    else match n.inn.yield with
      | some y =>
        let l := yieldPrepare n y
        let side := if y.descend then gf n (R.LC_STAT 0) F.LC_STAT_INNER else xSide n
        startInaug n l side slotA.val slotB.val (y.lfirst - 1 + nodesNow n)
      | none =>
        if !n.inn.wanted then n
        else
          let l : Lap := { op := 1, epoch := nextEpoch n, count := 1, leader := n.uid.toNat, tdom := ownTdom n }
          startInaug n l (gf n (R.LC_STAT 0) F.LC_STAT_INNER) slotA.val slotB.val 0)

/-- INAUGURATION_ABANDON (R105): the leader starts again with a new NEWEPOCH; a yielding leader numbers its own segment
alone. -/
def abandonInaug (n : Node) (i : Inaug) : Node :=
  let n := withIn n (fun x => { x with
    inaug := none, prepared := none, wanted := true, abandonNow := false, maxEpoch := max x.maxEpoch i.epoch
    yield := none, plan := none })
  let n := sf (sf n R.IN_STAT F.IN_STAT_INAUG 0) R.IN_STAT F.IN_STAT_MERGE 0
  count (sf n R.IN_EVT F.IN_EVT_RESTART 1) (R.IN_CNT 1)

/-- PREPARE_RETURN_TIMEOUT (R105): the ENDTAIL copy has not returned within Lm + 1 cycles. -/
def execPrepareReturnTimeout (s : State) : Host.Outcome State Fault Refusal :=
  onNode s (fun n =>
    match n.inn.inaug with
    | some i =>
      if !i.returned && decide ((i.lm + 1 : Int) ≤ cnDiff (cnNow n) i.sentCn) then abandonInaug n i else n
    | none => n)

/-! ### Passing laps (R103 to R106, R480) -/

/-- Does channel c run in the counter-rotating direction (R57, R480)? -/
def isRingB (n : Node) (c : Nat) : Bool := c == 1 && !isNative n && epochNow n != 0

/-- Is this a copy the ring-B origin completed (R480)?  Its writer is the ring-B origin. -/
def isCompleted (n : Node) (b : List Byte) : Bool := fSrc b == nodesNow n && nodesNow n != 1

/-- Is this the pass on which nodes change a lap frame (R56, R80, R480)? -/
def changingPass (n : Node) (c : Nat) (b : List Byte) : Bool :=
  if isRingB n c then fTurned b && !isCompleted n b else !fTurned b

/-- The received chain of a single-frame message. -/
def single (n : Node) (c : Nat) (b : List Byte) : Received :=
  ⟨fType b, fSrc b, fDest b, fStream b, cnOf n c b, fIndex b, cut b 8 16, cut b 24 (min 160 (fLen b))⟩

/-- Does a single-frame tagged message verify (R87)? -/
def singleTagOk (n : Node) (c : Nat) (b : List Byte) : Bool := fFirst b && fLast b && chainTagOk n c (single n c b)

/-- A lap frame with its payload changed and its tag computed again (R87). -/
def rewriteLap (n : Node) (c : Nat) (b : List Byte) (l : Lap) : List Byte :=
  let bare := overlay (headerBare b) 8 (beBytes 2 160)
  overlay b 24 (l.bytes ++ makeTag n (cnOf n c b) c (fType b) (fIndex b) 0xFFFF (fSrc b) (bare ++ l.bytes))

/-- A lap frame passes: verified, changed on its changing pass, kept for a segment head or the ring-B origin, read. -/
def passLap (n : Node) (c : Nat) (b : List Byte) (op : Nat) (change : Node → Nat → Lap → Node × Lap)
    (read : Node → Lap → Node) : Node :=
  let p := rxPort n c b
  let n := countCrc n p b
  let l := parseLap (cut b 24 152)
  let changing := changingPass n c b
  if crcClass b ≠ .good then (passFrame (noteClaimed n c b) c b b true).1
  else if !passesCn n c b then (passFrame (noteClaimed (cnMismatch n c) c b) c b b true).1
  else if l.op ≠ op then (passFrame (noteClaimed n c b) c b b true).1
  else if !singleTagOk n c b then
    let n := if changing || originates n c then tagFailure n c else n
    (passFrame (noteClaimed n c b) c b b true).1
  else
    let n := noteClaimed n c b
    if !changing then
      let (n, seen) := passFrame n c b b true
      if seen then read n l else n
    else if isRingB n c && originates n c then
      let (n, l) := change n p l
      withIn n (fun i => { i with ringBCopy := i.ringBCopy ++ [l.bytes] })
    else
      let (n, l') := change n p l
      let n := if !isRingB n c && isSegHead n (1 - c) then withIn n (fun i => { i with headCopy := i.headCopy ++ [l'.bytes] }) else n
      let (n, seen) := passFrame n c b (rewriteLap n c b l') true
      if seen && !isRingB n c then read n l' else n

/-- Does this node turn or end a lap on channel c: the tail, or the ring-B origin? -/
def endsLap (n : Node) (c : Nat) : Bool := if isRingB n c then originates n c else turns n c

/-- The changes of a node in a PREPARE (R103, R105). -/
def changePrepare (n : Node) (c p : Nat) (l : Lap) : Lap :=
  let k := if l.descend then l.count - 1 else l.count + 1
  let moved := match n.inn.portCn with
    | some q => decide (0 ≤ cnDiff q (cnNow n))
    | none => false
  let flags := if moved && !l.restart then l.flags + 128 else l.flags
  let l := { l with count := k, delaySum := l.delaySum + linkDelay n p, flags := flags }
  if endsLap n c then
    { l with total := k, flags := if isEndNode n && !l.endTail then l.flags + 64 else l.flags }
  else l

/-- The number, orientation and plan a node takes from a PREPARE on its changing pass (R103, R115, R481). -/
def takePrepare (n : Node) (p : Nat) (l : Lap) : Node :=
  let n := deriveKey n l.tdom l.epoch
  let side := if l.reverse || l.descend then 1 - p % 2 else p % 2
  let known := match n.inn.prepared with
    | some pr => pr.epoch == l.epoch
    | none => false
  let n := withIn n (fun i => { i with
    maxEpoch := max i.maxEpoch l.epoch
    prepared := if known then i.prepared else some { epoch := l.epoch, number := l.count, orient := side, leader := l.leader, tdom := l.tdom, flags := l.flags, d := l.d, dmin := l.dmin } })
  sf n R.IN_STAT F.IN_STAT_INAUG 1

/-- Does the node couple through a held port: is it X or Y of a merge (R114)? -/
def coupledPort (n : Node) : Option Nat :=
  (List.range 4).find? (fun p => portUp n p && holdReason n p == 1 && (port n p).coupled)

/-- X keeps the plan of a merge PREPARE of its own segment; a PREPARE without MERGE ends a merge that was abandoned
(R115). -/
def noteMerge (n : Node) (l : Lap) : Node :=
  match coupledPort n with
  | none => n
  | some p =>
    if l.merge && numberOf n l.leader ≠ 0 then
      let m : MergePlan := { epoch := l.epoch, commitCn := l.commitCn, lfirst := be l.partner 4 2, leader := l.leader
                             tdom := l.tdom, d := l.d, dmin := l.dmin, fast := l.fast }
      sf (withIn n (fun i => { i with plan := some m })) R.IN_STAT F.IN_STAT_MERGE 1
    else if !l.merge && n.inn.plan.isSome then
      withIn (setPort n p { port n p with coupled := false, admUsed := 0 }) (fun i => { i with plan := none })
    else n

/-- TOTAL is read on the return pass from the ENDTAIL copy (R103, R115). -/
def readTotal (n : Node) (l : Lap) : Node :=
  match n.inn.prepared with
  | some pr =>
    if l.endTail && pr.epoch = l.epoch && pr.total = 0 then
      withIn n (fun i => { i with prepared := some { pr with
        total := l.total, number := if l.reverse then l.total + 1 - pr.number else pr.number } })
    else n
  | none => n

/-- A PREPARE on its changing pass. -/
def prepareInPassing (c : Nat) (n : Node) (p : Nat) (l : Lap) : Node × Lap :=
  let l' := changePrepare n c p l
  (noteMerge (takePrepare n p l') l', l')

/-- PREPARE_RECEIVED (R103). -/
def execPrepareReceived (c : Fin 2) (frame : List Byte) (s : State) : Host.Outcome State Fault Refusal :=
  onNode s (fun n =>
    let c := c.val
    if !hears n c frame then n
    else if fType frame ≠ 0x0C then notPermitted n c frame
    else passLap n c frame 1 (prepareInPassing c) readTotal)

/-- SEGMENT_HEAD_PREPARE_COPY (R104): the next lap read on the other channel, originated in a mini-slot of the node's own
segment. -/
def execSegmentHeadPrepareCopy (c : Fin 2) (slot : Fin 118) (s : State) : Host.Outcome State Fault Refusal :=
  onNode s (fun n =>
    match n.inn.headCopy with
    | b :: rest =>
      if isSegHead n c.val && mayClaim n c.val .control then
        sendControl (withIn n (fun i => { i with headCopy := rest })) c.val slot.val 0x0C 0xFFFF b
      else n
    | [] => n)

/-- RING_B_COPY_COMPLETE (R480): the ring-B origin sends the completed copy. -/
def execRingBCopyComplete (slot : Fin 118) (s : State) : Host.Outcome State Fault Refusal :=
  onNode s (fun n =>
    match n.inn.ringBCopy with
    | b :: rest =>
      if isRingB n 1 && originates n 1 && mayClaim n 1 .control then
        sendControl (withIn n (fun i => { i with ringBCopy := rest })) 1 slot.val 0x0C 0xFFFF b
      else n
    | [] => n)

/-! ### The leader's side (R105, R106, R158) -/

/-- The leader reads a returned PREPARE (R105, R106). -/
def leaderReadsPrepare (n : Node) (l : Lap) : Node :=
  match n.inn.inaug with
  | some i =>
    if i.epoch ≠ l.epoch || i.returned || !l.endTail then n
    else if l.restart || n.inn.abandonNow then abandonInaug n i
    else noteMerge (prepareBack n i l) l
  | none => n

/-- PREPARE_RETURNED (R106): the ENDTAIL copy comes back to the leader. -/
def execPrepareReturned (c : Fin 2) (frame : List Byte) (s : State) : Host.Outcome State Fault Refusal :=
  onNode s (fun n =>
    let c := c.val
    if !hears n c frame then n
    else if fType frame ≠ 0x0C then notPermitted n c frame
    else if isLeader n && n.inn.inaug.isSome then
      passLap n c frame 1 (fun n _ l => (n, l)) leaderReadsPrepare
    else passLap n c frame 1 (prepareInPassing c) readTotal)

/-- Does a prepared epoch make this node yield: a merge whose leader is not of its own segment (R115, R116)? -/
def yields (n : Node) (pr : Prepared) : Bool := bitOf pr.flags 3 && numberOf n pr.leader == 0

/-- Y handled the yielding COMMIT (R117). -/
def mergeAccept (n : Node) (pr : Prepared) : Node :=
  if yields n pr && (n.inn.planFwd.isSome || n.inn.yield.isSome) && (coupledPort n).isSome then
    withIn n (fun i => { i with acceptTx := true })
  else n

/-- TOTAL of a COMMIT: the nodes of the epoch, of the merged train in a merge (log entry 13). -/
def commitTotal (i : Inaug) : Nat := if i.merged = 0 then i.total else i.merged

/-- COMMIT_SEND (R106). -/
def execCommitSend (slotA slotB : Fin 118) (s : State) : Host.Outcome State Fault Refusal :=
  onNode s (fun n =>
    match n.inn.inaug with
    | none => n
    | some i =>
      if !i.returned || i.committed || !canLap n || !cxAlive n then n
      else if n.inn.abandonNow then abandonInaug n i
      else
        let cc := if bitOf i.flags 3 then i.commitCn else cnWrap (cnNow n + i.lm + 1)
        let l : Lap := { op := 2, flags := i.flags, epoch := i.epoch, count := i.count0, total := commitTotal i, commitCn := cc
                         leader := i.leader, tdom := i.tdom, d := i.d, dmin := i.dmin, partner := i.plan }
        let n := withIn n (fun x => { x with
          inaug := some { i with committed := true, commitCn := cc }
          prepared := x.prepared.map (fun pr => if pr.epoch = i.epoch then { pr with
            commitCn := some cc, total := commitTotal i, d := i.d, dmin := i.dmin } else pr) })
        let n := match n.inn.prepared with
          | some pr => mergeAccept n pr
          | none => n
        if isAlone n then n else sendLap n l slotA.val slotB.val)

/-- A node takes a COMMIT of the PREPARE it handled (R106, R338). -/
def takeCommit (n : Node) (l : Lap) : Node :=
  match n.inn.prepared with
  | some pr =>
    if pr.epoch = l.epoch then
      let n := deriveKey n l.tdom l.epoch
      let pr := { pr with commitCn := some l.commitCn, total := l.total, d := l.d, dmin := l.dmin, leader := l.leader, tdom := l.tdom }
      mergeAccept (withIn n (fun i => { i with prepared := some pr })) pr
    else n
  | none => n

/-- A COMMIT on its changing pass: ACKS is incremented (R106). -/
def commitInPassing (n : Node) (_p : Nat) (l : Lap) : Node × Lap := (takeCommit n l, { l with acks := l.acks + 1 })

/-- A COMMIT read on the return pass: the leader keeps ACKS. -/
def readCommit (n : Node) (l : Lap) : Node :=
  match n.inn.inaug with
  | some i => if i.epoch = l.epoch then withIn n (fun x => { x with inaug := some { i with acks := max i.acks l.acks } }) else n
  | none => takeCommit n l

/-- COMMIT_RECEIVED (R106). -/
def execCommitReceived (c : Fin 2) (frame : List Byte) (s : State) : Host.Outcome State Fault Refusal :=
  onNode s (fun n =>
    let c := c.val
    if !hears n c frame then n
    else if fType frame ≠ 0x0C then notPermitted n c frame
    else passLap n c frame 2 commitInPassing readCommit)

end Sys2Proof.Machine
end

