-- ==== Sys2Proof/Machine/Merge.lean ====
section
/-! DEFINITION. Coupling and merging: admission records, COUPLE, the merge PREPARE and the plan
(spec/04_inauguration.md, R112 to R119). -/

namespace Sys2Proof.Machine

/-- HOLDOFF in cycles (IN_CFG). -/
def holdOffCycles (n : Node) : Nat := 8 * max 1 (gf n R.IN_CFG F.IN_CFG_HOLDOFF)

/-- PREVLEADER: the leader before the node's most recent split, while that is within HOLDOFF (R112). -/
def prevLeaderNow (n : Node) : Nat :=
  if cnDiff (cnNow n) n.inn.splitCn ≤ (holdOffCycles n : Int) then n.inn.prevLeader else 0

/-- Does any roster entry of the segment show ACTCAB (Table IN-5)? -/
def segActCab (n : Node) : Bool :=
  (List.range (nodesNow n)).any (fun i => bitOf (le (rosterReport n (i + 1)) 0 1) 6)

/-- Does the segment show BUSY: forming, or with an inauguration in progress (R114)? -/
def isBusy (n : Node) : Bool := epochNow n == 0 || gf n R.IN_STAT F.IN_STAT_INAUG == 1

/-- The fast-rejoin conditions at a coupling port, with the partner's record (R119). -/
def fastPort (n : Node) (p : Nat) (rec_ : List Byte) : Bool :=
  let x := port n p
  decide (rec_ ≠ []) && decide (be rec_ 24 8 = ownTdom n) && decide (partnerUid n p = x.lostId)
    && x.lostCn.elim false (fun l => decide (cnDiff x.upCn l ≤ (holdOffCycles n : Int)))
    && (decide (prevLeaderNow n ≠ 0 ∧ prevLeaderNow n = be rec_ 8 8) || decide (be rec_ 16 8 ≠ 0 ∧ be rec_ 16 8 = imgLeader n))

/-- The plan X shows on a port (R115). -/
def planOn (n : Node) (p : Nat) : Option MergePlan := if coupledPort n = some p then n.inn.plan else none

/-- AFLAGS of the node's record on a port (Table IN-5). -/
def admFlags (n : Node) (p : Nat) : Nat :=
  128 * b2n (segActCab n) + 64 * b2n (csCap n) + 32 * b2n (isBusy n) + 16 * b2n (planOn n p).isSome
    + 8 * b2n n.inn.acceptTx + 4 * b2n (fastPort n p (port n p).admRec)

/-- Bytes 40 to 47 of an admission record. -/
def planBytes (n : Node) (pl : Option MergePlan) : List Byte :=
  match pl with
  | some m => beBytes 2 m.epoch ++ beBytes 2 (cnDiff m.commitCn (cnNow n)).toNat ++ beBytes 2 m.lfirst ++ beBytes 1 m.d ++ beBytes 1 m.dmin
  | none => List.replicate 8 0#8

/-- The tag of an admission record. -/
def admTag (kt body : List Byte) : List Byte := tag8 (admissionKey kt) body

/-- The node's admission record on a port (Table IN-5). -/
def makeAdmission (n : Node) (kt : List Byte) (p : Nat) : List Byte :=
  let pl := planOn n p
  let leader := match pl with
    | some m => m.leader
    | none => if hasEpoch n then imgLeader n else 0
  let body := beBytes 8 n.uid.toNat ++ beBytes 8 leader ++ beBytes 8 (prevLeaderNow n) ++ beBytes 8 (ownTdom n)
    ++ beBytes 2 (epochNow n) ++ beBytes 2 (nodesNow n) ++ beBytes 2 (ownNumber n) ++ beBytes 1 (admFlags n p)
    ++ beBytes 1 (port n p).admTx ++ planBytes n pl
  body ++ admTag kt body

/-- ADMISSION_RECORD_SEND (R112): every 125 us on a port in UP with HOLDRSN 1; none without K_T (R340). -/
def execAdmissionRecordSend (p : Fin 4) (s : State) : Host.Outcome State Fault Refusal :=
  onNode s (fun n =>
    let p := p.val
    match n.line.kt with
    | some kt =>
      if portUp n p && holdReason n p == 1 && lineOn n then
        let b := makeAdmission n kt p
        setPort (emit n (.admission p b)) p { port n p with admTx := ((port n p).admTx + 1) % 256 }
      else n
    | none => n)

/-- The plan in a record, at Y (R115). -/
def planOf (n : Node) (b : List Byte) : MergePlan :=
  { epoch := be b 40 2, commitCn := cnWrap (cnNow n + be b 42 2), lfirst := be b 44 2, leader := be b 8 8, tdom := be b 24 8
    d := be b 46 1, dmin := be b 47 1, fast := bitOf (be b 38 1) 2 }

/-- The PLAN message of Y (R115). -/
def planLap (m : MergePlan) (b : List Byte) : Lap :=
  { op := 4, flags := if m.fast then 4 else 0, epoch := m.epoch, commitCn := m.commitCn, leader := m.leader, tdom := m.tdom
    d := m.d, dmin := m.dmin, partner := cut b 40 8 }

/-- Y passes the plan to its leader, or takes it as the yielding leader (R115). -/
def passPlan (n : Node) (b : List Byte) : Node :=
  let m := planOf n b
  let known := match n.inn.planFwd with
    | some o => o.epoch == m.epoch
    | none => false
  if known || ownNumber n = 0 then n
  else
    let n := withIn n (fun i => { i with planFwd := some m })
    if isLeader n then withIn n (fun i => { i with yield := some m })
    else queueBoth n 0x0C 1 (planLap m b).bytes

/-- Use an admission record (R112, R114, R115, R117). -/
def useAdmission (n : Node) (p : Nat) (b : List Byte) : Node :=
  let x := port n p
  let flags := be b 38 1
  let idle := !bitOf flags 5 && !isBusy n
  let n := setPort n p { x with
    admSeq := some (be b 39 1), admRec := b, accept := x.accept || bitOf flags 3
    admUsed := if idle then x.admUsed + 1 else x.admUsed }
  if bitOf flags 4 && x.coupled then passPlan n b else n

/-- ADMISSION_RECORD_RECEIVED (R112). -/
def execAdmissionRecordReceived (p : Fin 4) (record : List Byte) (s : State) : Host.Outcome State Fault Refusal :=
  onNode s (fun n =>
    let p := p.val
    match n.line.kt with
    | none => n
    | some kt =>
      if !(portUp n p && holdReason n p == 1 && lineOn n) then n
      else
        let b := cut record 0 56
        let good := decide (admTag kt (cut b 0 48) = cut b 48 8) && decide ((port n p).admSeq ≠ some (be b 39 1))
        if good then useAdmission n p b else count (sf n R.IN_EVT F.IN_EVT_ADMITFAIL 1) (R.IN_CNT 11))

/-- Does the node's own segment win a merge with the segment of a record (R114)? -/
def ownWins (n : Node) (b : List Byte) (fast : Bool) : Bool :=
  let leader := be b 8 8
  if fast && decide (be b 16 8 = imgLeader n) then true
  else if fast && decide (prevLeaderNow n = leader) then false
  else
    let act := bitOf (be b 38 1) 7
    if segActCab n ≠ act then segActCab n
    else if nodesNow n ≠ be b 34 2 then decide (be b 34 2 < nodesNow n)
    else decide (imgLeader n < leader)

/-- A leader takes a COUPLE from node `src` (R114, R117, R119). -/
def takeCouple (n : Node) (src : Nat) (fast : Bool) (b : List Byte) : Node :=
  if n.inn.lastCouple = b then n
  else
    let n := withIn n (fun i => { i with lastCouple := b })
    let fast := fast && bitOf (be b 38 1) 2
    -- a partner that a merge has numbered and that did not come (R117)
    let n := if numberOf n (be b 0 8) ≠ 0 then withIn n (fun i => { i with wanted := true }) else n
    if ownWins n b fast then withIn n (fun i => { i with couples := i.couples ++ [(b, src == 1, fast)] }) else n

/-- COUPLE_SEND (R114): two admission records without BUSY have been used on a port. -/
def execCoupleSend (p : Fin 4) (s : State) : Host.Outcome State Fault Refusal :=
  onNode s (fun n =>
    let p := p.val
    let x := port n p
    if !(portUp n p && holdReason n p == 1) || x.admUsed < 2 || x.coupled || ownNumber n = 0 || inState n ≠ 4 then n
    else
      let fast := fastPort n p x.admRec
      let n := setPort n p { x with coupled := true }
      if isLeader n then takeCouple n 1 fast x.admRec
      else queueBoth n 0x0C 1 ({ op := 3, flags := if fast then 4 else 0, partner := x.admRec : Lap }).bytes)

/-- Pass a single-frame MS_INAUG message and read it at the leader when it is for it and its tag verifies. -/
def leaderMessage (n : Node) (c : Nat) (b : List Byte) (op : Nat) (take : Node → Nat → Lap → Node) : Node :=
  let n := countCrc n (rxPort n c b) b
  let n := if passesCn n c b then n else cnMismatch n c
  let (n, seen) := passFrame (noteClaimed n c b) c b b true
  if !seen || !usable n c b then n
  else if !singleTagOk n c b then tagFailure n c
  else
    let l := parseLap (cut b 24 152)
    if isLeader n && l.op = op then take n (fSrc b) l else n

/-- COUPLE_RECEIVED (R114). -/
def execCoupleReceived (c : Fin 2) (frame : List Byte) (s : State) : Host.Outcome State Fault Refusal :=
  onNode s (fun n =>
    let c := c.val
    if !hears n c frame then n
    else if fType frame ≠ 0x0C then notPermitted n c frame
    else leaderMessage n c frame 3 (fun n src l => takeCouple n src l.fast l.partner))

/-- MERGEAHEAD as used (IN_SEQCFG). -/
def mergeAhead (n : Node) : Nat :=
  let v := gf n R.IN_SEQCFG F.IN_SEQCFG_MERGEAHEAD
  if 48 ≤ v ∧ v ≤ 200 then v else 64

/-- MERGE_PREPARE_SEND (R115): the winner's leader starts the merge with its oldest partner. -/
def execMergePrepareSend (slotA slotB : Fin 118) (s : State) : Host.Outcome State Fault Refusal :=
  onNode s (fun n =>
    match n.inn.couples with
    | [] => n
    | (b, ownEnd, fast) :: rest =>
      if !isLeader n || inState n ≠ 4 || n.inn.inaug.isSome || n.inn.wanted || n.inn.yield.isSome || epochNow n = 0
          || !canLap n || !cxAlive n then n
      else
        let nb := be b 34 2
        let na := nodesNow n
        let l := n.inn.epochL + 2 * nb * (265 + tNode n)
        let dmin := dMin n l
        let d := newDelay n dmin
        let flags := 8 + (if ownEnd then 32 else 0) + (if fast then 4 else 0)
        let epoch := nextEpoch n
        let part := beBytes 2 epoch ++ beBytes 2 (mergeAhead n) ++ beBytes 2 (na + 1) ++ beBytes 1 d ++ beBytes 1 dmin
        let lap : Lap := { op := 1, flags := flags, epoch := epoch, count := 1, commitCn := cnWrap (cnNow n + mergeAhead n)
                           leader := if ownEnd then rosterUid n na else n.uid.toNat
                           tdom := ownTdom n, d := d, dmin := dmin, partner := part }
        let n := withIn n (fun i => { i with couples := rest })
        let n := startInaug n lap (gf n (R.LC_STAT 0) F.LC_STAT_INNER) slotA.val slotB.val (na + nb)
        noteMerge (withIn n (fun i => { i with inaug := i.inaug.map (fun x => { x with l := l }) })) lap)

/-- PLAN_RECEIVED (R115): the yielding leader learns the plan. -/
def execPlanReceived (c : Fin 2) (frame : List Byte) (s : State) : Host.Outcome State Fault Refusal :=
  onNode s (fun n =>
    let c := c.val
    if !hears n c frame then n
    else if fType frame ≠ 0x0C then notPermitted n c frame
    else leaderMessage n c frame 4 (fun n src l =>
      if n.inn.inaug.isSome then n
      else
        let y : MergePlan := { epoch := l.epoch, commitCn := l.commitCn, lfirst := be l.partner 4 2, leader := l.leader, tdom := l.tdom
                               d := l.d, dmin := l.dmin, fast := l.fast, descend := src != 1 }
        withIn n (fun i => { i with yield := some y })))

end Sys2Proof.Machine
end

