-- ==== Sys2Proof/Machine/Sequencer.lean ====
section
/-! DEFINITION. The sequencer of the state image: proposals, commit lists, recovery of the image, the roster report
(spec/04_inauguration.md, R120 to R130, R482). -/

namespace Sys2Proof.Machine

/-! ### Sections (Tables IN-8, IN-13) -/

/-- Offset, entry size and entries of a proposable section. -/
def sectionShape (sect : Nat) : Option (Nat × Nat × Nat) :=
  match sect with
  | 1 => some (imgAnn, 32, 256)
  | 2 => some (imgAlarm, 8, 512)
  | 3 => some (imgPair, 4, 512)
  | 4 => some (imgZone, 8, 1024)
  | 5 => some (imgSet, 4, 1024)
  | _ => none

/-- The bytes of an entry that may be proposed: first and end (Table IN-8). -/
def openBytes (sect size : Nat) : Nat × Nat := if sect = 2 then (1, 3) else if sect = 3 then (0, 2) else (0, size)

/-- The REASON with which the leader rejects a proposal; 0 commits it (Table IN-11). -/
def rejectReason (node sect op index boff blen : Nat) (oldEpoch : Bool) : Nat :=
  match sectionShape sect with
  | none => 1
  | some (_, size, count) =>
    if op ≠ 1 ∧ op ≠ 2 then 1
    else if count ≤ index ∨ (op = 1 ∧ (blen = 0 ∨ 32 < blen ∨ size < boff + blen)) ∨ (op = 2 ∧ blen ≠ 0) then 2
    else if op = 1 ∧ (boff < (openBytes sect size).1 ∨ (openBytes sect size).2 < boff + blen) then 3
    else if sect = 3 ∧ index + 1 ≠ node then 3
    else if oldEpoch then 4
    else 0

/-- Apply a committed proposal to the image (Table IN-7). -/
def applyProposal (n : Node) (sect op index boff : Nat) (data : List Byte) : Node :=
  match sectionShape sect with
  | none => n
  | some (base, size, _) =>
    let at_ := base + size * index
    if op = 1 then setImg n (at_ + boff) data
    else setImg n (at_ + (openBytes sect size).1) (List.replicate ((openBytes sect size).2 - (openBytes sect size).1) 0#8)

/-! ### Proposing (R102, R109, R120, R126, R202) -/

/-- May the node propose (R102, R120)? -/
def mayPropose (n : Node) : Bool :=
  inState n == 4 && ownNumber n != 0 && gf n R.IN_STAT F.IN_STAT_JOINING == 0 && !isStale n && cxAlive n

/-- The payload of an MS_PROPOSAL (Table IN-7). -/
def proposalPayload (p : Proposal) : List Byte :=
  beBytes 2 p.pseq ++ beBytes 1 p.sect ++ beBytes 1 p.op ++ beBytes 2 p.index ++ beBytes 1 p.boff ++ beBytes 1 p.data.length ++ p.data

/-- Serial order of 16-bit sequence numbers: is `a` after `b`? -/
def serialAfter (a b : Nat) : Bool := let d := subMod 16 a b; decide (0 < d) && decide (d < 32768)

/-- Does proposal `x` come before `y` (R121)? -/
def ordBefore (x y : Ordered) : Bool :=
  let d := cnDiff x.cn y.cn
  if d ≠ 0 then decide (d < 0) else if x.chan ≠ y.chan then decide (x.chan < y.chan) else decide (x.slot < y.slot)

/-- Put a proposal in its place (R121). -/
def insertOrdered (x : Ordered) : List Ordered → List Ordered
  | [] => [x]
  | y :: ys => if ordBefore x y then x :: y :: ys else y :: insertOrdered x ys

/-- The leader orders a proposal, or discards a repeated one (R121). -/
def orderProposal (n : Node) (x : Ordered) : Node :=
  let last := (n.inn.lastPseq.find? (fun e => e.1 == x.node)).map (·.2)
  if !last.elim true (serialAfter x.pseq) || n.inn.ordered.any (fun y => y.node == x.node && y.pseq == x.pseq) then n
  else withIn n (fun i => { i with ordered := insertOrdered x i.ordered })

/-- Send a proposal: the leader's own enters the order at once, after what its cycle has brought (log entry 14). -/
def sendProposal (n : Node) (p : Proposal) : Node :=
  if isLeader n then
    orderProposal n { cn := cnNow n, chan := 2, slot := 0, node := ownNumber n, pseq := p.pseq, sect := p.sect, op := p.op, index := p.index
                      boff := p.boff, data := p.data, epoch := p.epoch
                      reason := rejectReason (ownNumber n) p.sect p.op p.index p.boff p.data.length false }
  else queueBoth n 0x0A 1 (proposalPayload p)

/-- Submit a new proposal and give its PSEQ (R120, R202).  Origin: 0 the registers, 1 a program, 2 the node itself,
16 + k ring k. -/
def submitProposal (n : Node) (origin sect op index boff : Nat) (data : List Byte) : Node × Nat :=
  let q := (n.inn.pseq + 1) % 65536
  let p : Proposal := { pseq := q, sect := sect, op := op, index := index, boff := boff, data := data, cn := cnNow n
                        epoch := epochNow n, origin := origin }
  let n := withIn n (fun i => { i with pseq := q, proposals := i.proposals ++ [p] })
  (sendProposal (count n (R.IN_CNT 2)) p, q)

/-- Submit again with the same PSEQ (R109, R126). -/
def resubmit (n : Node) (p : Proposal) : Node :=
  let p := { p with cn := cnNow n }
  sendProposal (withIn n (fun i => { i with proposals := i.proposals.map (fun x => if x.pseq = p.pseq then p else x) })) p

/-- A proposal of the node has a result: 2 committed, 3 rejected, 4 timeout (IN_PROPSTAT.RESULT). -/
def finishProposal (n : Node) (p : Proposal) (result reason : Nat) : Node :=
  let n := withIn n (fun i => { i with proposals := i.proposals.filter (fun x => x.pseq != p.pseq) })
  let n := count n (R.IN_CNT (result + 1))
  if p.origin = 0 then
    let n := sf (sf n R.IN_PROPSTAT F.IN_PROPSTAT_RESULT result) R.IN_PROPSTAT F.IN_PROPSTAT_REASON reason
    sf (sf n R.IN_PROPCTL F.IN_PROPCTL_GO 0) R.IN_EVT F.IN_EVT_PROPDONE 1
  else if p.origin = 1 then
    let st : ProposalState := if result = 2 then .committed else if result = 3 then .rejected reason else .timeout
    { n with mil := { n.mil with proposals := n.mil.proposals.map (fun x => if x.1 = p.pseq then (x.1, st) else x) } }
  else if 16 ≤ p.origin then
    withIn n (fun i => { i with cmdDone := i.cmdDone ++ [(p.origin - 16, p.pseq, result, reason)] })
  else n

/-- A write of IN_PROPCTL with GO = 1 (R120). -/
def proposalGo (n : Node) (v : BitVec 32) : Node :=
  if gf n R.IN_PROPSTAT F.IN_PROPSTAT_RESULT = 1 then otherEvent n .g 4 0 R.IN_PROPCTL
  else if !mayPropose n then otherEvent n .g 4 0 R.IN_PROPCTL
  else
    let n := wr n R.IN_PROPCTL (v &&& 0xFFFFFE73#32)
    let blen := min 32 (fget v F.IN_PROPCTL_BLEN)
    let data := ((List.range 8).flatMap (fun k => leBytes 4 (rd n (R.IN_PROPDATA k)).toNat)).take blen
    let (n, q) := submitProposal n 0 (fget v F.IN_PROPCTL_SECTION) (fget v F.IN_PROPCTL_OP) (fget v F.IN_PROPCTL_INDEX)
      (fget v F.IN_PROPCTL_BOFF) data
    let n := wr n R.IN_PROPSTAT (fset (fset 0#32 F.IN_PROPSTAT_PSEQ q) F.IN_PROPSTAT_RESULT 1)
    if isLeader n then sf n R.IN_PROPCTL F.IN_PROPCTL_GO 0 else n

/-- PROPOSAL_SUBMIT (R120): a write of IN_PROPCTL with GO = 1. -/
def execProposalSubmit (value : BitVec 32) (s : State) : Host.Outcome State Fault Refusal :=
  onNode s (fun n => if lineOn n then proposalGo n (fset value F.IN_PROPCTL_GO 1) else n)

/-- PTMO in cycles (IN_CFG). -/
def proposalWait (n : Node) : Nat := 16 * max 1 (gf n R.IN_CFG F.IN_CFG_PTMO)

/-- PROPOSAL_TIMEOUT (R126): submitted again up to 3 times, then given up. -/
def execProposalTimeout (pseq : BitVec 16) (s : State) : Host.Outcome State Fault Refusal :=
  onNode s (fun n =>
    match n.inn.proposals.find? (fun p => p.pseq == pseq.toNat) with
    | none => n
    | some p =>
      if cnDiff (cnNow n) p.cn < (proposalWait n : Int) then n
      else if p.tries < 3 then resubmit n { p with tries := p.tries + 1 }
      else finishProposal n p 4 0)

/-- PROPOSAL_RECEIVED (R121): the leader absorbs a proposal. -/
def execProposalReceived (c : Fin 2) (frame : List Byte) (s : State) : Host.Outcome State Fault Refusal :=
  onNode s (fun n =>
    let c := c.val
    if !hears n c frame then n
    else if fType frame ≠ 0x0A then notPermitted n c frame
    else
      let n := countCrc n (rxPort n c frame) frame
      let n := if passesCn n c frame then n else cnMismatch n c
      let (n, seen) := passFrame (noteClaimed n c frame) c frame frame true
      if !seen || !isLeader n || crcClass frame ≠ .good then n
      else if !singleTagOk n c frame then tagFailure n c
      else
        let b := cut frame 24 160
        let op := be b 3 1
        let blen := be b 7 1
        let old := fEpochlo frame != epochNow n % 256
        orderProposal n { cn := cnOf n c frame, chan := c, slot := fIndex frame, node := fSrc frame, pseq := be b 0 2, sect := be b 2 1
                          op := op, index := be b 4 2, boff := be b 6 1, data := cut b 8 (min blen 32), epoch := epochNow n
                          reason := rejectReason (fSrc frame) (be b 2 1) op (be b 4 2) (be b 6 1) blen old })

/-! ### Commit lists (R122 to R125) -/

/-- L estimated for unmeasured hops (R92, R105). -/
def lapEstimate (n : Node) : Nat := let k := nodesNow n; lapTime n (265 * (k - 1)) k

/-- L of R123 and R128: the larger LC_LAP at the leader, or the L of R92. -/
def lapNow (n : Node) : Nat :=
  let l := max (rd n (R.LC_LAP 0)).toNat (rd n (R.LC_LAP 1)).toNat
  if l ≠ 0 then l else if n.inn.epochL ≠ 0 then n.inn.epochL else lapEstimate n

/-- Lc (R123). -/
def listCycles (n : Node) : Nat := ceilDiv (7988 + lapNow n) 125000

/-- A ROSTER entry (Table IN-10). -/
def rosterEntry (m : Nat) (report : List Byte) : List Byte := [0x01#8, 12#8] ++ beBytes 2 m ++ cut report 0 7 ++ [0#8]
/-- An ABSENT entry. -/
def absentEntry (m : Nat) : List Byte := [0x04#8, 4#8] ++ beBytes 2 m
/-- A REJECT entry. -/
def rejectEntry (x : Ordered) : List Byte := [0x03#8, 8#8] ++ beBytes 2 x.node ++ beBytes 2 x.pseq ++ beBytes 1 x.reason ++ [0#8]
/-- A PROPOSAL entry: DATA rounded up to a multiple of 4. -/
def proposalEntry (x : Ordered) : List Byte :=
  let k := 4 * ceilDiv x.data.length 4
  [0x02#8] ++ beBytes 1 (12 + k) ++ beBytes 2 x.node ++ beBytes 2 x.pseq ++ beBytes 1 x.sect ++ beBytes 1 x.op ++ beBytes 2 x.index
    ++ beBytes 1 x.boff ++ beBytes 1 x.data.length ++ cut x.data 0 k

/-- PRESENT of node m's roster entry. -/
def rosterPresent (n : Node) (m : Nat) : Bool := bitOf (imgLe n (rosterAt m + 10) 1) 0

/-- The roster entry due for node m (R124): ABSENT, or a REPORT that differs from the one committed or under way. -/
def rosterDue (n : Node) (m : Nat) : Option (List Byte) :=
  let r := look {} n.inn.roster m
  if r.absentDue && rosterPresent n m then some (absentEntry m)
  else if !r.fresh then none
  else
    let same := match r.sent with
      | some x => decide (x = r.report)
      | none => decide (r.report = rosterReport n m) && rosterPresent n m
    if same then none else some (rosterEntry m r.report)

/-- Mark a roster entry taken. -/
def rosterTaken (n : Node) (m : Nat) : Node :=
  withIn n (fun i =>
    let r := look {} i.roster m
    let r' : RosterRead := if r.absentDue && rosterPresent n m then { r with absentDue := false, fresh := false, sent := some [] }
      else { r with fresh := false, sent := some r.report }
    { i with roster := put {} i.roster m r', rosterNext := m })

/-- Nodes in number order from the one after the last taken. -/
def rosterOrder (n : Node) : List Nat :=
  let k := nodesNow n
  (List.range k).map (fun i => (n.inn.rosterNext + i) % k + 1)

/-- Take roster entries: at most `limit` of them, while they fit `room` bytes. -/
def takeRoster (n : Node) (limit room : Nat) : Node × List (List Byte) :=
  (rosterOrder n).foldl (fun (st : Node × List (List Byte)) m =>
    let used := (st.2.map List.length).foldl (· + ·) 0
    if limit ≤ st.2.length then st
    else match rosterDue n m with
      | none => st
      | some e => if used + e.length ≤ room then (rosterTaken st.1 m, st.2 ++ [e]) else st) (n, [])

/-- Take proposals in order while they fit (R124): a reject, or a commit. -/
def takeOrdered : List Ordered → Nat → Node → List (List Byte) → Node × List (List Byte)
  | [], _, n, acc => (n, acc)
  | x :: xs, room, n, acc =>
    let e := if x.reason = 0 then proposalEntry x else rejectEntry x
    if room < e.length then (n, acc)
    else
      let n := withIn n (fun i => { i with ordered := i.ordered.drop 1, lastPseq := put 0 i.lastPseq x.node x.pseq })
      takeOrdered xs (room - e.length) n (acc ++ [e])

/-- Bytes of entries a list may hold (R77, R122). -/
def listRoom (n : Node) : Nat := min 1440 (frameLen (lineMode n) 5 - 44) - 20

/-- The entries of the next list, in the order of R124. -/
def takeEntries (n : Node) : Node × List (List Byte) :=
  let size := fun (l : List (List Byte)) => (l.map List.length).foldl (· + ·) 0
  let room := listRoom n
  let (n, a) := takeRoster n 59 room
  let (n, b) := takeOrdered n.inn.ordered (room - size a) n []
  let (n, c) := takeRoster n 512 (room - size a - size b)
  (n, a ++ b ++ c)

/-- The sequencer container of channel c with a list (R77, R122, Table LC-16). -/
def listFrame (n : Node) (c cn : Nat) (payload : List Byte) : List Byte :=
  let slot := sequencerSlot (lineMode n)
  let hdr := headerOf n 5 slot cn 128 (ownNumber n) (payload.length + 8) 0xFFFF 0
  let tag := makeTag n cn c 5 slot 0xFFFF (ownNumber n) (overlay hdr 5 [0#8] ++ payload)
  buildContainer (lineMode n) 5 hdr (payload ++ tag)

/-- COMMIT_LIST_PUBLISH (R123, R124): the leader publishes the list of the cycle on the channels it originates. -/
def execCommitListPublish (s : State) : Host.Outcome State Fault Refusal :=
  onNode s (fun n =>
    let cn := cnNow n
    let cc := cnWrap (cn + listCycles n + 1 + gf n R.IN_SEQCFG F.IN_SEQCFG_MARGIN)
    let blocked := match n.inn.inaug with
      | some i => i.committed && decide (0 ≤ cnDiff cc i.commitCn)
      | none => false
    let published := match n.inn.published with
      | some (k, _) => k == cn
      | none => false
    if !isLeader n || inState n ≠ 4 || n.inn.forming || !cxAlive n || !lineOn n || blocked || published
        || decide (cnDiff cc n.inn.lastListCn ≤ 0) && decide (n.inn.lastListCn ≠ 0) then n
    else
      let (n, es) := takeEntries n
      let q := (n.inn.lseq + 1) % 65536
      let payload := beBytes 6 cc ++ beBytes 2 q ++ beBytes 2 es.length ++ [0#8, 0#8] ++ es.flatten
      let n := withIn n (fun i => { i with
        lseq := q, lastListCn := cc, published := some (cn, payload), lists := i.lists ++ [⟨cc, q, payload⟩] })
      forRange 2 (fun n c => if originates n c then sendOwn n c (listFrame n c cn payload) true else n) n)

/-- Result of a node's own proposal in a list (R126). -/
def ownResult (n : Node) (node pseq result reason : Nat) : Node :=
  if node ≠ ownNumber n then n
  else match n.inn.proposals.find? (fun p => p.pseq == pseq) with
    | some p => finishProposal n p result reason
    | none => n

/-- Alarm and pair-role bytes that follow a REPORT (Table IN-13). -/
def reportViews (n : Node) (m : Nat) (report : List Byte) : Node :=
  let n := setImg n (imgAlarm + 8 * (m - 1)) (leBytes 1 (le report 3 1))
  let n := setImg n (imgAlarm + 8 * (m - 1) + 3) (leBytes 1 (bits (le report 0 1) 3 1))
  setImg n (imgPair + 4 * (m - 1) + 2) (leBytes 1 (bits (le report 0 1) 0 2))

/-- Apply one entry of a list (R125, Table IN-10). -/
def applyEntry (n : Node) (e : List Byte) : Node :=
  let kind := be e 0 1
  let m := be e 2 2
  if kind = 1 then
    if m = 0 ∨ 512 < m then n
    else
      let report := cut e 4 7
      let n := setImg n (rosterAt m + 11) report
      let f := imgLe n (rosterAt m + 10) 1
      reportViews (setImg n (rosterAt m + 10) (leBytes 1 (f - bits f 0 1 + 1))) m report
  else if kind = 2 then
    let blen := min 32 (be e 11 1)
    let n := applyProposal n (be e 6 1) (be e 7 1) (be e 8 2) (be e 10 1) (cut e 12 blen)
    ownResult n m (be e 4 2) 2 0
  else if kind = 3 then ownResult n m (be e 4 2) 3 (be e 6 1)
  else if kind = 4 then
    if m = 0 ∨ 512 < m then n
    else
      let f := imgLe n (rosterAt m + 10) 1
      setImg n (rosterAt m + 10) (leBytes 1 (f - bits f 0 1))
  else n

/-- Apply the entries of a list in order; `fuel` bounds their number. -/
def applyEntries : Nat → Node → List Byte → Node
  | 0, n, _ => n
  | k + 1, n, b =>
    let len := be b 1 1
    if b = [] ∨ len < 4 then n else applyEntries k (applyEntry n (b.take len)) (b.drop len)

/-- Apply a whole list (R125); the header shows its LSEQ. -/
def applyList (n : Node) (l : CommitList) : Node :=
  let n := applyEntries (be l.entries 8 2) n (l.entries.drop 12)
  count (setImg n 42 (leBytes 2 l.lseq)) (R.IN_CNT 6)

/-- STATE_IMAGE_COMMIT at a boundary (R22, R125): the lists whose commit cycle begins, unless the image is STALE. -/
def commitLists (n : Node) : Node :=
  let cn := cnNow n
  let n := if isStale n then n else (n.inn.lists.filter (fun l => l.cn == cn)).foldl applyList n
  withIn n (fun i => { i with lists := i.lists.filter (fun l => decide (-256 ≤ cnDiff l.cn cn)) })

/-- A list has been missed (R23, R128). -/
def listMissed (n : Node) : Node :=
  let n := count n (R.IN_CNT 7)
  if isStale n then withIn n (fun i => { i with resync := true, snap := none }) else setStale n

/-- Keep a received list for its commit cycle (R122, R128).  A gap in LSEQ, and a list that comes after its commit
cycle has begun, are lists missed (log entry 15). -/
def keepList (n : Node) (payload : List Byte) : Node :=
  let cc := be payload 0 6
  let q := be payload 6 2
  if isLeader n || n.inn.lastLseq = some q || n.inn.lists.any (fun l => l.lseq == q && l.cn == cc) then n
  else
    let gap := n.inn.lastLseq.elim false (fun l => q != (l + 1) % 65536)
    let late := decide (cnDiff cc (cnNow n) ≤ 0) && hasDomain n && !n.inn.provisional
    let n := withIn n (fun i => { i with lastLseq := some q, lists := i.lists ++ [⟨cc, q, payload⟩] })
    if (gap || late) && ownNumber n ≠ 0 then listMissed n else n

/-- Read the sequencer container. -/
def readSequencer (n : Node) (c : Nat) (b : List Byte) : Node :=
  let cn := cnOf n c b
  let len := fLen b
  let key := (cn, 5, 0, 0)
  if !usable n c b || isUsed n key || len = 0 then n
  else
    let payload := cut b 40 (len - 8)
    let ok := decide (20 ≤ len) && decide (len + 44 ≤ b.length) && fTagged b
      && tagOk n cn c 5 (fIndex b) 0xFFFF (fSrc b) (headerBare b ++ payload) (cut b (40 + len - 8) 8)
    if ok then keepList (markUsed n key) payload else tagFailure n c

/-- SEQUENCER_RECEIVED (R122).  In ring and forerunner modes the leader, the tail of channel B, writes its list into
the container as it turns (log entry 16). -/
def execSequencerReceived (c : Fin 2) (frame : List Byte) (s : State) : Host.Outcome State Fault Refusal :=
  onNode s (fun n =>
    let c := c.val
    if !hears n c frame then n
    else if fType frame ≠ 5 || fIndex frame ≠ sequencerSlot (lineMode n) then notPermitted n c frame
    else
      let n := countCrc n (rxPort n c frame) frame
      let n := if passesCn n c frame then n else cnMismatch n c
      let out := match n.inn.published with
        | some (cn, payload) =>
          if isLeader n && !originates n c && !fTurned frame && cnOf n c frame = cn then listFrame n c cn payload else frame
        | none => frame
      let (n, seen) := passFrame n c frame out true
      if seen then readSequencer n c (withCrc out (decide (crcClass frame ≠ .good))) else n)

/-- ROSTER_ABSENT_EXPIRY (R124): node m's lane has been unusable on both channels for ABSENT cycles.  A node of a merge
that has never been present shows that the coupling was not released: the leader numbers its own nodes again (R117). -/
def execRosterAbsentExpiry (node : Fin 512) (s : State) : Host.Outcome State Fault Refusal :=
  onNode s (fun n =>
    let m := node.val + 1
    let r := look {} n.inn.roster m
    if isLeader n && decide (m ≤ nodesNow n) && decide (max 1 (gf n R.IN_CFG F.IN_CFG_ABSENT) ≤ r.missing) && rosterPresent n m
        && decide (r.sent ≠ some []) then
      withIn n (fun i => { i with roster := put {} i.roster m { r with absentDue := true } })
    else if isLeader n && n.inn.mergeCheck && decide (m ≤ nodesNow n) && decide (max 1 (gf n R.IN_CFG F.IN_CFG_ABSENT) ≤ r.missing)
        && !rosterPresent n m then
      withIn n (fun i => { i with wanted := true, mergeCheck := false })
    else n)

/-! ### Recovery of the image (R128, R482) -/

/-- RESYNC_SEND (R128): a STALE node asks its leader. -/
def execResyncSend (s : State) : Host.Outcome State Fault Refusal :=
  onNode s (fun n =>
    if isStale n && n.inn.resync && ownNumber n ≠ 0 && !isLeader n && cxAlive n then
      queueBoth (withIn n (fun i => { i with resync := false, resyncCn := some (cnNow n) })) 0x0C 1 ({ op := 5 : Lap }).bytes
    else n)

/-- RESYNC_RECEIVED (R128): s is the CN current at the leader's next boundary. -/
def execResyncReceived (c : Fin 2) (frame : List Byte) (s : State) : Host.Outcome State Fault Refusal :=
  onNode s (fun n =>
    let c := c.val
    if !hears n c frame then n
    else if fType frame ≠ 0x0C then notPermitted n c frame
    else leaderMessage n c frame 5 (fun n _ _ => withIn n (fun i => { i with snapWanted := true })))

/-- The snapshot is taken at step 3 of cycle s (R128). -/
def takeSnapshot (n : Node) : Node :=
  if n.inn.snapWanted && isLeader n then
    withIn n (fun i => { i with snapWanted := false, snapTx := some (cnNow n, n.image, imgRoster) })
  else n

/-- Bytes of image in one SNAP chain. -/
def snapChunk (n : Node) : Nat := min 1408 (160 * miniCount (lineMode n) - 20)

/-- SNAP chains the leader has sent in this cycle. -/
def snapsThisCycle (n : Node) : Nat := if n.inn.snapSent.1 = cnNow n then n.inn.snapSent.2 else 0

/-- May a chain of the snapshot of cycle s go now: in cycles s + 1 to s + 8, at most 4 a cycle (R128)? -/
def snapAllowed (n : Node) (cn : Nat) : Bool :=
  decide (1 ≤ cnDiff (cnNow n) cn) && decide (cnDiff (cnNow n) cn ≤ 8) && decide (snapsThisCycle n < 4)

/-- SNAP_CHAIN_SEND (R128): the next chain, on both channels. -/
def execSnapChainSend (slotA slotB : Fin 118) (s : State) : Host.Outcome State Fault Refusal :=
  onNode s (fun n =>
    match n.inn.snapTx with
    | none => n
    | some (cn, m, off) =>
      let k := min (snapChunk n) (imgEnd - off)
      if !isLeader n || !canLap n || !cxAlive n || !snapAllowed n cn then n
      else
        let body := [0x06#8] ++ beBytes 6 cn ++ beBytes 4 off ++ readBytes m off k
        let n := withIn n (fun i => { i with 
          snapTx := if off + k < imgEnd then some (cn, m, off + k) else none
          snapSent := (cnNow n, snapsThisCycle n + 1) })
        sendControl (sendControl n 0 slotA.val 0x0C 0xFFFF body) 1 slotB.val 0x0C 0xFFFF body)

/-- Bytes of a snapshot a node holds. -/
def snapHeld (x : SnapRx) : Nat := (x.have_.map (·.2)).foldl (· + ·) 0

/-- The whole snapshot has come: it replaces the image, header excluded, and the kept lists after s follow (R128, R482). -/
def takeWholeSnap (n : Node) (x : SnapRx) : Node :=
  let head := n.image.filter (fun e => decide (e.1 < imgRoster))
  let rest := x.bytes.filter (fun (e : Nat × Byte) => decide (imgRoster ≤ e.1))
  let n : Node := { n with image := head ++ rest }
  let due := n.inn.lists.filter (fun (l : CommitList) => decide (0 < cnDiff l.cn x.cn) && decide (cnDiff l.cn (cnNow n) ≤ 0))
  let n := due.foldl applyList n
  let n := withIn n (fun i => { i with snap := none })
  if isStale n then sf (count (clearStale n) (R.IN_CNT 8)) R.IN_EVT F.IN_EVT_RESYNC 1 else n

/-- Take one SNAP chain. -/
def takeSnap (n : Node) (p : List Byte) : Node :=
  let cn := be p 1 6
  let off := be p 7 4
  let data := p.drop 11
  let old := match n.inn.snap with
    | some x => if x.cn = cn then some x else if cnDiff cn x.cn < 0 then none else some { cn := cn }
    | none => some { cn := cn }
  match old with
  | none => n
  | some x =>
    let x := if x.have_.contains (off, data.length) then x
      else { x with bytes := writeBytes x.bytes off data, have_ := (off, data.length) :: x.have_ }
    if snapHeld x ≥ imgEnd - imgRoster then takeWholeSnap n x else withIn n (fun i => { i with snap := some x })

/-- SNAP_RECEIVED (R128, R482). -/
def execSnapReceived (c : Fin 2) (frame : List Byte) (s : State) : Host.Outcome State Fault Refusal :=
  onNode s (fun n =>
    let c := c.val
    if !hears n c frame then n
    else if fType frame ≠ 0x0C then notPermitted n c frame
    else match receiveMini n c frame with
      | (n, some r) =>
        if !chainTagOk n c r then tagFailure n c
        else if be r.payload 0 1 = 6 && !isLeader n && ownNumber n ≠ 0 then takeSnap n (r.payload.take (r.payload.length - 8))
        else n
      | (n, none) => n)

/-- SNAP_MISSED (R128): the image of s is not whole at s + Lc + 10, or no chain came for 64 cycles (log entry 17). -/
def execSnapMissed (s : State) : Host.Outcome State Fault Refusal :=
  onNode s (fun n =>
    let due := match n.inn.snap with
      | some x => decide ((listCycles n + 10 : Int) ≤ cnDiff (cnNow n) x.cn)
      | none => n.inn.resyncCn.elim false (fun k => decide (64 ≤ cnDiff (cnNow n) k))
    if isStale n && due && !n.inn.resync then withIn n (fun i => { i with resync := true, snap := none }) else n)

/-! ### The roster report (R129) -/

/-- Bytes 1 to 4 of the REPORT (Table IN-12). -/
def reportHead (n : Node) : List Byte :=
  let flags := 128 * gf n R.IN_LOCAL F.IN_LOCAL_CSCAP + 64 * gf n R.IN_LOCAL F.IN_LOCAL_ACTCAB + 32 * b2n (isStale n)
    + 16 * gf n R.IN_STAT F.IN_STAT_JOINING + 8 * max (gf n R.SF_STAT F.SF_STAT_LOCKOUT) (gf n R.SF_STAT F.SF_STAT_NOBLOCK) + gf n R.DU_PAIRSTAT F.DU_PAIRSTAT_ROLE
  let ports := (List.range 4).foldl (fun v p => v + b2n (portUp n p) * 2 ^ (7 - p) + b2n (portFwd n p) * 2 ^ (3 - p)) 0
  let dies := (List.range 8).foldl (fun v i => v + b2n (dieFailed n i) * 2 ^ i) 0
  leBytes 1 flags ++ leBytes 1 ports ++ leBytes 1 dies ++ leBytes 1 (gf n R.SF_STAT F.SF_STAT_TRIPPED)

/-- LINKDLY of the REPORT. -/
def reportDelay (n : Node) : Nat :=
  let p := if portFwd n (innerPort n 0) then innerPort n 0 else innerPort n 1
  if gf n (R.TB_LINKDLY p) F.TB_LINKDLY_VALID = 1 then min 0xFFFE (gf n (R.TB_LINKDLY p) F.TB_LINKDLY_NS) else 0xFFFF

/-- ROSTER_REPORT_UPDATE (R129): RSEQ counts changes of bytes 1 to 4; the REPORT goes into LC_ROSTERTX of both channels. -/
def updateReport (n : Node) : Node :=
  let head := reportHead n
  let n := if n.inn.report = head then n
    else withIn n (fun i => { i with report := head, rseq := if i.report = [] then i.rseq else (i.rseq + 1) % 256 })
  let w0 := BitVec.ofNat 32 (be head 0 4)
  let w1 := BitVec.ofNat 32 (reportDelay n * 2 ^ 16 + n.inn.rseq * 2 ^ 8)
  forRange 2 (fun n c =>
    let n := wr (wr n (R.LC_ROSTERTX0 c) w0) (R.LC_ROSTERTX1 c) w1
    let f := put (resetValue (R.LC_ROSTERTX0 c)) n.force (R.LC_ROSTERTX0 c) w0
    { n with force := put (resetValue (R.LC_ROSTERTX1 c)) f (R.LC_ROSTERTX1 c) w1 }) n

end Sys2Proof.Machine
end

