-- ==== Sys2Proof/Machine/Switches.lean ====
section
/-! DEFINITION. The protected load switches (spec/18_load_switches.md, R446 to R459). -/

namespace Sys2Proof.Machine

/-- Change the load switches. -/
def withLs (n : Node) (f : LoadState → LoadState) : Node := { n with ls := f n.ls }
/-- Channel k. -/
def switch (n : Node) (k : Nat) : Switch := look {} n.ls.chans k
/-- Set it. -/
def setSwitch (n : Node) (k : Nat) (x : Switch) : Node := withLs n (fun s => { s with chans := put {} s.chans k x })
/-- Set an event bit of LS_EVT. -/
def lsEvt (n : Node) (f : Field) : Node := sf n R.LS_EVT f 1
/-- Count in LS_CNT. -/
def lsCount (n : Node) (k : Nat) : Node := count n (R.LS_CNT k)
/-- PX drives the channels: the Line group is powered and PX is not FAILED. -/
def lsOn (n : Node) : Bool := lineOn n && !dieFailed n 7

/-- Is the channel under limp-home (R448)? -/
def underLimp (n : Node) (k : Nat) : Bool := n.ls.limp && bitOf n.sa.lhmask k

/-- The node mirrors as a pair standby, until its programs take over (R184, Table DU-6). -/
def mirroring (n : Node) : Bool := (isStandby n || n.du.takeoverCn.isSome) && gf n R.DU_CFG F.DU_CFG_MIRROR == 1

/-- The row of Table LS-2 that decides the demand of channel k, and the demand (R446). -/
def switchDemand (n : Node) (k : Nat) : Nat × Bool :=
  if !lsOn n || n.pw.thermal then (1, false)
  else if underLimp n k then (2, bitOf n.ls.swin k)
  else if n.ls.cxOff then (3, false)
  else if mirroring n then (4, bitOf n.du.lson k)
  else if ff n (R.LS_CHCFG k) F.LS_CHCFG_SRC = 1 then (5, bitOf n.ls.swin k)
  else (6, ff n (R.LS_CHCFG k) F.LS_CHCFG_ON == 1)

/-- Does protection allow channel k to be on (R450 to R454, R458)? -/
def switchAllowed (n : Node) (x : Switch) : Bool :=
  !x.latched && !x.shed && x.pause.isNone && !n.ls.vswUv && !n.ls.noGround

/-- LS_CHSTAT.STATE. -/
def switchState (n : Node) (x : Switch) : Nat :=
  if x.latched then 3 else if x.shed then 4 else if x.pause.isSome then 2 else if n.ls.vswUv then 5 else if x.on then 1 else 0

/-- Bring channel k to its demand, and show it.  With VSW reversed the output stage is held on (R459). -/
def driveSwitch (n : Node) (k : Nat) : Node :=
  let x := switch n k
  let (row, d) := switchDemand n k
  let on := d && switchAllowed n x
  let x' := { x with on := on, above := if on then 0 else x.above, below := if on then 0 else x.below }
  let n := setSwitch n k x'
  let st := switchState n x' + 8 * row + 64 * b2n d + 128 * b2n (underLimp n k) + 256 * b2n x.open_ + 4096 * (x.fails % 16)
    + 65536 * (ceilDiv (x.pause.getD 0) 8)
  let n := wr n (R.LS_CHSTAT k) (BitVec.ofNat 32 st)
  let n := sf n R.LS_STAT ⟨k, 1⟩ (b2n on)
  if on == x.on then n else emit n (.pin "OUT" k (on || n.ls.reversed))

/-- Bring every channel to its demand (R446). -/
def lsRefresh (n : Node) : Node :=
  let n := forRange 12 driveSwitch n
  sflag (sflag n R.LS_STAT F.LS_STAT_LHOME n.ls.limp) R.LS_STAT F.LS_STAT_VSWUV n.ls.vswUv

/-- Demand of every masked channel, as a mask. -/
def maskedDemand (n : Node) : Nat := mask 12 (fun k => bitOf n.sa.lhmask k && (switchDemand n k).2)

/-- A hand-over (R449): one class D event with the mask in force, the demand of every masked channel just before, and
the CN. -/
def handOverEvent (n : Node) (x : Bool × Nat × Nat × Nat) : Node :=
  raise n .d 17 0 R.LS_EVT (if x.1 then F.LS_EVT_LHON else F.LS_EVT_LHOFF) (leBytes 2 x.2.1 ++ leBytes 2 x.2.2.1 ++ leBytes 4 x.2.2.2)

/-- Limp-home starts or ends (R448, R449): CX records the hand-over, or PX keeps the two most recent. -/
def handOver (n : Node) (start : Bool) : Node :=
  let x := (start, n.sa.lhmask, maskedDemand n, cnNow n)
  let n := lsCount (withLs n (fun s => { s with limp := start })) 4
  let n := if cxAlive n then handOverEvent n x else withLs (lsEvt n (if start then F.LS_EVT_LHON else F.LS_EVT_LHOFF)) (fun s => { s with held := (x :: s.held).take 2 })
  lsRefresh n

/-- CX records the hand-overs PX kept, oldest first (R449). -/
def recordHandOvers (n : Node) : Node :=
  let xs := n.ls.held.reverse
  xs.foldl handOverEvent (withLs n (fun s => { s with held := [] }))

/-- SWIN_CHANGE: an edge of SWIN_n (R446, R447). -/
def execSwinChange (k : Fin 12) (high : Bool) (s : State) : Host.Outcome State Fault Refusal :=
  onNode s (fun n =>
    let v := n.ls.swin - b2n (bitOf n.ls.swin k.val) * 2 ^ k.val + b2n high * 2 ^ k.val
    let n := withLs n (fun s => { s with swin := v })
    if lsOn n then lsRefresh n else n)

/-- LIMP_HOME_START: LHOME_N falls (R448). -/
def execLimpHomeStart (s : State) : Host.Outcome State Fault Refusal :=
  onNode s (fun n =>
    let n := withLs n (fun s => { s with lhomeLow := true })
    if lsOn n && !n.ls.limp then handOver n true else n)

/-- LIMP_HOME_END: LHOME_N has been high for 1 ms (R448). -/
def execLimpHomeEnd (s : State) : Host.Outcome State Fault Refusal :=
  onNode s (fun n =>
    let n := withLs n (fun s => { s with lhomeLow := false })
    if lsOn n && n.ls.limp then handOver n false else n)

/-- NLATCH of channel k; 0 is treated as 7. -/
def nlatch (n : Node) (k : Nat) : Nat := let v := ff n (R.LS_CHCFG k) F.LS_CHCFG_NLATCH; if v = 0 then 7 else v

/-- A failure of channel k (R450, R451). -/
def channelFailure (n : Node) (k : Nat) : Node :=
  let x := switch n k
  let f := x.fails + 1
  let n := lsCount (lsEvt n F.LS_EVT_FAIL) 0
  if nlatch n k ≤ f then
    lsRefresh (lsCount (raise (setSwitch n k { x with fails := f, latched := true, pause := none }) .g 17 k R.LS_EVT F.LS_EVT_LATCH) 1)
  else lsRefresh (setSwitch n k { x with fails := f, pause := some (8 * min 512 (2 ^ (f - 1))) })

/-- CHANNEL_FAILURE: current limit for 100 µs, or 175 °C (R450); not with VSW reversed (R459). -/
def execChannelFailure (k : Fin 12) (s : State) : Host.Outcome State Fault Refusal :=
  onNode s (fun n => if lsOn n && (switch n k.val).on && !n.ls.reversed then channelFailure n k.val else n)

/-- RETRY_PAUSE_EXPIRY (R450). -/
def execRetryPauseExpiry (k : Fin 12) (s : State) : Host.Outcome State Fault Refusal :=
  onNode s (fun n =>
    if lsOn n && (switch n k.val).pause.isSome then lsRefresh (setSwitch n k.val { switch n k.val with pause := none }) else n)

/-- A write of LS_CTL.CLR (R451): a latch or shed is cleared with F; otherwise only F. -/
def latchClear (n : Node) (clr : Nat) : Node :=
  lsRefresh (forRange 12 (fun n k =>
    if bitOf clr k then setSwitch n k { switch n k with latched := false, shed := false, fails := 0 } else n) n)

/-- LATCH_CLEAR. -/
def execLatchClear (clr : BitVec 12) (s : State) : Host.Outcome State Fault Refusal :=
  onNode s (fun n => if lsOn n then latchClear n clr.toNat else n)

/-- FAILURE_COUNT_RESET: 2 s since the end of the last pause without a failure (R452). -/
def execFailureCountReset (k : Fin 12) (s : State) : Host.Outcome State Fault Refusal :=
  onNode s (fun n =>
    let x := switch n k.val
    if lsOn n && x.pause.isNone && !x.latched && !x.shed then lsRefresh (setSwitch n k.val { x with fails := 0 }) else n)

/-- OVERLOAD_SHED: the sum has exceeded 8.0 A for 100 ms, or still does 10 ms after the last shed (R453). -/
def execOverloadShed (s : State) : Host.Outcome State Fault Refusal :=
  onNode s (fun n =>
    match (which 12 (fun k => (switch n k).on && !underLimp n k)).getLast? with
    | some k =>
      if lsOn n then
        lsRefresh (lsCount (raise (setSwitch n k { switch n k with shed := true }) .g 17 k R.LS_EVT F.LS_EVT_SHED) 3)
      else n
    | none => n)

/-- VSW_UNDERVOLTAGE: VSW below 4.5 V (R454). -/
def execVswUndervoltage (s : State) : Host.Outcome State Fault Refusal :=
  onNode s (fun n =>
    if lsOn n && !n.ls.vswUv then lsRefresh (lsEvt (withLs n (fun s => { s with vswUv := true })) F.LS_EVT_VSWUV) else n)

/-- VSW_RESTORED: VSW at or above 4.5 V for 1 ms (R454). -/
def execVswRestored (s : State) : Host.Outcome State Fault Refusal :=
  onNode s (fun n => if lsOn n && n.ls.vswUv then lsRefresh (withLs n (fun s => { s with vswUv := false })) else n)

/-- OPEN_LOAD_COMPARE: one comparison of an off channel's pulled-up output with 3.0 V (R456). -/
def execOpenLoadCompare (k : Fin 12) (above : Bool) (s : State) : Host.Outcome State Fault Refusal :=
  onNode s (fun n =>
    let x := switch n k.val
    if !lsOn n || x.on || ff n (R.LS_CHCFG k.val) F.LS_CHCFG_OLEN = 0 then n
    else
      let a := if above then min 8 (x.above + 1) else 0
      let b := if above then 0 else min 8 (x.below + 1)
      let x' := { x with above := a, below := b, open_ := decide (a = 8) || (x.open_ && decide (b < 8)) }
      let n := setSwitch n k.val x'
      lsRefresh (if x'.open_ && !x.open_ then lsCount (lsEvt n F.LS_EVT_OPEN) 2 else n))

/-- GROUND_LOSS: the part loses its ground connection, and every channel goes off (R458). -/
def execGroundLoss (lost : Bool) (s : State) : Host.Outcome State Fault Refusal :=
  onNode s (fun n =>
    let n := withLs n (fun s => { s with noGround := lost })
    if lsOn n then lsRefresh n else n)

/-- REVERSE_SUPPLY: VSW reverses, or is right again; each output stage is held on meanwhile (R459). -/
def execReverseSupply (reversed : Bool) (s : State) : Host.Outcome State Fault Refusal :=
  onNode s (fun n =>
    let n := withLs n (fun s => { s with reversed := reversed })
    forRange 12 (fun n k => if (switch n k).on then n else emit n (.pin "OUT" k reversed)) n)

/-- LOAD_SWITCH_CX_LOSS: 2 cycles after the CX heartbeat stops (Table AC-7, Table LS-2 row 3). -/
def execLoadSwitchCxLoss (s : State) : Host.Outcome State Fault Refusal :=
  onNode s (fun n => if lsOn n && !cxAlive n then lsRefresh (withLs n (fun s => { s with cxOff := true })) else n)

/-- SENSE_k (R455): the fault level for a channel in a pause, latched, shed or showing open load. -/
def putSense (n : Node) (k : Nat) : Node :=
  let x := switch n (4 * k + bits (inForce n R.LS_SENSECFG).toNat (2 * k) 2)
  let fault := x.pause.isSome || x.latched || x.shed || (!x.on && x.open_)
  emit n (.sense k fault (if x.on then x.ma else 0))

/-- The boundary: measured currents (R455), pauses, the sense pins, and the demand of the values now in force. -/
def lsBoundary (n : Node) (ma : List Nat) : Node :=
  if !lsOn n then n
  else
    let n := forRange 12 (fun n k =>
      let x := switch n k
      let v := if x.on then min 0xFFFF (ma.getD k 0) else 0
      wr (setSwitch n k { x with ma := v, pause := x.pause.map (· - 1) }) (R.LS_CURR k) (BitVec.ofNat 32 v)) n
    let n := sf n R.LS_TOTAL F.LS_TOTAL_MA (min 0xFFFF ((List.range 12).foldl (fun t k => t + (switch n k).ma) 0))
    forRange 3 putSense (lsRefresh n)

/-- The Line group is powered: channels start as after reset; limp-home that waits takes effect (R398). -/
def lsPowerUp (n : Node) : Node :=
  let n := if cxAlive n then recordHandOvers n else n
  if n.ls.lhomeLow && lsOn n then handOver n true else n

/-- The Line group loses power: every channel goes off; pins and kept hand-overs stay (R446, R449). -/
def lsPowerDown (n : Node) : Node :=
  let n := forRange 12 (fun n k => if (switch n k).on then emit n (.pin "OUT" k false) else n) n
  withLs n (fun s => { swin := s.swin, lhomeLow := s.lhomeLow, noGround := s.noGround, reversed := s.reversed, held := s.held })

end Sys2Proof.Machine
end

