-- ==== Sys2Proof/Machine/PwCore.lean ====
section
/-! DEFINITION. Power states, wakes, resets and power failure (spec/16_power_sleep.md, R395 to R405, R413 to R421;
R50 to R52, R372, R390, R391). -/

namespace Sys2Proof.Machine

/-- Change what the node keeps of power. -/
def withPw (n : Node) (f : PowerState → PowerState) : Node := { n with pw := f n.pw }

/-- Is any line port in UP? -/
def anyUp (n : Node) : Bool := (List.range 4).any (fun p => portUp n p)

/-! ### Leaving RUN, and losing power (R15, R359, R388, R400, Table AC-3) -/

/-- A register whose value a rule keeps when its block loses power: the EM and CB registers out of RUN (R359, R388). -/
def appKeeps (a : Nat) : Bool :=
  if a / 0x100000 = 13 then emKeeps a else if a / 0x100000 = 14 then cbKeeps a else true

/-- What an engine is outside RUN: C-engines halted with their SRAM retained, V-engines off (R226, Table AC-3). -/
def stopEngine (n : Node) (e : Nat) : Node :=
  let x := engine n e
  setEngine n e { x with st := if isV e then .off else .halted, stores := [], louts := [], units := [], loops := [], clk := 0 }

/-- The Application group loses power: engines stop, AX, MACs and CAN controllers are off. -/
def appOff (n : Node) : Node :=
  let n := forRange 32 stopEngine n
  { n with
    regs := n.regs.filter (fun e => appKeeps e.1), force := n.force.filter (fun e => appKeeps e.1)
    shadow := n.shadow.filter (fun e => appKeeps e.addr), em := [], cb := []
    mil := { n.mil with axram := [], unitWriter := [], selftest := none }
    au := { lib := n.au.lib } }

/-- RUN to LINE-ONLY. -/
def leaveRun (n : Node) : Node := if isRun n then putStb (sf (appOff n) R.PW_STAT F.PW_STAT_STATE 3) else n

/-- Registers of the always-on island (R421 and the PW and LP register lists). -/
def islandReg (a : Nat) : Bool :=
  ([R.PW_RSTSTAT, R.PW_WAKECFG, R.PW_WAKEPOL, R.PW_WAKESRC, R.PW_ALARM_LO, R.PW_ALARM_HI, R.LP_WAKECFG, R.LP_WAKESTAT] :
    List Nat).contains a

/-- Caddy writes of class S records under way are completed before power is gone (Table CF-10). -/
def drainSafety (n : Node) : Node := n.qm.log.waiting.foldl (fun n _ => persistSafety n) n

/-- What the caddy keeps of the log: the safety area, the history ring and the delivery pointers (R274, R275). -/
def coldLog (l : LogState) : LogState :=
  { safety := l.safety.filter (fun e => e.kept), safetyNum := l.safetyNum, history := l.history
    paths := (l.paths.map (fun e => (e.1, ({ next := e.2.next } : LogPath)))).filter (fun e => e.2 != {}) }

/-- What the caddy keeps of the configuration: journal, slots, safety parameter copies and key area (Table CF-1). -/
def coldCaddy (c : CfState) : CfState :=
  { j0 := c.j0, j1 := c.j1, slot0 := c.slot0, slot1 := c.slot1, spa := c.spa, spb := c.spb, ka := c.ka, kb := c.kb }

/-- Every die but the island loses power: the caddy and the island keep what they hold, the rest is gone.  With `doze`
the Wake group stays on. -/
def coldNode (n : Node) (doze : Bool) : Node :=
  let n := lsPowerDown (sfPowerDown (drainSafety n))
  { uid := n.uid, free := n.free, out := n.out
    regs := n.regs.filter (fun e => islandReg e.1 || (e.1 / 0x100000 == 14 && cbKeeps e.1)
      || (doze && e.1 / 0x100000 == 13 && emKeeps e.1))
    line := { blanking := n.line.blanking }, qm := { log := coldLog n.qm.log }, cf := coldCaddy n.cf, sa := n.sa, ls := n.ls
    pw := { unbooted := n.pw.unbooted, resetKind := n.pw.resetKind, thermal := n.pw.thermal, wdTimes := n.pw.wdTimes
            slow := n.pw.slow } }

/-- A reset of a kind of Table PW-3: all dies but the island restart and wait for their boot (R400, R404).
A reset of another kind than WATCHDOG ends WDSTOP (R401). -/
def nodeReset (n : Node) (kind : Nat) : Node :=
  let n := coldNode n (kind = 2 && powerState n = 2)
  let n := sf n R.PW_RSTSTAT F.PW_RSTSTAT_KIND kind
  let n := if kind = 5 then n else sf n R.PW_RSTSTAT F.PW_RSTSTAT_WDSTOP 0
  withPw n (fun p => { p with unbooted := true, resetKind := kind })

/-! ### Wakes (R398, R399) -/

/-- Originate a wake tone on the relay ports (R399, R413): counted in PW_CNT[7], and blanking applies (R51). -/
def originateTone (n : Node) : Node :=
  let relay := gf n R.LP_WAKECFG F.LP_WAKECFG_RELAY
  count (forRange 4 (fun n p => if bitOf relay p then sendWakeTone n p else n) n) (R.PW_CNT 7)

/-- A wake source fires in PARKED or DOZE: latched, a wake tone sent where asked, and the boot is due.  A node that
already wakes only sets the bit of ALL. -/
def wakeNode (n : Node) (src : Nat) : Node :=
  if !asleep n then n
  else
    let n := sbit n R.PW_WAKESRC src
    if n.pw.unbooted then n
    else
      let n := sf (sf n R.PW_WAKESRC F.PW_WAKESRC_FIRST src) R.PW_WAKESRC F.PW_WAKESRC_VALID 1
      let n := nodeReset n 2
      if src ≠ 4 ∧ gf n R.PW_WAKECFG F.PW_WAKECFG_TONEOUT = 1 then originateTone n else n

/-- Is an armed wake pin or LHOME_N enabled, and the alarm armed (R398)? -/
def wakeArmed (n : Node) (src : Nat) : Bool :=
  if src < 4 then rbit n R.PW_WAKECFG src
  else if src = 6 then gf n R.PW_WAKECFG F.PW_WAKECFG_ALMEN == 1
  else if src = 7 then gf n R.PW_WAKECFG F.PW_WAKECFG_LHEN == 1
  else false

/-- PW_ALARM. -/
def alarmAt (n : Node) : Nat := (rd n R.PW_ALARM_LO).toNat + 2 ^ 32 * bits (rd n R.PW_ALARM_HI).toNat 0 16

/-- The alarm fires: it disarms itself, in every state; the slow counter stands at PW_ALARM. -/
def alarmFires (n : Node) : Node :=
  withPw (sf n R.PW_WAKECFG F.PW_WAKECFG_ALMEN 0) (fun p => { p with slow := BitVec.ofNat 48 (alarmAt n) })

/-- WAKE_EVENT (R398): WAKE_0 to WAKE_3 (source 0 to 3), the alarm timer (6), or LHOME_N (7).  The sources 4, 5, 8 and 9
have commands of their own. -/
def execWakeEvent (src : Fin 10) (s : State) : Host.Outcome State Fault Refusal :=
  onNode s (fun n =>
    if !wakeArmed n src.val || powerState n = 0 then n
    else if src.val = 6 then (if n.pw.slow.toNat < alarmAt n then wakeNode (alarmFires n) 6 else n)
    else wakeNode n src.val)

/-- WAKE_TONE_DETECT (R50 to R52): recorded and counted in LINE-ONLY and RUN; relayed in PARKED and DOZE. -/
def wakeTone (n : Node) (p : Nat) : Node :=
  let first (n : Node) : Node :=
    if gf n R.LP_WAKESTAT F.LP_WAKESTAT_FVALID = 1 then n
    else sf (sf n R.LP_WAKESTAT F.LP_WAKESTAT_FIRST p) R.LP_WAKESTAT F.LP_WAKESTAT_FVALID 1
  if !bitOf (gf n R.LP_WAKECFG F.LP_WAKECFG_DETEN) p || powerState n = 0 then n
  else if lineOn n then portEvent (count (first n) (R.LP_CNT p 7)) p F.LP_PORTEVT_WAKEDET
  else if n.line.blanking then n
  else
    let n := first { n with line := { n.line with blanking := true } }
    let qs := which 4 (fun q => q != p && bitOf (gf n R.LP_WAKECFG F.LP_WAKECFG_RELAY) q)
    let n := qs.foldl (fun n q => emit n (.wakeTone q)) n
    let n := if qs.isEmpty then n else sf n R.LP_WAKESTAT F.LP_WAKESTAT_RELAYED 1
    wakeNode n 4

/-- WAKE_TONE_DETECT (R50). -/
def execWakeToneDetect (p : Fin 4) (s : State) : Host.Outcome State Fault Refusal := onNode s (fun n => wakeTone n p.val)

/-- WAKE_PATTERN_MATCH (R371, R372): frames received in DOZE in one clock, by MAC; the lowest pattern index, then the
lowest MAC, is latched. -/
def wakePattern (n : Node) (frames : List (Nat × List Byte)) : Node :=
  if powerState n ≠ 2 || n.pw.unbooted then n
  else
    let hits := (List.range 16).flatMap (fun i =>
      (List.range 6).filterMap (fun m => if frames.any (fun f => f.1 == m && patternMatches n m i f.2) then some (m, i) else none))
    match hits with
    | [] => n
    | (m, i) :: _ =>
      let n := sf (sf n R.EM_WAKESTAT F.EM_WAKESTAT_MAC m) R.EM_WAKESTAT F.EM_WAKESTAT_PAT i
      let n := wakeNode (sf n R.EM_WAKESTAT F.EM_WAKESTAT_VALID 1) 8
      sf n R.EM_EVT F.EM_EVT_WAKE 1

/-- WAKE_PATTERN_MATCH (R372). -/
def execWakePatternMatch (frames : List (Fin 6 × List Byte)) (s : State) : Host.Outcome State Fault Refusal :=
  onNode s (fun n => wakePattern n (frames.map (fun f => (f.1.val, f.2))))

/-- DOMUS: 0 is treated as 1. -/
def domus (n : Node) : Nat := max 1 (gf n R.CB_WAKECFG F.CB_WAKECFG_DOMUS)

/-- CAN_DOMINANT_WAKE (R390, R391): CAN_RX_c has been dominant for `us` µs. -/
def execCanDominantWake (c : Fin 4) (us : BitVec 8) (s : State) : Host.Outcome State Fault Refusal :=
  onNode s (fun n =>
    if !bitOf (gf n R.CB_WAKECFG F.CB_WAKECFG_WEDGE) c.val || us.toNat < domus n || powerState n = 0 then n
    else if asleep n then wakeNode n 5
    else canLeaveSleep n c.val)

/-- CAN_WAKE_FRAME (R391): frames with a good CRC received in DOZE in one CAN clock, by controller. -/
def wakeCanFrame (n : Node) (frames : List (Nat × CanFrame)) : Node :=
  if powerState n ≠ 2 || n.pw.unbooted then n
  else
    let hits := (List.range 4).flatMap (fun c =>
      (List.range 4).filterMap (fun i => if frames.any (fun f => f.1 == c && wakeFilterMatches n c f.2 i) then some (c, i) else none))
    match hits with
    | [] => n
    | (c, i) :: _ =>
      let n := sf (sf n R.CB_WAKESTAT F.CB_WAKESTAT_CTRL c) R.CB_WAKESTAT F.CB_WAKESTAT_FILT i
      wakeNode (sf n R.CB_WAKESTAT F.CB_WAKESTAT_VALID 1) 9

/-- CAN_WAKE_FRAME (R391). -/
def execCanWakeFrame (frames : List (Fin 4 × CanFrame)) (s : State) : Host.Outcome State Fault Refusal :=
  onNode s (fun n => wakeCanFrame n (frames.map (fun f => (f.1.val, f.2))))

/-! ### Resets (R400 to R402, R416, R464) -/

/-- Times of WATCHDOG resets within the last 60 s of slow-counter ticks. -/
def recentResets (n : Node) : List Nat := n.pw.wdTimes.filter (fun t => n.pw.slow.toNat < t + 60 * 32768)

/-- WDCNT follows the resets of the last 60 s. -/
def showResets (n : Node) : Node :=
  let l := recentResets n
  sf (withPw n (fun p => { p with wdTimes := l })) R.PW_RSTSTAT F.PW_RSTSTAT_WDCNT (min 3 l.length)

/-- The slow counter has run on by some ticks; an armed alarm it reaches in LINE-ONLY or RUN disarms itself. -/
def slowRuns (n : Node) (ticks : Nat) : Node :=
  let t := n.pw.slow.toNat
  let hit := gf n R.PW_WAKECFG F.PW_WAKECFG_ALMEN == 1 && decide (t < alarmAt n) && decide (alarmAt n ≤ t + ticks) && !asleep n
  let n := if hit then sf n R.PW_WAKECFG F.PW_WAKECFG_ALMEN 0 else n
  if powerState n = 0 then n else withPw n (fun p => { p with slow := p.slow + BitVec.ofNat 48 ticks })

/-- WDTIME: lower values are treated as 16. -/
def wdTime (n : Node) : Nat := max 16 (gf n R.PW_WDCFG F.PW_WDCFG_WDTIME)

/-- A WATCHDOG reset (R401): the third within 60 s stops further ones. -/
def watchdog (n : Node) (ticks : Nat) : Node :=
  let n := slowRuns n ticks
  if !lineOn n || gf n R.PW_WDCFG F.PW_WDCFG_EN = 0 || cxAlive n || n.pw.beatLost < wdTime n
      || gf n R.PW_RSTSTAT F.PW_RSTSTAT_WDSTOP = 1 then n
  else
    let n := withPw n (fun p => { p with wdTimes := p.slow.toNat :: p.wdTimes })
    let n := showResets (nodeReset n 5)
    if 3 ≤ n.pw.wdTimes.length then sf n R.PW_RSTSTAT F.PW_RSTSTAT_WDSTOP 1 else n

/-- WATCHDOG_EXPIRY (R401); `ticks`: slow-counter ticks since the boundary before. -/
def execWatchdogExpiry (ticks : BitVec 16) (s : State) : Host.Outcome State Fault Refusal :=
  onNode s (fun n => watchdog n ticks.toNat)

/-- ISLAND_RESET (R416): the island supply rises, after a loss or for the first time. -/
def islandReset (n : Node) : Node :=
  let n := nodeReset n 0
  let n := sfIslandReset { n with regs := n.regs.filter (fun e => !islandReg e.1 && e.1 / 0x100000 != 14), ls := {}, line := {} }
  withPw (sf n R.PW_RSTSTAT F.PW_RSTSTAT_BKLOST 1) (fun _ => { unbooted := true, resetKind := 0 })

/-- ISLAND_RESET (R416). -/
def execIslandReset (s : State) : Host.Outcome State Fault Refusal := onNode s islandReset

/-- ISLAND_SUPPLY_LOSS (R416): the node is OFF. -/
def islandLoss (n : Node) : Node := sf (islandReset n) R.PW_STAT F.PW_STAT_STATE 0

/-- ISLAND_SUPPLY_LOSS (R416). -/
def execIslandSupplyLoss (s : State) : Host.Outcome State Fault Refusal := onNode s islandLoss

/-- A reset from a cause that OFF does not know. -/
def resetOn (n : Node) (kind : Nat) : Node := if powerState n = 0 then n else nodeReset n kind

/-- RESET_PIN (R400). -/
def execResetPin (s : State) : Host.Outcome State Fault Refusal := onNode s (fun n => resetOn n 3)

/-- RAIL_RESET (R464). -/
def execRailReset (s : State) : Host.Outcome State Fault Refusal := onNode s (fun n => resetOn n 7)

/-- THERMAL_RESET (R402): the node is held in reset until the release. -/
def execThermalReset (s : State) : Host.Outcome State Fault Refusal :=
  onNode s (fun n => if powerState n = 0 then n else withPw (nodeReset n 6) (fun p => { p with thermal := true }))

/-- THERMAL_RELEASE (R402). -/
def execThermalRelease (s : State) : Host.Outcome State Fault Refusal :=
  onNode s (fun n => withPw n (fun p => { p with thermal := false }))

/-! ### Parking (R397, R413 to R415) -/

/-- DOZE instead of PARKED: the round's DOZE flag, or DOZEONLY (R414). -/
def dozes (n : Node) (flag : Bool) : Bool := flag || gf n R.PW_SLEEPCFG F.PW_SLEEPCFG_DOZEONLY == 1

/-- R414: runs end, the history batch is written, link-drop goes out of every enabled port, and power is removed from
all groups but those of the target state.  The count of PW_CNT[3] is made, and lost with the Line group. -/
def parkNow (n : Node) (doze : Bool) : Node :=
  let n := count (flushHistory n) (R.PW_CNT 3)
  let n := forRange 4 (fun n p => if portState n p ≠ 0 then emit n (.linkDrop p) else n) n
  let slow := n.pw.slow
  let stay := putStb (sf (coldNode n doze) R.PW_STAT F.PW_STAT_STATE (if doze then 2 else 1))
  withPw stay (fun p => { p with unbooted := false, slow := slow })

/-- PW_CTL.TARGET = PARKED or DOZE (R397). -/
def targetSleep (n : Node) (doze : Bool) : Node :=
  if anyUp n then sf n R.PW_EVT F.PW_EVT_REFUSED 1 else parkNow n doze

/-- Is a blend loaded (R296)? -/
def blendLoaded (n : Node) : Bool := !n.cf.running.isEmpty

/-- A write of PW_CTL, under a session role or, with role 0, directly (R421).  CANCEL is taken before ROUND, and the
reset follows the response. -/
def pwCtlWrite (n : Node) (role : Nat) (v : BitVec 32) : Node :=
  if role = 0 then protectedWrite n R.PW_CTL
  else
    let n := if fget v F.PW_CTL_CANCEL = 1 then
        withPw n (fun p => { p with request := none, requestDue := false, retryIn := none, quietFor := 0
                                    held := p.held.filter (fun h => h.1 != ownNumber n) })
      else n
    let n := if fget v F.PW_CTL_ROUND = 1 ∧ gf n R.PW_SLEEPCFG F.PW_SLEEPCFG_AUTH = 1 ∧ n.pw.request.isNone then
        withPw n (fun p => { p with request := some (gf n R.PW_SLEEPCFG F.PW_SLEEPCFG_TARGET == 1), requestDue := true })
      else n
    if role ≠ 2 ∧ role ≠ 3 then n
    else
      let n := if fget v F.PW_CTL_RESET = 1 then withPw n (fun p => { p with softReset := true }) else n
      let t := fget v F.PW_CTL_TARGET
      if n.pw.failing.isSome then n
      else if t = 1 ∨ t = 2 then targetSleep n (t = 2)
      else if t = 3 ∧ isRun n then withPw n (fun p => { p with moveTo := some 3 })
      else if t = 4 ∧ !isRun n ∧ blendLoaded n then withPw n (fun p => { p with moveTo := some 4 })
      else n

/-- The reset that was asked for, once the response is out (R421). -/
def afterResponse (n : Node) : Node := if n.pw.softReset then nodeReset n 4 else n

/-- A write of PW_CTL that a command carries. -/
def pwCommand (role : Nat) (v : BitVec 32) (s : State) : Host.Outcome State Fault Refusal :=
  onNode s (fun n => if lineOn n then afterResponse (pwCtlWrite n role v) else n)

/-- SOFTWARE_RESET (R421). -/
def execSoftwareReset (role : Fin 5) (s : State) : Host.Outcome State Fault Refusal := pwCommand role.val (fset 0#32 F.PW_CTL_RESET 1) s
/-- TARGET_PARKED (R397). -/
def execTargetParked (role : Fin 5) (s : State) : Host.Outcome State Fault Refusal := pwCommand role.val (fset 0#32 F.PW_CTL_TARGET 1) s
/-- TARGET_DOZE (R397). -/
def execTargetDoze (role : Fin 5) (s : State) : Host.Outcome State Fault Refusal := pwCommand role.val (fset 0#32 F.PW_CTL_TARGET 2) s
/-- TARGET_LINE_ONLY (R396): the node moves at the next boundary. -/
def execTargetLineOnly (role : Fin 5) (s : State) : Host.Outcome State Fault Refusal := pwCommand role.val (fset 0#32 F.PW_CTL_TARGET 3) s
/-- TARGET_RUN (R396): the node moves at the next boundary. -/
def execTargetRun (role : Fin 5) (s : State) : Host.Outcome State Fault Refusal := pwCommand role.val (fset 0#32 F.PW_CTL_TARGET 4) s
/-- ROUND_WRITE (R406). -/
def execRoundWrite (role : Fin 5) (s : State) : Host.Outcome State Fault Refusal := pwCommand role.val (fset 0#32 F.PW_CTL_ROUND 1) s
/-- ROUND_CANCEL (R406). -/
def execRoundCancel (role : Fin 5) (s : State) : Host.Outcome State Fault Refusal := pwCommand role.val (fset 0#32 F.PW_CTL_CANCEL 1) s

/-! ### Power failure and hold-up (R417 to R420) -/

/-- The hold-up capacitor carries the sequence: EN = 1 and HOLDOK = 1 (R420). -/
def heldUp (n : Node) : Bool := gf n R.PW_HOLDCFG F.PW_HOLDCFG_EN == 1 && gf n R.PW_HOLDSTAT F.PW_HOLDSTAT_HOLDOK == 1

/-- POWER_FAILURE (R417, R418, R297): with hold-up, the caddy flush and, from a numbered node, three gasps; the rails
fall at the 40th boundary (Table PW-8, 5 ms).  Without, power is lost at once (Table CF-10). -/
def powerFailure (n : Node) : Node :=
  if !lineOn n || n.pw.failing.isSome then n
  else
    let n := sf n R.PW_HOLDSTAT F.PW_HOLDSTAT_PFAIL 1
    let n := withCf n (fun c => { c with staging := none })
    if heldUp n then
      withPw (flushHistory n) (fun p => { p with
        failing := some 0, moveTo := none, gasp := if ownNumber n = 0 then none else some (3, cnNow n) })
    else nodeReset n 1

/-- POWER_FAILURE (R417). -/
def execPowerFailure (s : State) : Host.Outcome State Fault Refusal := onNode s powerFailure

/-- The 152 bytes of a gasp (R419). -/
def gaspBytes (n : Node) (cn : Nat) : List Byte :=
  cut ([7#8, 0#8] ++ beBytes 2 (ownNumber n) ++ beBytes 8 n.uid.toNat ++ beBytes 6 cn ++ [1#8]) 0 152

/-- The boundary of a node that has lost its supply (Table PW-8): steps 2, 3 and 5. -/
def failBoundary (n : Node) : Node :=
  match n.pw.failing with
  | none => n
  | some k =>
    if 39 ≤ k then nodeReset n 1
    else
      let n := withPw (leaveRun n) (fun p => { p with failing := some (k + 1) })
      match n.pw.gasp with
      | some (left, cn) =>
        withPw (queueBoth n 0x0C 0xFFFF (gaspBytes n cn)) (fun p => { p with gasp := if left ≤ 1 then none else some (left - 1, cn) })
      | none => n

/-- A node reads a gasp with a good tag: one event per sender and failure (R419). -/
def takeGasp (n : Node) (b : List Byte) : Node :=
  let m := be b 2 2
  let cn := be b 12 6
  if m = ownNumber n || n.pw.gaspSeen.any (fun e => e.1 == m && e.2 == cn) then n
  else
    let n := withPw n (fun p => { p with gaspSeen := insertKey m cn (dropKey p.gaspSeen m) })
    let n := count n (R.PW_CNT 6)
    raise n .n 15 0 R.PW_EVT F.PW_EVT_GASPRX (leBytes 2 m ++ leBytes 6 (be b 4 8))

/-- GASP_RECEIVED (R419).  The record has room for six bytes of the identity. -/
def execGaspReceived (c : Fin 2) (frame : List Byte) (s : State) : Host.Outcome State Fault Refusal :=
  onNode s (fun n =>
    let c := c.val
    if !hears n c frame then n
    else if fType frame ≠ 0x0C then notPermitted n c frame
    else
      let n := countCrc n (rxPort n c frame) frame
      let n := noteClaimed (if passesCn n c frame then n else cnMismatch n c) c frame
      let (n, seen) := passFrame n c frame frame true
      if !seen || !usable n c frame || be frame 24 1 ≠ 7 then n
      else if singleTagOk n c frame then takeGasp n (cut frame 24 152) else tagFailure n c)

/-- HOLDUP_LOW (R420). -/
def execHoldupLow (s : State) : Host.Outcome State Fault Refusal :=
  onNode s (fun n =>
    if !lineOn n || n.pw.failing.isSome || gf n R.PW_HOLDSTAT F.PW_HOLDSTAT_HOLDOK = 0 then n
    else sf (sf n R.PW_HOLDSTAT F.PW_HOLDSTAT_HOLDOK 0) R.PW_EVT F.PW_EVT_HOLDLOW 1)

/-- HOLDUP_CHARGED (R420): VHOLD reaches 32.0 V, 128 units of 0.25 V. -/
def execHoldupCharged (s : State) : Host.Outcome State Fault Refusal :=
  onNode s (fun n =>
    if !lineOn n || n.pw.failing.isSome then n
    else sf (sf n R.PW_HOLDSTAT F.PW_HOLDSTAT_HOLDOK 1) R.PW_STAT F.PW_STAT_VHOLD (max 128 (gf n R.PW_STAT F.PW_STAT_VHOLD)))

/-- A read of PW_SLOW_LO latches PW_SLOW_HI (R416). -/
def readSlowLo (n : Node) : Node × BitVec 32 :=
  (withPw n (fun p => { p with slowHi := BitVec.ofNat 32 (p.slow.toNat / 2 ^ 32) }), n.pw.slow.setWidth 32)

/-- SLOW_LO_READ (R416); `ticks`: slow-counter ticks since the boundary before. -/
def execSlowLoRead (ticks : BitVec 16) (s : State) : Host.Outcome State Fault Refusal :=
  onNode s (fun n => if lineOn n then answerWord (readSlowLo (slowRuns n ticks.toNat)) else n)

end Sys2Proof.Machine
end

