-- ==== Sys2Proof/Machine/Dies.lean ====
section
/-! DEFINITION. Die health and failure, and the hold of the host view (spec/01_architecture.md: R25, R26, R29 to R31,
R34, Tables AC-7 and AC-8; R76, R138, R280, R475). -/

namespace Sys2Proof.Machine

/-- STATE of die i (Table AC-8). -/
def dieState (n : Node) (i : Nat) : Nat := gf n (R.AC_DIEHEALTH i) F.AC_DIEHEALTH_STATE

/-- Class of the record of a new STATE (R30): D for FAILED, G for GOOD, DEGRADED and RETAINED, no record for OFF. -/
def stateClass : Nat → Option Class
  | 4 => some .d
  | 2 => some .g
  | 3 => some .g
  | 5 => some .g
  | _ => none

/-- DIE_STATE_CHANGE (R29, R30, R34): the STATE of die i becomes `st`.  FAILED stays.  DETAIL, whose content no chapter
gives, is a free value outside GOOD and OFF (log entry 2).  `other` is the second cause of the same cycle. -/
def setDieState (n : Node) (i st cause other : Nat) : Node :=
  if dieState n i = st ∨ dieState n i = 4 then n
  else
    let a := R.AC_DIEHEALTH i
    let (v, n) := if st = 2 ∨ st = 0 then (0#64, n) else freshWord n
    let shown := if st = 3 ∨ st = 4 then cause else 0
    let n := sf (sf (sf n a F.AC_DIEHEALTH_STATE st) a F.AC_DIEHEALTH_CAUSE shown) a F.AC_DIEHEALTH_DETAIL (v.toNat % 256)
    let n := sbit n R.AC_HEALTHSUM (16 + i)
    let n := sflag n R.AC_HEALTHSUM ⟨i, 1⟩ (st = 4)
    let n := sflag n R.AC_HEALTHSUM ⟨8 + i, 1⟩ (st = 3)
    match stateClass st with
    | some c => record n c (evCode 0 (16 + i)) (dieSource i) (leBytes 4 (a % 0x100000) ++ leBytes 1 st ++ leBytes 1 shown ++ leBytes 1 other)
    | none => n

/-- The STATE a die that has not failed shows in the present power state (Tables AC-3, AC-8): AX is off outside RUN,
NV is degraded after a failed journal write (R280). -/
def dieNominal (n : Node) (i : Nat) : Nat :=
  if i = 3 then (if isRun n then 2 else 0) else if i = 6 ∧ n.cf.nvBad then 3 else 2

/-- CAUSE of a DEGRADED NV, which the spec does not give: a free value (log entry 2). -/
def degradedCause (n : Node) (i : Nat) : Node × Nat :=
  if dieNominal n i = 3 ∧ dieState n i ≠ 3 ∧ dieState n i ≠ 4 then
    let (v, n) := freshWord n
    (n, v.toNat % 16)
  else (n, 0)

/-- HEALTH_WORD_UPDATE (R29, R475): TEMP from the temperatures in °C + 64, CECNT from the errors corrected since the
last update, STATE of the power state in force. -/
def updateHealth (n : Node) (temps ces : List Nat) : Node :=
  forRange 8 (fun n i =>
    let a := R.AC_DIEHEALTH i
    let n := sf n a F.AC_DIEHEALTH_TEMP (min 255 (temps.getD i 0))
    let n := sf n a F.AC_DIEHEALTH_CECNT (min 255 (gf n a F.AC_DIEHEALTH_CECNT + ces.getD i 0))
    let (n, c) := degradedCause n i
    setDieState n i (dieNominal n i) c 0) n

/-- The CX heartbeat stops (Table AC-7, R76, R138): the application plane stops; the line dies go on by themselves. -/
def cxStop (n : Node) : Node :=
  let n := forRange 32 stopEngine n
  { n with line := { n.line with cxLost := true } }

/-- A line die fails: its channel is lost at this node (Table AC-7). -/
def lineDieStop (n : Node) (c : Nat) : Node :=
  forRange 2 (fun n side =>
    let p := portOf c side
    let n := if portState n p = 7 then leaveUp n p false else n
    setPort (setPortState n p 0) p { port n p with hold := false }) n

/-- AX fails: audio processing and the V-engines stop (Table AC-7). -/
def axStop (n : Node) : Node :=
  let n := forRange 16 (fun n k => stopEngine n (16 + k)) n
  { n with mil := { n.mil with unitWriter := [] }, au := { lib := n.au.lib } }

/-- The effects of a failed die (R31, Table AC-7). -/
def dieEffects (n : Node) (i : Nat) : Node :=
  if i = 0 || i = 4 || i = 5 then cxStop n
  else if i = 1 then lineDieStop n 0
  else if i = 2 then lineDieStop n 1
  else if i = 3 then axStop n
  else if i = 6 then withLog n { n.qm.log with batch := [] }
  else lsPowerDown (sfPxFailed n)

/-- DIE_FAILURE (R30, R31, R34): die i fails with a cause of AC_DIEHEALTH.CAUSE, and perhaps a second one of the same
cycle.  The lower code is reported.  A die that is unpowered or has failed does not fail. -/
def execDieFailure (die : Fin 8) (cause : Fin 7) (other : Option (Fin 7)) (s : State) : Host.Outcome State Fault Refusal :=
  onNode s (fun n =>
    let i := die.val
    if !lineOn n || n.pw.unbooted || dieFailed n i || (i == 3 && !isRun n) then n
    else
      let c := cause.val + 1
      let d := match other with
        | some o => o.val + 1
        | none => 0
      let lo := if d = 0 then c else min c d
      let hi := if d = 0 then 0 else max c d
      dieEffects (setDieState n i 4 lo hi) i)

/-- CX_HEARTBEAT_STOP (R76, R138, Table AC-7). -/
def execCxHeartbeatStop (s : State) : Host.Outcome State Fault Refusal :=
  onNode s (fun n => if lineOn n && !n.pw.unbooted && cxAlive n then cxStop n else n)

/-- IMAGE_HOLD_EXPIRY (R26): HOLD has been 1 for 64 boundaries. -/
def holdExpires (n : Node) : Node :=
  if gf n R.AC_IMGCTL F.AC_IMGCTL_HOLD = 1 ∧ 64 ≤ n.holdRun then
    let n := sf (sf n R.AC_IMGCTL F.AC_IMGCTL_HOLD 0) R.AC_IMGSTAT F.AC_IMGSTAT_HELD 0
    raise { n with holdRun := 0 } .g 0 0 R.AC_IMGSTAT F.AC_IMGSTAT_HOLDEXP
  else n

/-- IMAGE_HOLD_EXPIRY (R26). -/
def execImageHoldExpiry (s : State) : Host.Outcome State Fault Refusal := onNode s holdExpires

end Sys2Proof.Machine
end

