-- ==== Sys2Proof/Machine/HostRings.lean ====
section
/-! DEFINITION. Command and response rings, and the interrupts of the host interfaces (R305, R309, R311 to R313, R318). -/

namespace Sys2Proof.Machine

/-- Change what the host interfaces keep. -/
def withHb (n : Node) (f : HbState → HbState) : Node := { n with hb := f n.hb }

/-- Count in HB_CNT[k]. -/
def hbCount (n : Node) (k : Nat) : Node := count n (R.HB_CNT k)

/-- Set an event bit of HB_EVT without a record. -/
def hbEvt (n : Node) (f : Field) : Node := sf n R.HB_EVT f 1

/-- The host interfaces are powered and available: CX runs, or only a memory die has failed (Table AC-3, Table AC-7). -/
def hostOn (n : Node) : Bool :=
  lineOn n && (cxAlive n || (!dieFailed n 0 && (dieFailed n 4 || dieFailed n 5)))

/-- Does interface `i` reach the node: PCI Express not while its link is held down (R305). -/
def ifaceOn (n : Node) (i : Nat) : Bool := hostOn n && !(i == 0 && n.hb.perst)

/-! ### Rings -/

/-- What the node keeps of ring k. -/
def ring (n : Node) (k : Nat) : Ring := look {} n.hb.rings k
/-- Set it. -/
def setRing (n : Node) (k : Nat) (r : Ring) : Node := withHb n (fun h => { h with rings := put {} h.rings k r })

/-- Command queue of ring k (R311). -/
def cmdQueue (k : Nat) : Nat := 2 * k
/-- Response queue of ring k (R311). -/
def rspQueue (k : Nat) : Nat := 2 * k + 1

/-- Interface of ring k (Table HB-3): 0 PCI Express, 1 QSPI, 2 console. -/
def ringIface (k : Nat) : Nat := if k < 6 then 0 else if k = 6 then 1 else 2

/-- May interface `i` ring the doorbells of ring k?  Ring 7 is used by the node only (Table HB-3). -/
def ownsRing (i k : Nat) : Bool := decide (k < 7) && i == ringIface k

/-- Is ring k stopped? -/
def ringStopped (n : Node) (k : Nat) : Bool := gf n (R.HB_RINGSTAT k) F.HB_RINGSTAT_ERR == 1

/-- An invalid doorbell: the ring stops until a FLUSH (R312). -/
def ringError (n : Node) (k : Nat) : Node := hbEvt (sf n (R.HB_RINGSTAT k) F.HB_RINGSTAT_ERR 1) F.HB_EVT_RINGERR

/-- A write of HB_CMDDB[k] by interface `i` (R311, R312). -/
def cmdDoorbell (n : Node) (i k tail : Nat) : Node :=
  if !ownsRing i k then hbCount n 12
  else
    let n := sf n (R.HB_CMDDB k) F.HB_CMDDB_COUNT tail
    if ringStopped n k then n else (tailDoorbell n (cmdQueue k) tail).getD (ringError n k)

/-- A write of HB_RSPDB[k] by interface `i` (R311, R312). -/
def rspDoorbell (n : Node) (i k head : Nat) : Node :=
  if !ownsRing i k then hbCount n 12
  else
    let n := sf n (R.HB_RSPDB k) F.HB_RSPDB_COUNT head
    if ringStopped n k then n else (headDoorbell n (rspQueue k) head).getD (ringError n k)

/-- A FLUSH of ring k (R313): both queues are emptied, ERR is cleared, and the response of a command in progress will
be discarded. -/
def ringFlush (n : Node) (k : Nat) : Node :=
  let n := emptyQueue (emptyQueue n (cmdQueue k)) (rspQueue k)
  let n := sf n (R.HB_RINGSTAT k) F.HB_RINGSTAT_ERR 0
  let r := ring n k
  if r.cur.isSome then setRing n k { r with flush := true } else n

/-! ### Interrupts (R309, R318) -/

/-- The registers whose W1C bits are the event bits of a block of Table SC-5. -/
def eventRegs : Nat → List Nat
  | 0 => [R.AC_SHADOWSTAT, R.AC_IMGSTAT, R.AC_HEALTHSUM]
  | 1 => [R.TB_EVT]
  | 2 => (List.range 4).map R.LP_PORTEVT
  | 3 => [R.LC_EVT 0, R.LC_EVT 1]
  | 4 => [R.IN_EVT]
  | 5 => [R.DU_EVT]
  | 6 => [R.MK_EVT]
  | 7 => [R.AU_EVT]
  | 8 => [R.QM_EVT]
  | 9 => [R.CF_EVT]
  | 10 => [R.HB_EVT]
  | 11 => [R.SE_EVT]
  | 12 => [R.ST_EVT, R.ST_EVTBR]
  | 13 => R.EM_EVT :: (List.range 6).map R.EM_MACEVT
  | 14 => (List.range 4).map R.CB_EVT
  | 15 => [R.PW_EVT]
  | 16 => [R.SF_EVT]
  | 17 => [R.LS_EVT]
  | _ => []

/-- The event bits of a register: its W1C bits, and the RC bits of SF_EVT (R318, R444). -/
def eventMask (a : Nat) : BitVec 32 :=
  match regSpec a with
  | some r => BitVec.ofNat 32 (r.w1c ||| (if a = R.SF_EVT then r.rc else 0))
  | none => 0#32

/-- Is an event bit of a block set? -/
def blockEvent (n : Node) (b : Nat) : Bool := (eventRegs b).any (fun a => rd n a &&& eventMask a != 0#32)

/-- HB_IRQSTAT (R318). -/
def irqStat (n : Node) : BitVec 32 :=
  let ev := (List.range 18).foldl (fun v b => v + b2n (blockEvent n b) * 2 ^ b) 0
  let rsp := (List.range 8).any (fun k => decide (0 < (desc n (rspQueue k)).fill))
  let mir := (List.range 6).any (fun k => look 0 n.hb.risen k != 0)
  BitVec.ofNat 32 (ev + b2n rsp * 2 ^ 18 + b2n mir * 2 ^ 19)

/-- Vector of a source (HB_IRQMAP). -/
def irqVector (n : Node) (s : Nat) : Nat := gf n (R.HB_IRQMAP (s / 8)) ⟨4 * (s % 8), 4⟩

/-- Are enabled sources of vector v pending? -/
def vectorPending (n : Node) (v : Nat) : Bool :=
  let p := irqStat n &&& rd n R.HB_IRQEN
  (List.range 20).any (fun s => p.getLsbD s && irqVector n s == v)

/-- Is vector v masked in the MSI-X table (log entry 26)? -/
def vectorMasked (n : Node) (v : Nat) : Bool := (look 1#32 n.hb.msix (4 * v + 3)).getLsbD 0

/-- One vector: a message goes out while its sources are pending and it is armed, unless it is masked; then its pending
bit is set instead (R318). -/
def sendVector (n : Node) (v : Nat) : Node :=
  let armed := bitOf n.hb.armed v
  if !vectorPending n v then withHb n (fun h => { h with pba := if bitOf h.pba v then h.pba - 2 ^ v else h.pba })
  else if !armed then n
  else if vectorMasked n v then withHb n (fun h => { h with pba := if bitOf h.pba v then h.pba else h.pba + 2 ^ v })
  else emit (withHb n (fun h => { h with armed := h.armed - 2 ^ v, pba := if bitOf h.pba v then h.pba - 2 ^ v else h.pba }))
    (.interrupt v)

/-- HOST_IRQ_N follows the sources that are enabled (R309). -/
def driveIrqPin (n : Node) : Node :=
  let low := irqStat n &&& rd n R.HB_IRQEN != 0#32
  if low = n.hb.irqLow then n else emit (withHb n (fun h => { h with irqLow := low })) (.pin "HOST_IRQ_N" 0 (!low))

/-- MSIX_SEND and HOST_IRQ_N. -/
def sendInterrupts (n : Node) : Node :=
  if hostOn n then driveIrqPin (if n.hb.perst then n else forRange 16 sendVector n) else n

/-- A write of HB_IRQACK: the vectors are armed again (R318). -/
def irqAck (n : Node) (v : BitVec 32) : Node := withHb n (fun h => { h with armed := h.armed ||| bits v.toNat 0 16 })

end Sys2Proof.Machine
end

