-- ==== Sys2Proof/Machine/Breaks.lean ====
section
/-! DEFINITION. Breaks of the line: return loss, segment heads, the loss of the leader, moved lanes
(spec/06_redundancy.md, R157 to R171; R110, R482). -/

namespace Sys2Proof.Machine

/-- Change what the redundancy logic keeps. -/
def withDu (n : Node) (f : DuState → DuState) : Node := { n with du := f n.du }

/-! ### Return loss (R159) -/

/-- RETURN_LOSS (R159): an outer port in UP and forwarding has carried neither a return-pass CSF nor a DREQ or DRSP for
2 cycles; the node quarantines it. -/
def execReturnLoss (p : Fin 4) (s : State) : Host.Outcome State Fault Refusal :=
  onNode s (fun n =>
    let p := p.val
    let c := p / 2
    if !lineOn n || role n c = 0 || originates n c || p ≠ outerPort n c || !portUp n p || !portPasses n p || (port n p).silent < 2 then n
    else count (sf (startQuarantine n p) R.DU_EVT F.DU_EVT_RETLOSS 1) (R.DU_CNT 9))

/-! ### Moved lanes (R163, R164, R169) -/

/-- Class of lane l of slot s of channel c, in force (DU_LANECLS); a reserved code is 0. -/
def laneClass (n : Node) (c s l : Nat) : Nat :=
  let v := bits (inForce n (R.DU_LANECLS c s (l / 8))).toNat (4 * (l % 8)) 4
  if 8 < v then 0 else v

/-- Lanes of a channel of one class code, in order of slot, then lane. -/
def lanesOf (n : Node) (c code : Nat) : List Nat :=
  (List.range 72).flatMap (fun i => (which 60 (fun l => laneClass n c (i + 8) l == code)).map (fun l => laneAddr c (i + 8) l))

/-- Movable lanes of a channel in order of class, then slot, then lane. -/
def movableLanes (n : Node) (c : Nat) : List Nat := (List.range 7).flatMap (fun k => lanesOf n c (k + 1))

/-- The pairing of one direction: source and target. -/
def pairDirection (n : Node) (x : Nat) : List (Nat × Nat) := (movableLanes n x).zip (lanesOf n (1 - x) 8)

/-- Is a movable lane of class P0 to P3 left unallocated (R164)? -/
def isShort (n : Node) : Bool :=
  (List.range 2).any (fun x =>
    let urgent := ((List.range 4).map (fun k => (lanesOf n x (k + 1)).length)).foldl (· + ·) 0
    decide ((lanesOf n (1 - x) 8).length < urgent))

/-- The check value of R169. -/
def moveCrc (n : Node) : BitVec 32 :=
  crc32c ((List.range 2).flatMap (fun c => (List.range 72).flatMap (fun i => (List.range 8).flatMap (fun w =>
    leBytes 4 (inForce n (R.DU_LANECLS c (i + 8) w)).toNat))))

/-- LANE_PAIRING_RECOMPUTE (R163, R164, R169): at the boundary at which a DU_LANECLS write is applied, and at power-up. -/
def recomputePairing (n : Node) : Node :=
  let pairs := pairDirection n 0 ++ pairDirection n 1
  let n := withDu n (fun d => { d with moves := pairs.foldl (fun m e => put 0 m e.1 e.2) [] })
  let n := wr n R.DU_MOVECRC (moveCrc n)
  if isShort n then
    if gf n R.DU_STAT F.DU_STAT_SHORT = 1 then n
    else raise (sf n R.DU_STAT F.DU_STAT_SHORT 1) .d 5 0 R.DU_EVT F.DU_EVT_SHORT
  else sf n R.DU_STAT F.DU_STAT_SHORT 0

/-- MOVE_QUERY: a write of DU_MOVEQ; the read fields refer to the source written. -/
def moveQuery (n : Node) (v : BitVec 32) : Node :=
  let src := laneAddr (fget v F.DU_MOVEQ_CHAN) (fget v F.DU_MOVEQ_SLOT) (fget v F.DU_MOVEQ_LANE)
  let n := wr n R.DU_MOVEQ (v &&& 0x0001FFF8#32)
  match moveTarget n src with
  | some t =>
    let n := sf (sf n R.DU_MOVEQ F.DU_MOVEQ_TSLOT (laneSlot t)) R.DU_MOVEQ F.DU_MOVEQ_TLANE (laneNum t)
    sf n R.DU_MOVEQ F.DU_MOVEQ_VALID 1
  | none => n

/-- MOVE_QUERY (R163). -/
def execMoveQuery (value : BitVec 32) (s : State) : Host.Outcome State Fault Refusal :=
  onNode s (fun n => if lineOn n then moveQuery n value else n)

/-- MOVE_TABLE_MISMATCH (R169). -/
def checkMoveTable (n : Node) : Node :=
  if inState n ≠ 4 then n
  else
    let own := (rd n R.DU_MOVECRC).toNat
    let mis := setting n 2 != own
    let n := if (gf n R.DU_STAT F.DU_STAT_MOVEMIS == 1) != mis then
        raise (sflag n R.DU_STAT F.DU_STAT_MOVEMIS mis) .d 5 0 R.DU_EVT F.DU_EVT_MOVEMIS
      else n
    let asked := n.inn.proposals.any (fun p => p.origin == 2 && p.sect == 5 && p.index == 2 && p.data == leBytes 4 own)
    if mis && isLeader n && mayPropose n && !asked then (submitProposal n 2 5 1 2 0 (leBytes 4 own)).1 else n

/-! ### Segment heads (R160, R162) -/

/-- HEADA or HEADB. -/
def headField (c : Nat) : Field := if c = 0 then F.DU_STAT_HEADA else F.DU_STAT_HEADB
/-- Port of channel c that faces node 1. -/
def facing (n : Node) (c : Nat) : Nat := portOf c (orient n)

/-- SEGMENT_HEAD_START and SEGMENT_HEAD_STOP at a boundary (R160, R162), from the cycle just ended. -/
def segmentHead (n : Node) (c : Nat) : Node :=
  let f := facing n c
  let x := port n f
  if isSegHead n c then
    if x.csfLeaderNow && portPasses n f then
      let n := sf (sf n R.DU_STAT (headField c) 0) (R.LC_STAT c) F.LC_STAT_INNER (innerSide n c)
      raise n .n 5 0 R.DU_EVT F.DU_EVT_SEGHEAD
    else n
  else
    let cut := !portPasses n f || (gf n (R.LC_STAT c) F.LC_STAT_UPLOSS == 1 && !x.delayNow && !x.delayLast)
    let other := (port n (facing n (1 - c))).csfNow && portPasses n (facing n (1 - c))
    if isNative n && inState n == 4 && !isLeader n && ownNumber n != 0 && epochNow n != 0 && lineDieOk n c && cxAlive n && cut && other then
      let n := sf (sf n R.DU_STAT (headField c) 1) (R.LC_STAT c) F.LC_STAT_INNER (1 - orient n)
      let n := sf n (R.LC_STAT c) F.LC_STAT_UPLOSS 0
      raise n .n 5 0 R.DU_EVT F.DU_EVT_SEGHEAD
    else n

/-! ### The loss of the leader (R110, R482) -/

/-- Is the leader's side lost on channel c: upstream loss, or the port that faces node 1 does not pass (R110)?
In ring and forerunner modes the port that faces node 1 counts on both channels (log entry 18). -/
def upstreamLost (n : Node) (c : Nat) : Bool :=
  (gf n (R.LC_STAT c) F.LC_STAT_UPLOSS == 1 || !portPasses n (facing n c)) && !(port n (facing n c)).csfNow

/-- The node takes over the time domain as its root (Table TB-1). -/
def takeRoot (n : Node) : Node := withTb n (fun t => { t with trev := (t.recTrev + 1) % 65536, holdCn := cnNow n })

/-- STALE_LEADER_RECOVERY (R482): the image of a STALE leader becomes that of its train. -/
def staleLeader (n : Node) : Node :=
  if isStale n then
    withIn (otherEvent (clearStale n) .d 4 0 R.IN_STAT) (fun i => { i with snapWanted := true })
  else n

/-- LEADER_TAKEOVER (R110). -/
def leaderTakeover (n : Node) : Node :=
  if inState n ≠ 4 || isLeader n || ownNumber n = 0 || epochNow n = 0 || !cxAlive n || !(upstreamLost n 0 && upstreamLost n 1) then n
  else
    let side := 1 - orient n
    let n := withIn n (fun i => { i with
      prevLeader := imgLeader n, splitCn := cnNow n, wanted := true, prepared := none, inaug := none, abandonNow := false
      maxEpoch := max i.maxEpoch (i.prepared.elim 0 (·.epoch)) })
    let n := forRange 2 (fun n c =>
      let f := facing n c
      let n := setPort n f { port n f with shut := true }
      let n := sf (sf n (R.LC_STAT c) F.LC_STAT_INNER side) (R.LC_STAT c) F.LC_STAT_UPLOSS 0
      sf n R.DU_STAT (headField c) 0) n
    let n := sf (sf n R.IN_STAT F.IN_STAT_LEADER 1) R.IN_EVT F.IN_EVT_LEADER 1
    let n := sf n R.IN_STAT F.IN_STAT_INAUG 0
    takeRoot (staleLeader (setImg n 16 (leBytes 8 n.uid.toNat)))

/-! ### What the status shows (R165, R166, R170) -/

/-- Set or clear a DU_STAT bit; `f` runs when it arises. -/
def showDu (n : Node) (f : Field) (b : Bool) (arise : Node → Node) : Node :=
  let old := gf n R.DU_STAT f == 1
  let n := sflag n R.DU_STAT f b
  if b && !old then arise n else n

/-- Bridging, far and break status of a cycle (R165, R166, R170). -/
def showMoves (n : Node) : Node :=
  let cn := cnNow n
  let pick := fun (x : Nat) (a b : Field) => if x = 0 then a else b
  forRange 2 (fun n x =>
    let br := bridges n x
    let far := isNative n && (segHeadAt n x cn || segHeadAt n x (subMod 48 cn 1))
    let n := showDu n (pick x F.DU_STAT_BRIDGEA F.DU_STAT_BRIDGEB) br (fun n => sf n R.DU_EVT F.DU_EVT_BRIDGE 1)
    let n := if br then countBy n (R.DU_CNT 10) (n.du.moves.filter (fun m => laneChan m.1 == x)).length else n
    let n := showDu n (pick x F.DU_STAT_FARA F.DU_STAT_FARB) far id
    showDu n (pick x F.DU_STAT_BREAKA F.DU_STAT_BREAKB) (breakStomp n x) id) n

/-- Which channels the node turned at this boundary and the one before (R165). -/
def shiftTails (n : Node) : Node :=
  forRange 2 (fun n c => setChan n c { chan n c with tailNow := role n c == 5, tailLast := (chan n c).tailNow }) n

end Sys2Proof.Machine
end

