-- ==== Sys2Proof/Machine/Pair.lean ====
section
/-! DEFINITION. Node pairs: pair records and neighbour signals, arbiter, switch-over, hand-back, health
(spec/06_redundancy.md, R172 to R181, R185 to R190; R32, R223). -/

namespace Sys2Proof.Machine

/-! ### Members (R32, R172, R173) -/

/-- The node is configured as a pair member (DU_PAIRCFG.EN in force). -/
def pairMember (n : Node) : Bool := ff n R.DU_PAIRCFG F.DU_PAIRCFG_EN == 1
/-- ROLE (Table IN-12). -/
def pairRole (n : Node) : Nat := gf n R.DU_PAIRSTAT F.DU_PAIRSTAT_ROLE
/-- Set ROLE. -/
def setRole (n : Node) (r : Nat) : Node := sf n R.DU_PAIRSTAT F.DU_PAIRSTAT_ROLE r
/-- The partner's node number; 0 none. -/
def partnerNumber (n : Node) : Nat := if pairId n = 0 then 0 else numberOf n (pairId n)
/-- The lower-numbered member of the node's own pair. -/
def pairLow (n : Node) : Nat := min (ownNumber n) (partnerNumber n)
/-- Unfit to be active (R32). -/
def unfit (n : Node) : Bool :=
  pairMember n && (!cxAlive n || dieFailed n 0 || dieFailed n 3 || dieFailed n 4 || dieFailed n 5 || (dieFailed n 1 && dieFailed n 2))
/-- PREF as the partner's last record on the pair port shows it. -/
def partnerPref (n : Node) : Bool := n.du.partner.head?.elim false (fun x => bitOf x.flags 6)
/-- Both members, or neither, show PREF (R173). -/
def prefMismatch (n : Node) : Bool := !n.du.partner.isEmpty && (ff n R.DU_PAIRCFG F.DU_PAIRCFG_PREF == 1) == partnerPref n
/-- The node is the effective preferred member: by PREF, or by the lower factory identity (R173). -/
def effPref (n : Node) : Bool :=
  if prefMismatch n then decide (n.uid.toNat < pairId n) else ff n R.DU_PAIRCFG F.DU_PAIRCFG_PREF == 1

/-! ### Pair records (R175, R176, Table DU-3) -/

/-- ALIVE (R176). -/
def pairAlive (n : Node) : Bool := cxAlive n && !unfit n && n.du.ranAll
/-- The line port of channel c that faces the partner is in UP. -/
def linkUp (n : Node) (c : Nat) : Bool :=
  (List.range 2).any (fun side => let p := portOf c side; portUp n p && pairId n != 0 && partnerUid n p == pairId n)
/-- SFLAGS as the redundancy logic composes them while the CX heartbeat runs. -/
def pairFlagsNow (n : Node) : Nat :=
  let mine := pairMember n
  128 * b2n (pairAlive n) + 64 * b2n (mine && ff n R.DU_PAIRCFG F.DU_PAIRCFG_PREF == 1)
    + 32 * b2n (mine && linkUp n 0) + 16 * b2n (mine && linkUp n 1) + 8 * gf n R.DU_HEALTH F.DU_HEALTH_SYNC
    + 4 * b2n (n.du.match_ && n.du.shadow.elim false (fun s => cnNow n == cnWrap (s + 2))) + pairRole n
/-- SFLAGS; without its CX heartbeat the line die sends the last ones with ALIVE = 0 (R176). -/
def pairFlags (n : Node) : Nat := if cxAlive n then pairFlagsNow n else n.du.lastFlags % 128
/-- GRANT byte: VALID while the node acts as arbiter or substitute arbiter. -/
def grantByte (n : Node) : Nat :=
  if n.du.arbLow = 0 ∨ (n.du.arbSub ∧ gf n R.DU_PAIRSTAT F.DU_PAIRSTAT_SUBACT = 0) then 0
  else 128 + gf n R.DU_PAIRSTAT F.DU_PAIRSTAT_GRANT
/-- CN of sending on channel c: a line die without the CX heartbeat takes it from the cycle start frame. -/
def signalCn (n : Node) (c : Nat) : Nat := if cxAlive n then cnNow n else refCn n c
/-- The node's pair record for channel c. -/
def pairRecord (n : Node) (c : Nat) : List Byte :=
  let cn := signalCn n c
  let body := beBytes 2 (ownNumber n) ++ beBytes 2 (cn % 65536) ++ beBytes 1 (pairFlags n) ++ beBytes 1 (grantByte n)
  body ++ makeTag n cn c 6 0xFF 0xFFFE (ownNumber n) body
/-- The relay record for port p: the last good record of the other port, of the current or previous cycle (R176). -/
def relayRecord (n : Node) (p : Nat) : List Byte :=
  match (port n (2 * (p / 2) + (1 - p % 2))).pairRec with
  | some (cn, r) => let d := cnDiff (signalCn n (p / 2)) cn; if d = 0 ∨ d = 1 then r else List.replicate 14 0#8
  | none => List.replicate 14 0#8
/-- The partner of line port p is a VT8400. -/
def facesVt8400 (n : Node) (p : Nat) : Bool :=
  gf n (R.LP_PARTNERPORT p) F.LP_PARTNERPORT_VALID == 1 && gf n (R.LP_PARTNERPORT p) F.LP_PARTNERPORT_KIND == 0

/-- NEIGHBOUR_SIGNAL_SEND (R174, R175): on line port p, or with p = 4 the record and health word on the pair port. -/
def sendSignal (n : Node) (p : Nat) : Node :=
  if !lineOn n then n
  else if p = 4 then
    (if pairPortState n = 7 && cxAlive n then emit n (.pairPort (pairRecord n 0 ++ beBytes 4 (rd n R.DU_HEALTH).toNat)) else n)
  else if portPasses n p && lineDieOk n (p / 2) && facesVt8400 n p then emit n (.neighbour p (pairRecord n (p / 2) ++ relayRecord n p))
  else n

/-- NEIGHBOUR_SIGNAL_SEND (R174, R175). -/
def execNeighbourSignalSend (p : Fin 5) (s : State) : Host.Outcome State Fault Refusal := onNode s (fun n => sendSignal n p.val)

/-- A pair record with a good tag: writer, CN, SFLAGS and GRANT (R176). -/
structure PairRec where
  node : Nat
  cn : Nat
  flags : Nat
  grant : Nat
  deriving DecidableEq, Repr

/-- Check a pair record received on channel c. -/
def checkPairRec (n : Node) (c : Nat) (r : List Byte) : Option PairRec :=
  let node := be r 0 2
  let cn := rebuildCn (refCn n c) (be r 2 2)
  if tagOk n cn c 6 0xFF 0xFFFE node (cut r 0 6) (cut r 6 8) then some ⟨node, cn, be r 4 1, be r 5 1⟩ else none

/-- Keep a record by its cycle, once. -/
def addSeen (l : List PairSeen) (x : PairSeen) : List PairSeen := if l.any (fun y => y.cn == x.cn) then l else (x :: l).take 20

/-- A member's heartbeat for cycle c (R178). -/
def heartbeat (l : List PairSeen) (c : Nat) : Bool := l.any (fun x => x.cn == cnWrap c && bitOf x.flags 7)
/-- SFLAGS of the record of cycle c. -/
def flagsOf (l : List PairSeen) (c : Nat) : Option Nat := (l.find? (fun x => x.cn == cnWrap c)).map (·.flags)
/-- The CN of k cycles ago. -/
def cnAgo (n : Node) (k : Nat) : Nat := subMod 48 (cnNow n) k

/-- The arbiter keeps a member's record (R178). -/
def arbiterReads (n : Node) (r : PairRec) : Node :=
  if n.du.arbLow = 0 ∨ r.cn ≠ cnNow n then n
  else
    let x : PairSeen := ⟨r.cn, r.flags⟩
    let active := bitOf r.flags 7 && r.flags % 4 == 1
    if r.node = n.du.arbLow then
      withDu n (fun d => { d with lower := addSeen d.lower x, holder := if active then 1 else d.holder })
    else if r.node = n.du.arbHigh then
      withDu n (fun d => { d with higher := addSeen d.higher x, holder := if active then 2 else d.holder })
    else n

/-- A member reads a record of its arbiter or substitute arbiter (R179 to R181). -/
def memberReadsGrant (n : Node) (r : PairRec) : Node :=
  let arb := gf n R.DU_PAIRSTAT F.DU_PAIRSTAT_ARBNODE
  let low := pairLow n
  if !pairMember n || !bitOf r.grant 7 || partnerNumber n = 0 || ownNumber n = 0 || r.node = 0
      || (r.node ≠ arb && r.node + 1 ≠ low) then n
  else
    let n := withDu n (fun d => { d with arbCn := some r.cn })
    let names := r.grant % 4
    if names = (if ownNumber n = low then 1 else 2) then withDu n (fun d => { d with grantIn := some (cnNow n) }) else n

/-- The active member has read MATCH in a record of cycle s + 2: it becomes standby at boundary s + 4 (R187). -/
def readMatch (n : Node) (r : PairRec) : Node :=
  if pairRole n = 1 && inPair n && bitOf r.flags 2 && r.cn == cnNow n && n.du.yieldCn.isNone then
    withDu n (fun d => { d with yieldCn := some (cnWrap (r.cn + 2)) })
  else n

/-- Use a record with a good tag; `pairPort`: it came on the pair port. -/
def useRecord (n : Node) (pairPort : Bool) (r : PairRec) : Node :=
  let n := memberReadsGrant (arbiterReads n r) r
  if pairMember n && r.node ≠ 0 && r.node == partnerNumber n then
    let x : PairSeen := ⟨r.cn, r.flags⟩
    let n := if pairPort then withDu n (fun d => { d with partner := addSeen d.partner x })
      else withDu n (fun d => { d with partnerLine := addSeen d.partnerLine x })
    readMatch n r
  else n

/-- NEIGHBOUR_SIGNAL_RECEIVED (R175, R176): the neighbour's own record, kept for relay, and the record it relays. -/
def takeSignal (n : Node) (p : Nat) (b : List Byte) : Node :=
  let c := p / 2
  if !lineOn n || !portPasses n p || !lineDieOk n c then n
  else
    let own := cut b 0 14
    let n := match checkPairRec n c own with
      | some r => useRecord (setPort n p { port n p with pairRec := some (signalCn n c, own) }) false r
      | none => count n (R.DU_CNT 11)
    let relay := cut b 14 14
    if relay.all (fun x => x == 0#8) then n
    else match checkPairRec n c relay with
      | some r => useRecord n false r
      | none => count n (R.DU_CNT 11)

/-- NEIGHBOUR_SIGNAL_RECEIVED (R176). -/
def execNeighbourSignalReceived (p : Fin 4) (signal : List Byte) (s : State) : Host.Outcome State Fault Refusal :=
  onNode s (fun n => takeSignal n p.val signal)

/-- PAIR_RECORD_RECEIVED (R178): the partner's record on the pair port; no rule gives the health word that
follows it a use in the node that receives it. -/
def takePairPort (n : Node) (b : List Byte) : Node :=
  if !lineOn n || !cxAlive n || pairPortState n ≠ 7 then n
  else
    match checkPairRec n 0 (cut b 0 14) with
    | some r => useRecord n true r
    | none => count n (R.DU_CNT 11)

/-- PAIR_RECORD_RECEIVED (R178). -/
def execPairRecordReceived (record : List Byte) (s : State) : Host.Outcome State Fault Refusal :=
  onNode s (fun n => takePairPort n record)

/-! ### Changes of role -/

/-- Go to RUN where a blend is loaded. -/
def wantRun (n : Node) : Node := if isRun n || blendLoaded n then withPw n (fun p => { p with moveTo := some 4 }) else n

/-- The node holds the token: ROLE 0b01; what a standby kept for its hand-back is dropped. -/
def holdToken (n : Node) : Node :=
  let n := sf (setRole n 1) R.DU_PAIRSTAT F.DU_PAIRSTAT_TOKEN 1
  let n := sf n R.DU_HEALTH F.DU_HEALTH_SYNC 0
  let n := { n with mil := { n.mil with shadowCn := none, shadowBytes := [] } }
  withDu n (fun d => { d with syncCn := none, request := false, shadow := none, match_ := false, grantIn := none, yieldCn := none })

/-- The standby takes the token in cycle f + 2; its programs run from boundary f + 4 (R180, Table DU-6). -/
def takeToken (n : Node) : Node :=
  wantRun (withDu (holdToken n) (fun d => { d with takeoverCn := some (cnWrap (cnNow n + 2)) }))

/-- The node becomes standby: cold, in LINE-ONLY (R172, R187). -/
def becomeStandby (n : Node) : Node :=
  let n := sf (setRole n 2) R.DU_PAIRSTAT F.DU_PAIRSTAT_TOKEN 0
  let n := sf n R.DU_EVT F.DU_EVT_RELEASE 1
  let n := withDu n (fun d => { d with
    yieldCn := none, takeoverCn := none, shadow := none, match_ := false, ckSeq := none, ckClean := false, request := false })
  withPw n (fun p => { p with moveTo := some 3 })

/-! ### Checkpoint regions (R183) -/

/-- SPACE, first byte and bytes of checkpoint region k. -/
def ckRegion (n : Node) (k : Nat) : Nat × Nat × Nat :=
  (ff n (R.DU_CKBASE k) F.DU_CKBASE_SPACE, 64 * ff n (R.DU_CKBASE k) F.DU_CKBASE_UNITS,
    64 * ff n (R.DU_CKLEN k) F.DU_CKLEN_UNITS)

/-- Is region k held in SRAM? -/
def ckSram (n : Node) (k : Nat) : Bool := let s := (ckRegion n k).1; s == 1 || s == 2

/-- Where the standby keeps SRAM region k: packed in region order from 16 MiB below the end of its DRAM (log entry 28). -/
def ckPlace (n : Node) (k : Nat) : Nat :=
  0xFF000000 + (((List.range k).filter (ckSram n)).map (fun i => (ckRegion n i).2.2)).foldl (· + ·) 0

/-- A store with `len` bytes of another copied in: from `a` there to `b` here. -/
def copyRange (dst src : Sparse Byte) (a len b : Nat) : Sparse Byte :=
  let rest := dst.filter (fun e => decide (e.1 < b) || decide (b + len ≤ e.1))
  (src.filter (fun e => decide (a ≤ e.1) && decide (e.1 < a + len))).foldl (fun m e => put 0#8 m (e.1 - a + b) e.2) rest

/-- Restore the SRAM images from the latest checkpoint with a good CRC (Table DU-6 step 4, R223). -/
def restoreCheckpoint (n : Node) : Node :=
  let progs := n.mil.progs.map (fun p => (p.1, { p.2 with pendCount := 0, hasContext := p.2.hasContext || n.du.ckHave }))
  let n := { n with mil := { n.mil with progs := progs } }
  if !n.du.ckHave then n
  else forRange 16 (fun n k =>
    let (sp, base, len) := ckRegion n k
    let m := n.mil
    if sp = 1 then { n with mil := { m with cxram := copyRange m.cxram n.dram (ckPlace n k) len base } }
    else if sp = 2 then { n with mil := { m with axram := copyRange m.axram n.dram (ckPlace n k) len base } }
    else n) n

/-! ### The arbiter (R177, R179) -/

/-- PARTNER of node m's pair-role entry. -/
def imgPartner (n : Node) (m : Nat) : Nat := imgLe n (imgPair + 4 * (m - 1)) 2

/-- The pairs of the image: lower members, each with its partner, in order. -/
def pairsOf (n : Node) : List (Nat × Nat) :=
  (List.range (nodesNow n)).filterMap (fun i =>
    let l := i + 1
    let h := imgPartner n l
    if l < h ∧ h ≤ nodesNow n ∧ imgPartner n h = l then some (l, h) else none)

/-- Is node m known to be a VT6100: a partner of one of the node's ports that says so? -/
def vt6100At (n : Node) (m : Nat) : Bool :=
  (List.range 4).any (fun p => portUp n p && gf n (R.LP_PARTNERPORT p) F.LP_PARTNERPORT_KIND == 1 && numberOf n (partnerUid n p) == m)

/-- The node chosen as arbiter of a pair; 0 where it does not exist or is a VT6100 (R177). -/
def chosenArbiter (n : Node) (h : Nat) : Nat :=
  let a := if ff n R.DU_PAIRCFG F.DU_PAIRCFG_ARBSEL = 1 then numberOf n (ff64 n R.DU_ARBID_LO R.DU_ARBID_HI) else h + 1
  if a = 0 ∨ nodesNow n < a ∨ vt6100At n a then 0 else a

/-- Arbiters of the pairs in order of lower member: a node arbitrates the first of its pairs only (R177). -/
def arbiters (n : Node) : List (Nat × Nat × Nat) :=
  (pairsOf n).foldl (fun l p =>
    let a := chosenArbiter n p.2
    l ++ [(p.1, p.2, if l.any (fun x => x.2.2 == a) then 0 else a)]) []

/-- The arbitration roles, worked out at each epoch commit (R177). -/
def updateArbiter (n : Node) : Node :=
  let own := ownNumber n
  let arbs := arbiters n
  let main := arbs.find? (fun x => own != 0 && x.2.2 == own)
  let sub := if ff n R.DU_PAIRCFG F.DU_PAIRCFG_SUBARB = 1 then arbs.find? (fun x => own != 0 && x.1 == own + 1) else none
  let (low, high, isSub) := match main, sub with
    | some x, _ => (x.1, x.2.1, false)
    | none, some x => (x.1, x.2.1, true)
    | none, none => (0, 0, false)
  let mine := (arbs.find? (fun x => own != 0 && (x.1 == own || x.2.1 == own))).elim 0 (fun x => x.2.2)
  let n := sf (sf n R.DU_PAIRSTAT F.DU_PAIRSTAT_ARBFOR (if isSub then 0 else low)) R.DU_PAIRSTAT F.DU_PAIRSTAT_ARBNODE mine
  let n := sf (sf n R.DU_PAIRSTAT F.DU_PAIRSTAT_GRANT 0) R.DU_PAIRSTAT F.DU_PAIRSTAT_SUBACT 0
  withDu n (fun d => { d with arbLow := low, arbHigh := high, arbSub := isSub, lower := [], higher := [], holder := 0 })

/-- The grant changes the holder: counted, and one class D event (R179). -/
def changeGrant (n : Node) (g : Nat) : Node :=
  let n := sf n R.DU_PAIRSTAT F.DU_PAIRSTAT_GRANT g
  statusChange (count n (R.DU_CNT 5)) .d 5 0 R.DU_PAIRSTAT

/-- The preferred member of an arbitrated pair by its records and identities: 1 lower, 2 higher (R173). -/
def arbPref (n : Node) : Nat :=
  let p1 := (n.du.lower.head?.elim false (fun x => bitOf x.flags 6))
  let p2 := (n.du.higher.head?.elim false (fun x => bitOf x.flags 6))
  if p1 != p2 then (if p1 then 1 else 2) else if rosterUid n n.du.arbLow < rosterUid n n.du.arbHigh then 1 else 2

/-- The arbiter evaluates at a boundary (R172, R179): cycles c - 1 and c - 2 have ended. -/
def arbiterEvaluates (n : Node) : Node :=
  let d := n.du
  let c1 := cnAgo n 1
  let c2 := cnAgo n 2
  let g := gf n R.DU_PAIRSTAT F.DU_PAIRSTAT_GRANT
  let l1 := heartbeat d.lower c1
  let h1 := heartbeat d.higher c1
  let roleL := (flagsOf d.lower c1).elim 0 (· % 4)
  let roleH := (flagsOf d.higher c1).elim 0 (· % 4)
  if d.arbLow = 0 || !cxAlive n then n
  else if d.arbSub then
    let lone := (flagsOf d.lower c1).elim false (fun f => !bitOf f 5 && !bitOf f 4)
    if gf n R.DU_PAIRSTAT F.DU_PAIRSTAT_SUBACT = 1 then
      (if h1 then sf (sf n R.DU_PAIRSTAT F.DU_PAIRSTAT_SUBACT 0) R.DU_PAIRSTAT F.DU_PAIRSTAT_GRANT 0 else n)
    else if d.holder = 2 && !h1 && !heartbeat d.higher c2 && l1 && roleL == 2 && lone then
      changeGrant (sf n R.DU_PAIRSTAT F.DU_PAIRSTAT_SUBACT 1) 1
    else n
  else if l1 && h1 then
    if (roleL == 1) != (roleH == 1) then
      let g' := if roleL = 1 then 1 else 2
      if g' = g then n else if g = 0 then sf n R.DU_PAIRSTAT F.DU_PAIRSTAT_GRANT g' else changeGrant n g'
    else if roleL = 2 ∧ roleH = 2 ∧ g ≠ arbPref n then changeGrant n (arbPref n)
    else n
  else if g = 1 && !l1 && !heartbeat d.lower c2 && h1 && roleH == 2 then changeGrant n 2
  else if g = 2 && !h1 && !heartbeat d.higher c2 && l1 && roleL == 2 then changeGrant n 1
  else n

/-! ### Switch-over (R180, R181) -/

/-- GRANT_RECEIVED (R180): the token is taken when the partner's heartbeat was missing on the pair port in the 2 most
recent cycles, or the partner is not active (R172); a partner present with ROLE 0b01 is a conflict. -/
def grantReceived (n : Node) : Node :=
  if n.du.grantIn ≠ some (cnNow n) || pairRole n ≠ 2 || !lineOn n || !cxAlive n || unfit n then n
  else
    let n := withDu n (fun d => { d with grantIn := none })
    let seen := ([0, 1, 2] : List Nat).filterMap (fun k => if heartbeat n.du.partner (cnAgo n k) then flagsOf n.du.partner (cnAgo n k) else none)
    let missing := !heartbeat n.du.partner (cnAgo n 1) && !heartbeat n.du.partner (cnAgo n 2)
    if missing then takeToken n
    else if seen.head?.elim false (fun f => f % 4 == 1) then raise n .d 5 0 R.DU_EVT F.DU_EVT_CONFLICT
    else takeToken n

/-- GRANT_RECEIVED (R180). -/
def execGrantReceived (s : State) : Host.Outcome State Fault Refusal := onNode s grantReceived

/-- Has the partner's heartbeat been missing on both channels and on the pair port for k cycles? -/
def partnerSilent (n : Node) (k : Nat) : Bool :=
  (List.range k).all (fun i => !heartbeat n.du.partner (cnAgo n (i + 1)) && !heartbeat n.du.partnerLine (cnAgo n (i + 1)))

/-- NO_ARBITER_TAKEOVER (R181). -/
def execNoArbiterTakeover (s : State) : Host.Outcome State Fault Refusal :=
  onNode s (fun n =>
    if lineOn n && cxAlive n && pairRole n == 2 && n.du.noArb && partnerSilent n 16 && !unfit n then takeToken n else n)

/-- PAIR_FORM_TIMEOUT (R172): 16 cycles after the member received its number the pair is not formed. -/
def execPairFormTimeout (s : State) : Host.Outcome State Fault Refusal :=
  onNode s (fun n =>
    let due := n.du.numberCn.elim false (fun c => decide (16 ≤ cnDiff (cnNow n) c))
    if lineOn n && cxAlive n && pairMember n && !inPair n && due && pairRole n == 0 then wantRun (holdToken n) else n)

/-! ### Hand-back (R186 to R188) -/

/-- May the standby ask for the token (R186)? -/
def mayReturn (n : Node) : Bool :=
  lineOn n && cxAlive n && inPair n && pairRole n == 2 && effPref n && gf n R.DU_HEALTH F.DU_HEALTH_FIT == 1
    && gf n R.DU_HEALTH F.DU_HEALTH_SYNC == 1 && gf n R.DU_PAIRSTAT F.DU_PAIRSTAT_REVFAIL == 0 && n.du.shadow.isNone
    && n.du.takeoverCn.isNone

/-- Write an arbitration record (Table DU-7). -/
def sendArb (n : Node) (op low cyc : Nat) : Node :=
  let body := beBytes 1 (128 + op) ++ beBytes 2 (ownNumber n) ++ beBytes 2 low ++ beBytes 3 cyc
  withDu n (fun d => { d with arbOut := d.arbOut ++ [{ body := body }] })

/-- Write a REQUEST (R186). -/
def sendRequest (n : Node) : Node :=
  sendArb (withDu n (fun d => { d with request := true, requestCn := cnNow n })) 1 (pairLow n) 0

/-- REVDLY in cycles; 0 is treated as 1. -/
def revDelay (n : Node) : Nat := 8000 * max 1 (ff n R.DU_PAIRCFG F.DU_PAIRCFG_REVDLY)

/-- REVDLY_EXPIRY (R186). -/
def execRevdlyExpiry (s : State) : Host.Outcome State Fault Refusal :=
  onNode s (fun n =>
    let due := n.du.syncCn.elim false (fun c => decide ((revDelay n : Int) ≤ cnDiff (cnNow n) c))
    if mayReturn n && !n.du.request && due then sendRequest n else n)

/-- A write of DU_PAIRCTL.REQUEST (R186). -/
def requestNow (n : Node) : Node := if mayReturn n then sendRequest n else n

/-- HANDBACK_REQUEST (R186). -/
def execHandbackRequest (s : State) : Host.Outcome State Fault Refusal := onNode s requestNow

/-- HANDBACK_REQUEST_REPEAT (R186, R188). -/
def execHandbackRequestRepeat (s : State) : Host.Outcome State Fault Refusal :=
  onNode s (fun n => if mayReturn n && n.du.request && decide (64 ≤ cnDiff (cnNow n) n.du.requestCn) then sendRequest n else n)

/-- Take the oldest arbitration record of an OP for a pair. -/
def popArb (n : Node) (op low : Nat) : Option (List Byte × Node) :=
  match n.du.arbIn.find? (fun e => be e.2 0 1 == 128 + op && be e.2 3 2 == low) with
  | some e => some (e.2, withDu n (fun d => { d with arbIn := d.arbIn.filter (fun x => x != e) }))
  | none => none

/-- ARB_REQUEST_RECEIVED (R186): HANDOVER with s = c + Lc + 2 while both members' heartbeats are present, or DECLINE. -/
def execArbRequestReceived (s : State) : Host.Outcome State Fault Refusal :=
  onNode s (fun n =>
    let d := n.du
    if !lineOn n || !cxAlive n || d.arbLow = 0 || d.arbSub then n
    else match popArb n 1 d.arbLow with
      | none => n
      | some (_, n) =>
        if heartbeat d.lower (cnAgo n 1) && heartbeat d.higher (cnAgo n 1) then
          sendArb n 2 d.arbLow ((cnNow n + listCycles n + 2) % 2 ^ 24)
        else sendArb n 3 d.arbLow 0)

/-- DECLINE_RECEIVED (R186): the request ends, and SYNC must hold for REVDLY seconds again. -/
def execDeclineReceived (s : State) : Host.Outcome State Fault Refusal :=
  onNode s (fun n =>
    if !lineOn n || !n.du.request then n
    else match popArb n 3 (pairLow n) with
      | none => n
      | some (_, n) => withDu n (fun d => { d with request := false, syncCn := d.syncCn.map (fun _ => cnNow n) }))

/-- The full CN of CYC: within local CN - 2^23 + 1 to local CN + 2^23 (Table DU-7). -/
def rebuildCyc (localCn lo : Nat) : Nat :=
  let base := subMod 48 localCn (2 ^ 23 - 1)
  cnWrap (base + subMod 24 lo base)

/-- HANDOVER_RECEIVED (R187): the returning member enters RUN for the shadow run of cycle s. -/
def execHandoverReceived (s : State) : Host.Outcome State Fault Refusal :=
  onNode s (fun n =>
    if !mayReturn n || !n.du.request then n
    else match popArb n 2 (pairLow n) with
      | none => n
      | some (b, n) =>
        let c := rebuildCyc (cnNow n) (be b 5 3)
        if cnDiff c (cnNow n) < 0 then n
        else wantRun (withDu n (fun d => { d with request := false, shadow := some c, match_ := false })))

/-- A write of DU_PAIRCTL.RETRY (R188). -/
def pairRetry (n : Node) : Node := sf (sf n R.DU_PAIRSTAT F.DU_PAIRSTAT_REVFAIL 0) R.DU_PAIRSTAT F.DU_PAIRSTAT_DISAGREE 0

/-- PAIR_RETRY (R188). -/
def execPairRetry (s : State) : Host.Outcome State Fault Refusal := onNode s (fun n => if lineOn n then pairRetry n else n)

/-- The digests of cycle s differ (R188). -/
def disagree (n : Node) : Node :=
  let n := raise (count n (R.DU_CNT 8)) .d 5 0 R.DU_EVT F.DU_EVT_DISAGREE
  let k := min 3 (gf n R.DU_PAIRSTAT F.DU_PAIRSTAT_DISAGREE + 1)
  let n := sf n R.DU_PAIRSTAT F.DU_PAIRSTAT_DISAGREE k
  let n := withDu n (fun d => { d with shadow := none, match_ := false, request := decide (k < 3), requestCn := cnNow n })
  let n := { n with mil := { n.mil with shadowCn := none, shadowBytes := [] } }
  let n := if 3 ≤ k then sf (sf n R.DU_PAIRSTAT F.DU_PAIRSTAT_REVFAIL 1) R.DU_EVT F.DU_EVT_REVFAIL 1 else n
  withPw n (fun p => { p with moveTo := some 3 })

/-- The hand-back at boundary s + 4: the returning member takes the token (R187). -/
def completeHandback (n : Node) : Node :=
  let n := holdToken (restoreCheckpoint n)
  let n := sf (sf n R.DU_PAIRSTAT F.DU_PAIRSTAT_DISAGREE 0) R.DU_EVT F.DU_EVT_TAKEOVER 1
  count n (R.DU_CNT 7)

/-- The returning member at a boundary (R187): the shadow run in cycle s + 1, the comparison at s + 2, the token at s + 4. -/
def shadowBoundary (n : Node) : Node :=
  match n.du.shadow with
  | none => n
  | some c =>
    let k := cnDiff (cnNow n) c
    if k = 1 then
      let n := restoreCheckpoint n
      { n with mil := { n.mil with shadowCn := some (BitVec.ofNat 48 c), shadowBytes := [] } }
    else if k = 2 then
      let own := Config.digest c n.mil.shadowBytes
      let n := { n with mil := { n.mil with shadowCn := none, shadowBytes := [] } }
      if n.du.ckDigest = some (c, own) then withDu n (fun d => { d with match_ := true }) else disagree n
    else if k < 4 then n
    else if n.du.match_ then completeHandback n
    else disagree n

/-! ### Tests of a standby (R189, Table DU-8) -/

/-- LINE_PATH_BIST: the test of the line die of channel c, and its result. -/
def execLinePathBist (c : Fin 2) (failed : Bool) (s : State) : Host.Outcome State Fault Refusal :=
  onNode s (fun n =>
    if !lineOn n || !cxAlive n || !isStandby n || !lineDieOk n c.val then n
    else
      let others := n.du.bistBad - bits n.du.bistBad c.val 1 * 2 ^ c.val
      let n := withDu n (fun d => { d with bistBad := others + b2n failed * 2 ^ c.val })
      sflag n R.DU_HEALTH F.DU_HEALTH_BISTFAIL (decide (n.du.bistBad ≠ 0)))

/-- Count corrected errors in a health word's CECNT. -/
def countCe (n : Node) (die k : Nat) : Node :=
  let a := R.AC_DIEHEALTH die
  sf n a F.AC_DIEHEALTH_CECNT (min 255 (gf n a F.AC_DIEHEALTH_CECNT + k))

/-- DRAM_SCRUB: 64 KiB of a pair member, with the errors corrected in M0 and M1, and whether one was uncorrectable. -/
def execDramScrub (ce0 ce1 : BitVec 8) (uncorrectable : Bool) (s : State) : Host.Outcome State Fault Refusal :=
  onNode s (fun n =>
    if !lineOn n || !cxAlive n || pairRole n = 0 then n
    else
      let n := countCe (countCe n 4 ce0.toNat) 5 ce1.toNat
      if uncorrectable then sf n R.DU_HEALTH F.DU_HEALTH_SCRUBERR 1 else n)

/-- Has engine e no enabled cycle or event program (R227)? -/
def engineFree (n : Node) (e : Nat) : Bool :=
  !(List.range 16).any (fun j => let p := prog n (progId e j)
    p.enable && (decide (p.hdr.kind = .cycle) || decide (p.hdr.kind = .event)))

/-- STANDBY_MILNAK_SELFTEST: the next C-engine that R227 lets run a self-test. -/
def execStandbyMilnakSelftest (s : State) : Host.Outcome State Fault Refusal :=
  onNode s (fun n =>
    if !lineOn n || !cxAlive n || !isStandby n || n.mil.selftest.isSome then n
    else match (List.range 16).find? (fun i => let e := (n.du.nextEngine + i) % 16; engineFree n e && !executing (engine n e)) with
      | none => n
      | some i =>
        let e := (n.du.nextEngine + i) % 16
        let n := withDu n (fun d => { d with nextEngine := (e + 1) % 16 })
        let n := sf (setEngine n e { engine n e with st := .idle }) R.DU_HEALTH F.DU_HEALTH_MKENG e
        let n := runSelftest n e
        if executing (engine n e) then n else setEngine n e { engine n e with st := restState n e })

/-! ### The pair at a boundary (R172, R181, R185, R187, R190) -/

/-- The health word: FIT, MIRROR, CKAGE; a change of FIT has its event (R190). -/
def updatePairHealth (n : Node) : Node :=
  let bad := gf n R.DU_HEALTH F.DU_HEALTH_BISTFAIL + gf n R.DU_HEALTH F.DU_HEALTH_SCRUBERR
    + gf n R.DU_HEALTH F.DU_HEALTH_CKCRCERR + gf n R.DU_HEALTH F.DU_HEALTH_MKFAIL
  let fit := bad == 0 && !unfit n
  let age := if n.du.ckGood then 0 else if pairMember n then min 255 (gf n R.DU_HEALTH F.DU_HEALTH_CKAGE + 1) else 0
  let n := sflag (sflag n R.DU_HEALTH F.DU_HEALTH_FIT fit) R.DU_HEALTH F.DU_HEALTH_MIRROR (mirroring n)
  let n := sf n R.DU_HEALTH F.DU_HEALTH_CKAGE age
  let n := sflag n R.DU_PPSTAT F.DU_PPSTAT_CKRX n.du.ckRx
  let n := if isStandby n then setRole n (if fit then 2 else 3) else n
  if fit = n.du.fit then withDu n (fun d => { d with ckRx := false, ckGood := false })
  else raise (withDu n (fun d => { d with fit := fit, ckRx := false, ckGood := false })) .d 5 0 R.DU_EVT F.DU_EVT_HEALTH

/-- Does the pair meet the conditions of R172?  The record of the partner shows its number in this node's epoch. -/
def pairFormed (n : Node) : Bool :=
  pairMember n && pairPortState n == 7 && gf n R.DU_PPSTAT F.DU_PPSTAT_IDOK == 1 && ownNumber n != 0 && partnerNumber n != 0
    && !n.du.partner.isEmpty

/-- The pair forms (R172). -/
def formPair (n : Node) : Node :=
  let n := withDu (sf n R.DU_PAIRSTAT F.DU_PAIRSTAT_FORMED 1) (fun d => { d with formCn := some (cnNow n) })
  let partner := n.du.partner.head?.elim 0 (fun x => x.flags % 4)
  if pairRole n = 1 then (if partner = 1 && effPref n then becomeStandby n else n) else if isStandby n then n else becomeStandby n

/-- Propose PARTNER in the node's pair-role entry while the image does not show it (R172). -/
def proposePartner (n : Node) : Node :=
  let want := leBytes 2 (partnerNumber n)
  let asked := n.inn.proposals.any (fun p => p.origin == 2 && p.sect == 3 && p.data == want)
  if inPair n && imgPartner n (ownNumber n) != partnerNumber n && !asked && mayPropose n then
    (submitProposal n 2 3 1 (ownNumber n - 1) 0 want).1
  else n

/-- Formation, and its end (R172, R173). -/
def formation (n : Node) : Node :=
  let n := sflag n R.DU_PPSTAT F.DU_PPSTAT_IDOK (pairPortState n == 7 && n.du.partnerId == pairId n)
  let n := withDu n (fun d => { d with numberCn := if ownNumber n = 0 then none else some (d.numberCn.getD (cnNow n)) })
  if !pairMember n then
    withDu (sf (sf (setRole n 0) R.DU_PAIRSTAT F.DU_PAIRSTAT_TOKEN 0) R.DU_PAIRSTAT F.DU_PAIRSTAT_FORMED 0) (fun d => { d with
      partner := [], partnerLine := [], formCn := none })
  else
    let n := if !pairFormed n then withDu (sf n R.DU_PAIRSTAT F.DU_PAIRSTAT_FORMED 0) (fun d => { d with formCn := none })
      else if inPair n then n else formPair n
    let mis := inPair n && prefMismatch n
    let was := gf n R.DU_STAT F.DU_STAT_PREFMIS == 1
    let n := sflag n R.DU_STAT F.DU_STAT_PREFMIS mis
    let n := if mis && !was then raise n .d 5 0 R.DU_EVT F.DU_EVT_PREFMIS else n
    proposePartner n

/-- Arbiter records, the state without an arbiter, and the token of a pair that formed without one (R172, R181). -/
def withoutArbiter (n : Node) : Node :=
  let fresh := n.du.arbCn.elim false (fun c => decide (cnDiff (cnNow n) c ≤ 16))
  let n := sflag n R.DU_PAIRSTAT F.DU_PAIRSTAT_ARBVALID fresh
  if !pairMember n || pairRole n = 0 then withDu n (fun d => { d with noArb := false })
  else
    let none_ := gf n R.DU_PAIRSTAT F.DU_PAIRSTAT_ARBNODE == 0 || !fresh
    let n := if none_ && !n.du.noArb then sf n R.DU_EVT F.DU_EVT_NOARB 1 else n
    let n := withDu n (fun d => { d with noArb := none_ })
    let due := n.du.formCn.elim false (fun c => decide (16 ≤ cnDiff (cnNow n) c))
    let idle := n.du.partner.head?.elim true (fun x => x.flags % 4 != 1)
    if none_ && inPair n && pairRole n == 2 && effPref n && due && idle && n.du.takeoverCn.isNone && n.du.shadow.isNone then takeToken n
    else n

/-- The take-over boundary f + 4 (R185, Table DU-6). -/
def takeoverBoundary (n : Node) : Node :=
  match n.du.takeoverCn with
  | none => n
  | some c =>
    if cnDiff (cnNow n) c < 0 then n
    else
      let n := withDu (restoreCheckpoint n) (fun d => { d with takeoverCn := none })
      raise (count n (R.DU_CNT 6)) .d 5 0 R.DU_EVT F.DU_EVT_TAKEOVER

/-- Did the cycle programs of the cycle that ends complete (R176)?  A run that trapped did not. -/
def programsDone (n : Node) : Bool :=
  !isRun n || pausedNow n || n.mil.progs.all (fun e =>
    let p := e.2
    decide (p.hdr.kind ≠ .cycle) || !p.enable || (p.fault && !p.ranThisCycle)
      || (p.ranThisCycle && p.traps == 0 && !(executing (engine n (e.1 / 16)) && (engine n (e.1 / 16)).prog == e.1)))

/-- What the redundancy logic does for pairs at a boundary. -/
def pairBoundary (n : Node) : Node :=
  if !cxAlive n then n
  else
    let n := updatePairHealth n
    let n := formation n
    let n := match n.du.yieldCn with
      | some c => if cnDiff (cnNow n) c < 0 then n else becomeStandby n
      | none => n
    let n := arbiterEvaluates (takeoverBoundary (shadowBoundary n))
    let n := withoutArbiter n
    withDu n (fun d => { d with lastFlags := pairFlagsNow n })

end Sys2Proof.Machine
end

