-- ==== Sys2Proof/Machine/Star.lean ====
section
/-! DEFINITION. The car star (spec/13_car_star.md, R343 to R357). -/

namespace Sys2Proof.Machine

/-- Branch b. -/
def branch (n : Node) (b : Nat) : Branch := look {} n.st b
/-- Set branch b. -/
def setBranch (n : Node) (b : Nat) (x : Branch) : Node := { n with st := put {} n.st b x }

/-- The star works: RUN (R344). -/
def starOn (n : Node) : Bool := isRun n && cxAlive n
/-- The star is powered: RUN, or retention in a standby (R344). -/
def starPowered (n : Node) : Bool := starOn n || (lineOn n && cxAlive n && isStandby n)

/-- Code of a branch state (Table ST-6). -/
def BranchState.code : BranchState → Nat
  | .off => 0 | .train => 1 | .sync => 2 | .held => 3 | .active => 4 | .disc => 5

/-- Set an event bit of ST_EVT for branch b without a record. -/
def stEvt (n : Node) (b : Nat) (f : Field) : Node := sbit (sf n R.ST_EVT f 1) R.ST_EVTBR b

/-- Show ST_BRSTAT of branch b and ST_STAT. -/
def showBranch (n : Node) (b : Nat) : Node :=
  let x := branch n b
  let a := R.ST_BRSTAT b
  let n := sf n a F.ST_BRSTAT_STATE x.st.code
  let n := sf n a F.ST_BRSTAT_VCNT (min x.viols.length 7)
  let up := x.st == .sync || x.st == .held || x.st == .active
  let n := sf n R.ST_STAT ⟨b, 1⟩ (b2n up)
  sf n R.ST_STAT ⟨16 + b, 1⟩ (b2n (x.st == .active))

/-- A transition of Table ST-6 with its event bit and one class G event (R349). -/
def branchTo (n : Node) (b : Nat) (st : BranchState) (ev : Option Field) : Node :=
  let n := showBranch (setBranch n b { branch n b with st := st }) b
  let n := sbit n R.ST_EVTBR b
  match ev with
  | some f => raise n .g 12 0 R.ST_EVT f [BitVec.ofNat 8 b]
  | none => otherEvent n .g 12 0 (R.ST_BRSTAT b) [BitVec.ofNat 8 b]

/-! ### Frames (R347) -/

/-- CRC-32 over bytes from offset 4 (R347). -/
def starCrc (b : List Byte) : BitVec 32 := crc32 ((b.take (b.length - 4)).drop 4)
/-- Is a frame's CRC good? -/
def starCrcOk (b : List Byte) : Bool := be b (b.length - 4) 4 == (starCrc b).toNat
/-- A star frame: preamble, body, CRC. -/
def starFrame (body : List Byte) : List Byte :=
  let b := (List.range 4).map Config.preambleByte ++ body
  b ++ beBytes 4 (crc32 body).toNat

/-- Slot kind by its code; 0b11 is unused. -/
def starKind (v s : Nat) : Nat := let k := bits v (2 * s) 2; if k = 3 then 0 else k
/-- Uplink kind of slot s of branch b in force. -/
def ulKind (n : Node) (b s : Nat) : Nat := starKind (ff n (R.ST_SLOTCFG b) F.ST_SLOTCFG_ULKINDS) s
/-- Downlink kind. -/
def dlKind (n : Node) (b s : Nat) : Nat := starKind (ff n (R.ST_SLOTCFG b) F.ST_SLOTCFG_DLKINDS) s
/-- A map of eight slot kinds. -/
def kindMap (f : Nat → Nat) : Nat := (List.range 8).foldl (fun v s => v + f s * 4 ^ s) 0

/-- PHASE in force; above 1,000 it is 0. -/
def starPhase (n : Node) : Nat := let p := ff n R.ST_CFG F.ST_CFG_PHASE; if 1000 < p then 0 else p

/-- Mean LOOPDLY in ns; none while unknown. -/
def loopDelay (x : Branch) : Option Int := if x.loops.isEmpty then none else some (roundDiv (x.loops.foldl (· + ·) 0) x.loops.length)

/-- Show LOOPDLY. -/
def showLoop (n : Node) (b : Nat) : Node :=
  sf n (R.ST_BRSTAT b) F.ST_BRSTAT_LOOPDLY (match loopDelay (branch n b) with
    | some d => unsigned 16 d
    | none => 0xFFFF)

/-- The SYNC frame of branch b (Table ST-3). -/
def syncFrame (n : Node) (b : Nat) : List Byte :=
  let x := branch n b
  let active := x.st == .active
  let flags := 128 * b2n (holdsToken n) + 64 * b2n (inPair n) + 32 * b2n (!active) + 16 * b2n (gf n R.AU_STAT F.AU_STAT_PMUTE % 4 != 0)
  let half := match loopDelay x with
    | some d => unsigned 16 (d / 2)
    | none => 0xFFFF
  let ul := if active then kindMap (ulKind n b) else 0
  starFrame (beBytes 1 1 ++ beBytes 1 flags ++ beBytes 6 (cnNow n) ++ beBytes 2 (starPhase n)
    ++ beBytes 1 (gf n (R.LC_PRES 0) F.LC_PRES_D) ++ beBytes 1 b ++ beBytes 2 half ++ beBytes 2 ul
    ++ beBytes 2 (kindMap (dlKind n b)) ++ beBytes 2 0)

/-- SYNC_SEND (R345, R348): the egress stamp is the command's. -/
def execSyncSend (b : Fin 16) (egress : BitVec 32) (s : State) : Host.Outcome State Fault Refusal :=
  onNode s (fun n =>
    let x := branch n b.val
    if starOn n && (x.st == .sync || x.st == .held || x.st == .active) then
      emit (setBranch n b.val { x with egress := some egress }) (.star b.val (syncFrame n b.val))
    else n)

/-! ### Admission and violations (R349 to R351, R356) -/

/-- A violation of Table ST-7: dropped, counted, and kept for 64 cycles. -/
def starViolation (n : Node) (b : Nat) : Node :=
  let x := branch n b
  let n := stEvt (count n (R.ST_BRCNT b 2)) b F.ST_EVT_VIOL
  showBranch (setBranch n b { x with viols := 0 :: x.viols }) b

/-- Does the star sluice check the branch (R356)? -/
def checked (x : Branch) : Bool := x.st == .held || x.st == .active

/-- STAR_VIOLATION (R356): a reception that starts elsewhere, has another TYPE, overruns its window, or energy outside. -/
def execStarViolation (b : Fin 16) (s : State) : Host.Outcome State Fault Refusal :=
  onNode s (fun n => if starOn n && checked (branch n b.val) then starViolation n b.val else n)

/-- GUARD in force. -/
def starGuard (n : Node) : Nat := let g := gf n R.ST_CFG2 F.ST_CFG2_GUARD; if 2 ≤ g ∧ g ≤ 16 then g else 4
/-- HOLDOFF in cycles. -/
def starHoldoff (n : Node) : Nat := 8 * max 100 (ff n R.ST_CFG F.ST_CFG_HOLDOFF)

/-- A branch leaves SYNC with an EUID (R350). -/
def admitUnit (n : Node) (b euid : Nat) : Node :=
  let x := branch n b
  let last := rd64 n (R.ST_BREUID_LO b) (R.ST_BREUID_HI b)
  let named := ff64 n (R.ST_BRID_LO b) (R.ST_BRID_HI b)
  let soon := match x.lostAt with
    | some t => decide (x.trainedAt - t < starHoldoff n)
    | none => false
  let fast := x.seen && last == euid && soon
  let n := wr64 (setBranch n b { x with seen := true }) (R.ST_BREUID_LO b) (R.ST_BREUID_HI b) euid
  let n := if fast then stEvt n b F.ST_EVT_REJOIN else n
  if fast || (named != 0 && named == euid) || (named == 0 && ff n (R.ST_BRCFG b) F.ST_BRCFG_AUTO == 1) then
    branchTo n b .active (some F.ST_EVT_ACTIVE)
  else branchTo n b .held (some (if named != 0 then F.ST_EVT_MISMATCH else F.ST_EVT_NEWEP))

/-- Does a STATUS that starts `delay` ns after SYNC egress + 2,000 ns fall in its window (R348, R354)? -/
def statusInWindow (n : Node) (x : Branch) (delay : Int) : Bool :=
  match x.st, loopDelay x with
  | .sync, _ => decide (0 ≤ delay) && decide (delay ≤ 1500)
  | _, some d => decide ((delay - d).natAbs ≤ 80 * starGuard n)
  | _, none => decide (0 ≤ delay) && decide (delay ≤ 1500)

/-- STATUS_RECEIVED (R348, R349, R356). -/
def statusReceived (n : Node) (b : Nat) (f : List Byte) (ingress : BitVec 32) : Node :=
  let x := branch n b
  match x.egress with
  | none => if checked x then starViolation n b else n
  | some e =>
    let delay := (ingress - e).toInt - 2000
    if !statusInWindow n x delay || be f 4 1 != 2 then (if checked x then starViolation n b else n)
    else if !starCrcOk f then count n (R.ST_BRCNT b 1)
    else
      let n := count n (R.ST_BRCNT b 0)
      if be f 16 2 != cnNow n % 65536 then n
      else
        let n := setBranch n b { x with statusOk := true, miss := 0, loops := (delay :: x.loops).take 8 }
        let n := showLoop n b
        let n := sf n (R.ST_BRSTAT b) F.ST_BRSTAT_EKIND (be f 14 1)
        let n := sf n (R.ST_BRSTAT b) F.ST_BRSTAT_USING (bits (be f 5 1) 6 1)
        if x.st = .sync then admitUnit n b (be f 6 8)
        else wr64 n (R.ST_BREUID_LO b) (R.ST_BREUID_HI b) (be f 6 8)

/-- STATUS_RECEIVED: the frame and its ingress stamp in ns. -/
def execStatusReceived (b : Fin 16) (frame : List Byte) (ingress : BitVec 32) (s : State) : Host.Outcome State Fault Refusal :=
  onNode s (fun n =>
    let x := branch n b.val
    if starOn n && (x.st == .sync || checked x) then statusReceived n b.val frame ingress else n)

/-- BRANCH_LINK_TRAINED (R349). -/
def execBranchLinkTrained (b : Fin 16) (s : State) : Host.Outcome State Fault Refusal :=
  onNode s (fun n =>
    let x := branch n b.val
    if starPowered n && x.st == .train then
      branchTo (setBranch n b.val { x with trainedAt := n.up, miss := 0, loops := [], egress := none }) b.val .sync (some F.ST_EVT_UP)
    else n)

/-- What a branch forgets when its link is lost. -/
def linkGone (n : Node) (x : Branch) : Branch :=
  { x with lostAt := some n.up, egress := none, statusOk := false, loops := [], down := none, up := none }

/-- BRANCH_LINK_LOSS (R349). -/
def execBranchLinkLoss (b : Fin 16) (s : State) : Host.Outcome State Fault Refusal :=
  onNode s (fun n =>
    let x := branch n b.val
    if starPowered n && (x.st == .sync || checked x) then
      showLoop (branchTo (setBranch n b.val (linkGone n x)) b.val .train (some F.ST_EVT_DOWN)) b.val
    else n)

/-- LOSTN in force. -/
def lostN (n : Node) : Nat := max 2 (gf n R.ST_CFG2 F.ST_CFG2_LOSTN)

/-- STATUS_LOST (R349): an ACTIVE branch without good STATUS for LOSTN cycles. -/
def execStatusLost (b : Fin 16) (s : State) : Host.Outcome State Fault Refusal :=
  onNode s (fun n =>
    let x := branch n b.val
    if starOn n && x.st == .active && decide (lostN n ≤ x.miss) then
      branchTo (setBranch n b.val { x with up := none, down := none }) b.val .sync (some F.ST_EVT_LOST)
    else n)

/-- Link-drop on a branch. -/
def branchDrop (n : Node) (b : Nat) : Node := emit n (.pin "ST_LINKDROP" b true)

/-- A branch is disconnected (Table ST-6). -/
def disconnect (n : Node) (b : Nat) : Node :=
  branchTo (branchDrop (setBranch n b { linkGone n (branch n b) with viols := [] }) b) b .disc (some F.ST_EVT_DISC)

/-- DISC ends. -/
def endDisc (n : Node) (b : Nat) : Node := if (branch n b).st = .disc then branchTo n b .train none else n

/-- DISCONNECT_EXPIRY (R349): DISCTIME has passed. -/
def execDisconnectExpiry (b : Fin 16) (s : State) : Host.Outcome State Fault Refusal :=
  onNode s (fun n => if starPowered n then endDisc n b.val else n)

/-- A write of ST_BRCTL[b] (R349, R350). -/
def brCtlWrite (n : Node) (b : Nat) (v : BitVec 32) : Node :=
  let n := if fget v F.ST_BRCTL_ADMIT = 1 && (branch n b).st == .held then branchTo n b .active (some F.ST_EVT_ACTIVE) else n
  if fget v F.ST_BRCTL_RECONNECT = 1 then endDisc n b else n

/-- BRANCH_ADMIT. -/
def execBranchAdmit (b : Fin 16) (s : State) : Host.Outcome State Fault Refusal :=
  onNode s (fun n => if starPowered n then brCtlWrite n b.val 1#32 else n)
/-- BRANCH_RECONNECT. -/
def execBranchReconnect (b : Fin 16) (s : State) : Host.Outcome State Fault Refusal :=
  onNode s (fun n => if starPowered n then brCtlWrite n b.val 2#32 else n)

/-! ### Audio (R352, R354) -/

/-- ST_AUMAP entry in force, where it is enabled and its lane lies in the audio range: OWN and the lane. -/
def auMap (n : Node) (b d s k : Nat) : Option (Bool × Nat) :=
  let v := inForce n (R.ST_AUMAP b d s k)
  let l := fget v F.ST_AUMAP_LANE
  let lane := laneAddr (cfgChan n (laneChan l)) (laneSlot l) (laneNum l)
  if fget v F.ST_AUMAP_EN = 1 && laneInRange (lineMode n) (laneSlot l) (laneNum l) then some (fget v F.ST_AUMAP_OWN == 1, lane) else none

/-- LAG of a downlink slot: min(LAG, D - 1) (R352). -/
def dlLag (n : Node) (b s : Nat) : Nat :=
  let l := max 1 (bits (ff n (R.ST_DLLAG b) F.ST_DLLAG_LAGS) (4 * s) 4)
  min l (gf n (R.LC_PRES 0) F.LC_PRES_D - 1)

/-- The block of a downlink position; none where it is not held, null or concealed. -/
def dlBlock (n : Node) (p : Nat) (own : Bool) (a : Nat) : Option (List (BitVec 32)) :=
  let v := if own then ownBlock n (cnWrap (p + 1)) a
    else ((n.line.heard.find? (fun x => x.cn == p)).bind (fun x => (x.lanes.find? (fun e => e.1 == a)).map (·.2)))
  match v with
  | some v => if v.st.good then some v.samples else none
  | none => none

/-- A slot frame (Table ST-5). -/
def slotFrame (n : Node) (type s len flags amap : Nat) (payload : List Byte) : List Byte :=
  starFrame (beBytes 1 type ++ beBytes 1 s ++ beBytes 2 (cnNow n % 65536) ++ beBytes 2 len ++ beBytes 1 flags ++ beBytes 1 amap
    ++ cut payload 0 160)

/-- A downlink audio slot (R352). -/
def dlAudio (n : Node) (b s : Nat) : Node :=
  let lag := dlLag n b s
  let p := subMod 48 (cnNow n) lag
  let pos := (List.range 6).map (fun k => auMap n b 0 s k)
  let got := pos.map (fun e => match e with
    | some (own, a) => dlBlock n p own a
    | none => none)
  let short := (List.zipWith (fun (e : Option (Bool × Nat)) (g : Option (List (BitVec 32))) => e.isSome && g.isNone) pos got).any id
  let n := if short then stEvt n b F.ST_EVT_NOBLOCK else n
  let amap := (List.range 6).foldl (fun v k => v + b2n ((got.getD k none).isSome) * 2 ^ k) 0
  let body := got.flatMap (fun g => match g with
    | some xs => (xs.take 6).flatMap (fun x => beBytes 4 x.toNat)
    | none => List.replicate 24 0#8)
  emit n (.star b (slotFrame n 3 s 0 lag amap body))

/-- A downlink message slot: the next fragment, or NULL (R355). -/
def dlMessage (n : Node) (b s : Nat) : Node :=
  let x := branch n b
  match x.down with
  | some (bs, off) =>
    if !holdsToken n then emit n (.star b (slotFrame n 5 s 0 0 0 []))
    else
      let frag := (bs.drop off).take 160
      let last := decide (bs.length ≤ off + 160)
      let n := setBranch n b { x with down := if last then none else some (bs, off + 160) }
      emit n (.star b (slotFrame n 4 s frag.length (128 * b2n (off == 0) + 64 * b2n last) 0 frag))
  | none => emit n (.star b (slotFrame n 5 s 0 0 0 []))

/-- DOWNLINK_SLOT_SEND (R352, R355). -/
def execDownlinkSlotSend (b : Fin 16) (slot : Fin 8) (s : State) : Host.Outcome State Fault Refusal :=
  onNode s (fun n =>
    if starOn n && (branch n b.val).st == .active then
      (match dlKind n b.val slot.val with
       | 1 => dlAudio n b.val slot.val
       | 2 => dlMessage n b.val slot.val
       | _ => n)
    else n)

/-- The checks every uplink slot frame meets (R354, R356): its slot's kind, TYPE, and CRC. -/
def uplinkOk (n : Node) (b : Nat) (f : List Byte) (kind type : Nat) : Node × Bool :=
  let s := be f 5 1
  let x := branch n b
  if !checked x then (n, false)
  else if x.st = .held || 7 < s || ulKind n b s != kind || (be f 4 1 != type && be f 4 1 != 5) then (starViolation n b, false)
  else if !starCrcOk f then (count n (R.ST_BRCNT b 1), false)
  else (count n (R.ST_BRCNT b 0), be f 4 1 == type)

/-- An uplink AUDIO frame contributes its blocks (R354). -/
def uplinkAudio (n : Node) (b : Nat) (f : List Byte) : Node :=
  let (n, ok) := uplinkOk n b f 1 3
  if !ok then n
  else if be f 6 2 != cnNow n % 65536 then count n (R.ST_BRCNT b 4)
  else if !(branch n b).statusOk || gf n R.AU_STAT F.AU_STAT_PMUTE % 4 != 0 || !holdsToken n then n
  else forRange 6 (fun n k =>
    match auMap n b 1 (be f 5 1) k with
    | some (_, a) =>
      if bitOf (be f 11 1) k then
        contributeChecked n a ((List.range 6).map (fun i => BitVec.ofNat 32 (be f (12 + 24 * k + 4 * i) 4)))
      else n
    | none => n) n

/-- UPLINK_AUDIO_RECEIVED (R354). -/
def execUplinkAudioReceived (b : Fin 16) (frame : List Byte) (s : State) : Host.Outcome State Fault Refusal :=
  onNode s (fun n => if starOn n then uplinkAudio n b.val frame else n)

/-! ### Messages (R355) -/

/-- Discard the uplink chain of a branch. -/
def dropChain (n : Node) (b : Nat) : Node := stEvt (setBranch n b { branch n b with up := none }) b F.ST_EVT_CHAINDROP

/-- Cycle and slot of the uplink message slot after slot s of cycle c. -/
def nextUplinkSlot (n : Node) (b c s : Nat) : Nat × Nat :=
  match (List.range 8).find? (fun t => decide (s < t) && ulKind n b t == 2) with
  | some t => (c, t)
  | none => (cnWrap (c + 1), ((List.range 8).find? (fun t => ulKind n b t == 2)).getD 0)

/-- A finished uplink message is pushed into the uplink queue (R355, R265). -/
def pushUplink (n : Node) (b : Nat) (c : UplinkChain) : Node :=
  let q := ff n (R.ST_ULQ b) F.ST_ULQ_QUEUE
  let n := setBranch n b { branch n b with up := none }
  if q < 256 then n
  else (pushFrame n q { len := c.payload.length, ts := c.ts.toNat, cnlo := c.cnlo, port := b } c.payload).1

/-- Take one fragment. -/
def takeFragment (n : Node) (b : Nat) (f : List Byte) (ingress : BitVec 32) : Node :=
  let flags := be f 10 1
  let first := bitOf flags 7
  let last := bitOf flags 6
  let part := cut f 12 (min (be f 8 2) 160)
  let here := (cnNow n, be f 5 1)
  let nxt := nextUplinkSlot n b here.1 here.2
  let n := if first && (branch n b).up.isSome then dropChain n b else n
  let go := fun (n : Node) (c : UplinkChain) =>
    if 1440 < c.payload.length then dropChain n b
    else if last then pushUplink n b c
    else setBranch n b { branch n b with up := some c }
  if first then go n { ts := ingress, cnlo := be f 6 2, payload := part, nextCn := nxt.1, nextSlot := nxt.2 }
  else match (branch n b).up with
    | none => stEvt n b F.ST_EVT_CHAINDROP
    | some c =>
      if (c.nextCn, c.nextSlot) != here then dropChain n b
      else go n { c with payload := c.payload ++ part, nextCn := nxt.1, nextSlot := nxt.2 }

/-- An uplink MESSAGE frame (R355). -/
def uplinkMessage (n : Node) (b : Nat) (f : List Byte) (ingress : BitVec 32) : Node :=
  let bad := checked (branch n b) && !starCrcOk f && (branch n b).up.isSome
  let (n, ok) := uplinkOk n b f 2 4
  if bad then dropChain n b
  else if ok && holdsToken n && (branch n b).st == .active then takeFragment n b f ingress else n

/-- UPLINK_MESSAGE_RECEIVED (R355). -/
def execUplinkMessageReceived (b : Fin 16) (frame : List Byte) (ingress : BitVec 32) (s : State) : Host.Outcome State Fault Refusal :=
  onNode s (fun n => if starOn n then uplinkMessage n b.val frame ingress else n)

/-! ### At a boundary -/

/-- DOWNLINK_MESSAGE_POP (R355). -/
def popDownlink (n : Node) (b : Nat) : Node :=
  let x := branch n b
  let q := ff n (R.ST_DLQ b) F.ST_DLQ_QUEUE
  if x.st != .active || x.down.isSome || !holdsToken n || decide (q < 256) || !(List.range 8).any (fun s => dlKind n b s == 2)
      || (headEntry n q).isNone then n
  else match popFrame n q with
    | (n, some (_, bs)) =>
      if 1440 < bs.length then stEvt n b F.ST_EVT_MSGDROP else setBranch n b { branch n b with down := some (bs, 0) }
    | (n, none) => n

/-- Branch b at a boundary (R349, R351): evaluated after everything of the cycle that ended. -/
def branchBoundary (n : Node) (b : Nat) : Node :=
  let en := ff n (R.ST_BRCFG b) F.ST_BRCFG_EN == 1
  let x := branch n b
  if !starPowered n then (if x.st = .off then n else showBranch (setBranch n b { seen := x.seen }) b)
  else if !en then (if x.st = .off then n else branchTo (branchDrop (setBranch n b { linkGone n x with viols := [] }) b) b .off none)
  else if x.st = .off then branchTo n b .train none
  else
    let linked := x.st == .sync || checked x
    let n := if starOn n && linked && !x.statusOk then count n (R.ST_BRCNT b 3) else n
    let x := { x with
      miss := if x.statusOk || !linked then 0 else x.miss + 1, statusOk := false, egress := none
      viols := (x.viols.map (· + 1)).filter (fun a => decide (a ≤ 64)) }
    let n := showBranch (setBranch n b x) b
    if decide (3 ≤ x.viols.length) && x.st != .disc then disconnect n b
    else if starOn n then popDownlink n b else n

/-- The star at a boundary. -/
def starBoundary (n : Node) : Node := forRange 16 branchBoundary n

end Sys2Proof.Machine
end

