-- ==== Sys2Proof/Machine/RegAccess.lean ====
section
/-! DEFINITION. One access to a register of this node, from any interface: reserved addresses, access types, the effect
each register's write and read has, protection (R6 to R10, R18, R19, R24, R303, R315, Table SC-6). -/

namespace Sys2Proof.Machine

/-- Element number of an address in an array of registers. -/
def elem (base stride num a : Nat) : Option Nat :=
  if base ≤ a ∧ (a - base) % stride = 0 ∧ (a - base) / stride < num then some ((a - base) / stride) else none

/-- Does an address lie in the host view of the image (R24)? -/
def inView (a : Nat) : Bool := decide (0x40000 ≤ a) && decide (a < 0x60000)
/-- In the MSI-X table (Table HB-1). -/
def inMsix (a : Nat) : Bool := decide (0xA08000 ≤ a) && decide (a < 0xA08100)
/-- In the pending-bit array. -/
def inPba (a : Nat) : Bool := decide (0xA09000 ≤ a) && decide (a < 0xA09008)

/-- Controller, object and word of an address in the object stores (Table CB-2). -/
def canObject (a : Nat) : Option (Nat × Nat × Nat) :=
  (List.range 4).findSome? (fun c =>
    (elem (0xE40000 + 0x30000 * c) 4 (20 * 2048) a).map (fun i => (c, i / 20, i % 20)))

/-- Is there something at an address (R5, R7)? -/
def isRegister (a : Nat) : Bool := (regSpec a).isSome || inView a || inMsix a || inPba a || (canObject a).isSome

/-- "One class G event that carries the address" (R7): under the block that holds the address, or index 0x1F. -/
def reservedEvent (n : Node) (a : Nat) : Node :=
  if a < 0x1200000 then recordCode n .g (a / 0x100000) 0 0x3F1 a
  else record n .g 0x7FF1#16 0x001F#16 (leBytes 4 a)

/-! ### Reads -/

/-- MK_PROGSTAT[k]. -/
def progStatus (n : Node) (k : Nat) : BitVec 32 :=
  let p := prog n k
  let running := let x := engine n (k / 16); executing x && x.prog == k
  let st := if p.hdr.kind = .none then 0 else if p.fault then 4 else if !p.enable then 1 else if running then 3 else 2
  let kind := match p.hdr.kind with | .none => 0 | .cycle => 1 | .event => 2 | .selftest => 3
  let v := fset (fset 0#32 F.MK_PROGSTAT_EVPEND (min 255 p.pendCount)) F.MK_PROGSTAT_KIND kind
  fset (fset (fset v F.MK_PROGSTAT_LASTCAUSE p.lastCause) F.MK_PROGSTAT_TRAPS (min 255 p.traps)) F.MK_PROGSTAT_STATE st

/-- MK_ENGSTAT[e]. -/
def engStatus (n : Node) (e : Nat) : BitVec 32 :=
  let x := engine n e
  let st := match x.st with | .off => 0 | .halted => 1 | .idle => 2 | .running => 3 | .selftest => 4 | .shadow => 5
  if executing x then
    fset (fset (fset 0#32 F.MK_ENGSTAT_STATE st) F.MK_ENGSTAT_SLOT (x.prog % 16)) F.MK_ENGSTAT_EVRUN (b2n x.evRun)
  else fset 0#32 F.MK_ENGSTAT_STATE st

/-- PEND of AC_SHADOWSTAT: bit n while an RW-S write of block n waits (R19). -/
def shadowPend (n : Node) : Nat :=
  (List.range 18).foldl (fun v b => v + b2n (n.shadow.any (fun s => s.addr / 0x100000 == b)) * 2 ^ b) 0

/-- Fetch entries in use and write-buffer entries in use (HB_RASTAT). -/
def bridgeStatus (n : Node) : BitVec 32 :=
  fset (fset (fset 0#32 F.HB_RASTAT_WFILL n.hb.writes.length) F.HB_RASTAT_INBOUND n.hb.inbound.length) F.HB_RASTAT_FETCH
    n.hb.fetch.length

/-- Registers whose value is worked out when they are read, without effect of the read. -/
def derived (n : Node) (x : Access) (a : Nat) : Option (BitVec 32) :=
  match a / 0x100000 with
  | 0 =>
    if a = R.AC_REVID then some (fset (rd n a) F.AC_REVID_ROMVER Config.romVer.toNat)
    else if a = R.AC_UID_LO then some (n.uid.setWidth 32)
    else if a = R.AC_UID_HI then some ((n.uid >>> 32).setWidth 32)
    else if a = R.AC_SHADOWSTAT then some (fset (rd n a) F.AC_SHADOWSTAT_PEND (shadowPend n))
    else if inView a then some (if a - 0x40000 < imgEnd then BitVec.ofNat 32 (readLe n.view (a - 0x40000) 4) else 0#32)
    else none
  | 1 =>
    if a = R.TB_INCR_HI then some n.tb.latchedIncr
    else if a = R.TB_NOW_CNLO then some (n.tb.latchedCn.setWidth 32)
    else if a = R.TB_NOW_CNHI then some ((n.tb.latchedCn >>> 32).setWidth 32)
    else none
  | 6 => (elem (R.MK_PROGSTAT 0) 4 512 a).map (progStatus n) |>.orElse (fun _ => (elem (R.MK_ENGSTAT 0) 4 32 a).map (engStatus n))
  | 7 => (elem (R.AU_PLAYSTAT 0) 4 16 a).map (playStatus n)
  | 8 => if a = R.QM_LOGSTAT then some (logStatus n) else none
  | 9 => if a = R.CF_STAT then some (fset (rd n a) F.CF_STAT_NOKEY (b2n (keyOf n 8).isNone)) else none
  | 10 =>
    if a = R.HB_STAT then
      some (fset (fset (rd n a) F.HB_STAT_CONSESS (b2n (n.se.sessions.any (fun s => s.isOpen && s.iface == 2)))) F.HB_STAT_QSPIACT
        (b2n n.hb.qspiAct))
    else if a = R.HB_IRQSTAT then some (irqStat n)
    else if a = R.HB_RASTAT then some (bridgeStatus n)
    else if a = R.HB_RALAST then some (BitVec.ofNat 32 (look (0, 0) n.hb.ralast x.iface).1)
    else if a = R.HB_RALASTADDR then some (BitVec.ofNat 32 (look (0, 0) n.hb.ralast x.iface).2)
    else if inMsix a then
      let i := (a - 0xA08000) / 4
      some (look (if i % 4 = 3 then 1#32 else 0#32) n.hb.msix i)
    else if inPba a then some (if a = 0xA09000 then BitVec.ofNat 32 n.hb.pba else 0#32)
    else (elem (R.HB_RINGSTAT 0) 16 8 a).map (fun k => fset (rd n a) F.HB_RINGSTAT_BUSY (b2n (ring n k).cur.isSome))
  | 11 =>
    if a = R.SE_STAT then some (seStatus n)
    else (elem (R.SE_LOCK 0) 4 3 a).map (seLock n) |>.orElse (fun _ => (elem (R.SE_KEYVER 0) 4 32 a).map (seKeyver n))
  | 13 => if a = R.EM_EVT then some (emEvt n) else none
  | 15 => if a = R.PW_SLOW_HI then some n.pw.slowHi else none
  | 16 => (elem (R.SF_MON 0) 4 512 a).map (fun k => sfMonWord n (k + 1))
  | _ => none

/-- The value a register shows, without the effect of a read. -/
def peek (n : Node) (x : Access) (a : Nat) : BitVec 32 :=
  match derived n x a with
  | some v => v
  | none =>
    match regSpec a with
    | some r => rd n a &&& ~~~ (BitVec.ofNat 32 r.wo)
    | none => 0#32

/-- Registers whose read has an effect of its own: counter latches, capture stores, the recent buffer, CAN objects. -/
def readEffect (n : Node) (a : Nat) : Option (Node × BitVec 32) :=
  match a / 0x100000 with
  | 1 =>
    if a = R.TB_NOW_NS then some (readNowNs n)
    else if a = R.TB_INCR_LO then some (readIncrLo n)
    else (elem (R.TB_TCAP_HI 0) 16 4 a).map (readTcapHi n) |>.orElse (fun _ => (elem (R.TB_TCAP_LO 0) 16 4 a).map (readTcapLo n))
  | 8 => (elem (R.QM_RECENT 0) 4 128 a).map (readRecent n)
  | 14 => (canObject a).map (fun (c, o, w) => if isRun n && cxAlive n then objRead n c o w else (n, 0#32))
  | 15 => if a = R.PW_SLOW_LO then some (readSlowLo n) else none
  | _ => none

/-- Read a register (R6 to R8, R10): RC bits are cleared by the read; a reserved address reads 0 with an event, except to
another node (R324).  The low two bits of the address are not used (R6). -/
def readReg (n : Node) (x : Access) (addr : Nat) : Node × BitVec 32 :=
  let a := addr - addr % 4
  if !isRegister a then (if x.iface = 4 then n else reservedEvent n a, 0#32)
  else
    match readEffect n a with
    | some r => r
    | none =>
      let v := peek n x a
      let n := if a = R.HB_STAT then withHb n (fun h => { h with qspiAct := false }) else n
      match regSpec a with
      | some r => (if r.rc = 0 then n else wr n a (v &&& ~~~ (BitVec.ofNat 32 r.rc)), v)
      | none => (n, v)

/-! ### Writes -/

/-- Registers that a session's role guards (R315), and the roles that may write them: CF_CMD (R287), CF_SPCMD and
CF_SPDATA (R300), CF_SFRST (R433), SE_CFG, PW_CTL (R421). -/
def protectedRoles (a : Nat) (v : BitVec 32) : Option (List Nat) :=
  if a = R.CF_CMD then some [2, 3]
  else if a = R.CF_SPCMD ∨ (elem (R.CF_SPDATA 0) 4 15 a).isSome ∨ a = R.CF_SFRST then some [4]
  else if a = R.SE_CFG then some [3]
  else if a = R.PW_CTL then some (if fget v F.PW_CTL_TARGET = 0 ∧ fget v F.PW_CTL_RESET = 0 then [1, 2, 3, 4] else [2, 3])
  else none

/-- Registers a locked node still lets a host write directly (R315). -/
def unlocked (a : Nat) : Bool :=
  inMsix a || a == R.HB_IRQACK || (List.range 8).any (fun k => a == R.HB_CMDDB k || a == R.HB_RSPDB k || a == R.HB_RINGCTL k)

/-- Is a direct write of a host locked out (R315)? -/
def writeLocked (n : Node) (x : Access) (a : Nat) : Bool :=
  decide (x.iface ≤ 1) && x.role == 0 && gf n R.HB_CFG F.HB_CFG_WLOCK == 1 && !unlocked a

/-- The written value replaced by a default for which a register asks one class G event each, by block and instance. -/
def defaultEvents (n : Node) (a : Nat) (v : BitVec 32) : Node :=
  let one := fun (n : Node) (blk inst : Nat) (bad : Bool) => if bad then replaced n blk inst a else n
  let outside := fun (f : Field) (lo hi : Nat) => decide (fget v f < lo) || decide (hi < fget v f)
  match a / 0x100000 with
  | 1 =>
    if a = R.TB_CFG then one (one n 1 0 (outside F.TB_CFG_MAXPPM 150 1000)) 1 0 (outside F.TB_CFG_SLEWPPM 10 200)
    else one n 1 0 ((elem (R.TB_TRIGPH 0) 4 10 a).isSome && outside F.TB_TRIGPH_PHASE 0 124999)
  | 2 =>
    match (List.range 4).find? (fun p => a == R.LP_PORTCFG p) with
    | some p => one n 2 p (fget v F.LP_PORTCFG_RATE == 3)
    | none => n
  | 3 =>
    let c := if 0x380000 ≤ a then 1 else 0
    if a = R.LC_CFG c then one n 3 c (outside F.LC_CFG_GUARD 4 38)
    else one n 3 c ((elem (R.LC_SLOTCFG c 8) 4 72 a).isSome && fget v F.LC_SLOTCFG_KIND == 3)
  | 4 => one n 4 0 (a == R.IN_SEQCFG && outside F.IN_SEQCFG_MERGEAHEAD 48 200)
  | 5 => one n 5 0 (a == R.DU_CFG && fget v F.DU_CFG_MODE == 3)
  | 7 =>
    if a = R.AU_CFG then one (one n 7 0 (outside F.AU_CFG_DUCKMS 10 1000)) 7 0 (outside F.AU_CFG_DUCKDB 40 96)
    else
      let selector := (elem (R.AU_MIXSRC 0 0) 4 256 a).isSome || (elem (R.AU_OUTSRC 0) 4 200 a).isSome
        || (elem (R.AU_LANETXSRC 0) 8 64 a).isSome || (elem (R.AU_ECMIC 0) 16 64 a).isSome
      one n 7 0 (selector && decide (8 ≤ bits v.toNat 28 4))
  | 12 =>
    if a = R.ST_CFG then one n 12 0 (outside F.ST_CFG_PHASE 0 1000)
    else
      match elem (R.ST_SLOTCFG 0) 64 16 a with
      | some b => one n 12 b ((List.range 16).any (fun s => bits v.toNat (2 * s) 2 == 3))
      | none =>
        if 0xC01000 ≤ a then
          let l := fget v F.ST_AUMAP_LANE
          one n 12 ((a - 0xC01000) / 0x200) (!laneInRange (lineMode n) (laneSlot l) (laneNum l))
        else n
  | 13 =>
    match elem (R.EM_MACCFG 0) 0x400 6 a with
    | some m =>
      let n := one n 13 m (!maxlenOk (fget v F.EM_MACCFG_MAXLEN))
      let i := fget v F.EM_MACCFG_IF
      if i = 1 ∧ !speedOk m i (fget v F.EM_MACCFG_SPEED) then otherEvent n .g 13 m a else n
    | none => n
  | _ => n

/-- A register whose write is a command: its whole effect; none for a register that only holds its value. -/
def writeCommand (n : Node) (x : Access) (a : Nat) (v : BitVec 32) : Option Node :=
  match a / 0x100000 with
  | 3 =>
    if a = R.LC_SLUICESTAT 0 then some (forRange 2 (fun n i => if v.getLsbD i then quarantineClear n i else n) n)
    else if a = R.LC_SLUICESTAT 1 then some (forRange 2 (fun n i => if v.getLsbD i then quarantineClear n (2 + i) else n) n)
    else none
  | 4 => if a = R.IN_PROPCTL ∧ fget v F.IN_PROPCTL_GO = 1 then some (proposalGo n v) else none
  | 5 =>
    if a = R.DU_MOVEQ then some (moveQuery n v)
    else if a = R.DU_PAIRCTL then
      let n := if fget v F.DU_PAIRCTL_RETRY = 1 then pairRetry n else n
      some (if fget v F.DU_PAIRCTL_REQUEST = 1 then requestNow n else n)
    else none
  | 6 =>
    if a = R.MK_PROGCMD then some (if fget v F.MK_PROGCMD_RESTART = 1 then requestRestart n (fget v F.MK_PROGCMD_PROG) else n)
    else if a = R.MK_EVTPOST then some (if fget v F.MK_EVTPOST_GO = 1 then postEvent n (bits v.toNat 0 8) else n)
    else none
  | 7 =>
    if a = R.AU_LIBCMD then some (if audioOn n then libCmdWrite n v else n)
    else (elem (R.AU_PLAYCTL 0) 16 16 a).map (fun j => if audioOn n then playCtlWrite n j v else n)
  | 8 => if a = R.QM_QSEL then some (qselOp n v) else if a = R.QM_WSEL then some (wselOp n v) else none
  | 9 =>
    if n.pw.failing.isSome && (a == R.CF_CMD || a == R.CF_SPCMD) then some n
    else if a = R.CF_CMD then some (cfCommand n x.role v false)
    else if a = R.CF_SPCMD then some (if v.getLsbD 0 then spSetPend n x.role else n)
    else if a = R.CF_SFRST then some (sfrst n x.role v)
    else none
  | 10 =>
    if a = R.HB_IRQACK then some (irqAck n v)
    else if inMsix a then some (withHb n (fun h =>
      let i := (a - 0xA08000) / 4
      { h with msix := put (if i % 4 = 3 then 1#32 else 0#32) h.msix i v }))
    else
      (elem (R.HB_CMDDB 0) 16 8 a).map (fun k => cmdDoorbell n x.iface k (bits v.toNat 0 24))
        |>.orElse (fun _ => (elem (R.HB_RSPDB 0) 16 8 a).map (fun k => rspDoorbell n x.iface k (bits v.toNat 0 24)))
        |>.orElse (fun _ => (elem (R.HB_RINGCTL 0) 16 8 a).map (fun k => if v.getLsbD 0 then ringFlush n k else n))
  | 12 => (elem (R.ST_BRCTL 0) 64 16 a).map (fun b => if starPowered n then brCtlWrite n b v else n)
  | 13 =>
    let on := isRun n && cxAlive n
    (List.range 6).findSome? (fun m =>
      (elem (R.EM_TXDB m 0) 4 2 a).map (fun k => if on then emTxDoorbell n m k (bits v.toNat 0 24) else n)
        |>.orElse (fun _ => (elem (R.EM_RXDB m 0) 4 4 a).map (fun k => if on then emRxDoorbell n m k (bits v.toNat 0 24) else n))
        |>.orElse (fun _ => if a = R.EM_QCTL m then some (if on then emQctl n m (bits v.toNat 0 6) else n) else none))
  | 14 =>
    let on := isRun n && cxAlive n
    (List.range 4).findSome? (fun c =>
      if a = R.CB_CTL c then some (cbCtlWrite n c v)
      else if a = R.CB_RXDB c then some (if on then canRxDoorbell n c (bits v.toNat 0 24) else n)
      else (elem (R.CB_TXDB c 0) 4 2 a).map (fun k => if on then canTxDoorbell n c k (bits v.toNat 0 24) else n))
  | 15 => if a = R.PW_CTL then some (pwCtlWrite n x.role v) else none
  | 17 => if a = R.LS_CTL then some (latchClear n (fget v F.LS_CTL_CLR)) else none
  | _ => none

/-- The effect of access types RW, RW-S, W1C and WO on what a register holds (Table SC-6, R9, R18, R19). -/
def storeReg (n : Node) (r : RegSpec) (a : Nat) (v : BitVec 32) : Node :=
  let old := rd n a
  let set := BitVec.ofNat 32 (r.rw ||| r.rws)
  let new := ((old &&& ~~~ set) ||| (v &&& set)) &&& ~~~ (v &&& BitVec.ofNat 32 r.w1c)
  let n := wr n a new
  if r.rws = 0 then n
  else
    let w := shadowWait n
    let n := if w = 2 then sf n R.AC_SHADOWSTAT F.AC_SHADOWSTAT_LATE 1 else n
    { n with shadow := n.shadow.filter (fun s => !(s.addr == a && s.wait == w)) ++ [⟨a, new, w⟩] }

/-- What follows once a register holds its new value. -/
def afterStore (before n : Node) (a : Nat) (v : BitVec 32) : Node :=
  match a / 0x100000 with
  | 0 =>
    if a = R.AC_IMGCTL then
      let h := gf n a F.AC_IMGCTL_HOLD
      let n := if h = 1 ∧ gf before a F.AC_IMGCTL_HOLD = 0 then { n with holdRun := 0 } else n
      sf n R.AC_IMGSTAT F.AC_IMGSTAT_HELD h
    else n
  | 1 =>
    match elem (R.TB_TOUTCTL 0) 0x20 4 a with
    | some i =>
      if fget v F.TB_TOUTCTL_ARM = 1 then armTout n i (fget v F.TB_TOUTCTL_MODE == 1) (fget v F.TB_TOUTCTL_POL == 1)
      else disarmTout n i
    | none => n
  | 2 => if a = R.LP_WAKESTAT ∧ fget v F.LP_WAKESTAT_FVALID = 1 then sf n a F.LP_WAKESTAT_FIRST 0 else n
  | 6 => if a = R.MK_STCTL ∧ fget v F.MK_STCTL_GO = 1 then runSelftest n (fget v F.MK_STCTL_ENG) else n
  | 10 =>
    if a = R.HB_CFG then sf n a F.HB_CFG_WLOCK (max (gf before a F.HB_CFG_WLOCK) (gf n a F.HB_CFG_WLOCK))
    else
      match elem (R.HB_RPMIRIRQ 0) 0x20 6 a with
      | some k => withHb n (fun h => { h with risen := put 0 h.risen k (look 0 h.risen k &&& (v ^^^ BitVec.allOnes 32).toNat) })
      | none => n
  | 13 => if a = R.EM_WAKESTAT ∧ fget v F.EM_WAKESTAT_VALID = 1 then wr n a 0#32 else n
  | 14 =>
    if a = R.CB_WAKESTAT ∧ fget v F.CB_WAKESTAT_VALID = 1 then wr n a 0#32
    else
      match (List.range 4).find? (fun c => a == R.CB_DBT c) with
      | some c => setCan n c { can n c with dbtWritten := true }
      | none => n
  | 15 => if a = R.PW_WAKESRC ∧ fget v F.PW_WAKESRC_VALID = 1 then sf n a F.PW_WAKESRC_FIRST 0 else n
  | _ => n

/-- Write a register of this node (R6 to R9, R303, R315); whether the write was let through.  A reserved address and the
SF view discard the write with an event (R7), except to another node (R324). -/
def writeReg (n : Node) (x : Access) (addr : Nat) (v : BitVec 32) : Node × Bool :=
  let a := addr - addr % 4
  if !isRegister a || a / 0x100000 = 16 then (if x.iface = 4 then n else reservedEvent n a, true)
  else if inView a || inPba a || (canObject a).isSome then (n, true)
  else if writeLocked n x a then (protectedWrite n a, false)
  else
    match protectedRoles a v with
    | some roles =>
      if x.role = 0 then (protectedWrite n a, false)
      else
        let ok := roles.contains x.role
        match writeCommand n x a v with
        | some n => (n, ok)
        | none =>
          if !ok then (otherEvent n .g (a / 0x100000) 0 a, false)
          else match regSpec a with
            | some r => (storeReg n r a v, true)
            | none => (n, true)
    | none =>
      match writeCommand (defaultEvents n a v) x a v with
      | some n => (n, true)
      | none =>
        match regSpec a with
        | some r =>
          if lineMode n = 2 && (List.range 2).any (fun c => (elem (R.LC_SLOTCFG c 12) 4 68 a).isSome) then (n, true)
          else (afterStore n (storeReg (defaultEvents n a v) r a v) a v, true)
        | none => (n, true)

end Sys2Proof.Machine
end

