-- ==== Sys2Proof/Machine/Boot.lean ====
section
/-! DEFINITION. The boot and the entry to RUN (Table PW-4, R270, R271, R282, R285, R294 to R296, R299, R359, R388,
R403, R404, R416). -/

namespace Sys2Proof.Machine

/-! ### Queues (R270, R271) -/

/-- The default SIZE of a reserved queue (Table QM-4). -/
def defaultSize (q : Nat) : Nat := if q < 16 then 8 else 6

/-- Place one reserved queue and give the pool cell after its ring. -/
def placeQueue (n : Node) (q base size : Nat) : Node × Nat :=
  let code := if q < 16 then 2 else 1
  (setDesc n q { base := base, size := size, kind := kindOfCode code, kindCode := code, locked := true }, base + 2 ^ size)

/-- Set the descriptors of queues 0 to 255: rings of 0 to 23 packed from pool cell 0, the rest KIND off. -/
def setQueues (n : Node) (size : Nat → Nat) : Node :=
  let n := forRange 232 (fun n i => setDesc n (24 + i) { locked := true }) n
  ((List.range 24).foldl (fun (st : Node × Nat) q => placeQueue st.1 q st.2 (size q)) (n, 0)).1

/-! ### Loading a blend (R285, R294, Tables CF-5, CF-6) -/

/-- NODEPARAM (Table CF-6). -/
def loadParams (n : Node) (p : List Byte) : Node :=
  let n := wr n R.QM_POOLCFG (BitVec.ofNat 32 (le p 0 4))
  let n := sf n R.IN_LOCAL F.IN_LOCAL_CSCAP (le p 4 1 % 2)
  let d := le p 5 1
  let v := fset (fset 0#32 F.DU_CFG_MIRROR (bits d 4 1)) F.DU_CFG_MODE (d % 4)
  let n := wr (defaultEvents n R.DU_CFG v) R.DU_CFG v
  setQueues n (fun q => le p (8 + q) 1)

/-- REGTABLE entries that a test selects, as 32-bit writes in order (Table CF-5); RW-S values latch at the next boundary. -/
def writeTable (n : Node) (l : List (Nat × BitVec 32)) (sel : Nat → Bool) : Node :=
  let l := l.filter (fun e => sel e.1)
  let n := l.foldl (fun n e => (writeReg n { iface := 5 } e.1 e.2).1) n
  { n with shadow := n.shadow.map (fun s => if l.any (fun e => e.1 == s.addr) then { s with wait := 1 } else s) }

/-- Is an address in the MK_PROGCFG array? -/
def isProgCfg (a : Nat) : Bool := (elem (R.MK_PROGCFG 0) (R.MK_PROGCFG 1 - R.MK_PROGCFG 0) 512 a).isSome

/-- Place the DATAIMAGE sections of the spaces a test selects (Table CF-5). -/
def placeData (n : Node) (b : List Byte) (sel : Nat → Bool) : Node :=
  ((blendDir b).filter (fun s => s.kind == 4)).foldl (fun n s =>
    let bs := sectionBytes b s
    let o := le bs 4 4
    let x := bs.drop 8
    if !sel (le bs 0 1) then n
    else match le bs 0 1 with
      | 0 => storeDram n o x
      | 1 => { n with mil := { n.mil with cxram := writeBytes n.mil.cxram o x } }
      | _ => { n with mil := { n.mil with axram := writeBytes n.mil.axram o x } }) n

/-- Load a blend at boot: NODEPARAM, REGTABLE, DATAIMAGE and programs (R294).  AX is not powered yet, so its images
are placed at the entry to RUN.  REGTABLE entries of MK_PROGCFG override what the headers give (R285). -/
def loadBlend (n : Node) (b : List Byte) : Node :=
  let p := sectionOf b 3
  let n := withCf n (fun c => { c with params := p, running := b })
  let n := loadParams n p
  let n := writeTable n (blendRegs b) (fun _ => true)
  let n := placeData n b (fun sp => sp != 2)
  let n := loadPrograms n (blendPrograms b)
  writeTable n (blendRegs b) isProgCfg

/-! ### Journal and blend at boot (R280, R282, R294 to R296) -/

/-- Does slot k hold a VALID blend that passes checks 1 to 9?  The failing check, or none. -/
def slotFail (n : Node) (j : Journal) (k : Fin 2) : Option CheckFail :=
  if j.slot k ≠ .valid then some { check := 1 } else blendFail n (slotBytes n k) (blendLen (slotBytes n k))

/-- A slot found in STAGING is EMPTY (R296). -/
def clearStaging (j : Journal) : Journal :=
  let f := fun (x : SlotState) => if x = .staging then .empty else x
  { j with st0 := f j.st0, st1 := f j.st1 }

/-- JOURNAL_INIT (R282). -/
def initJournal (n : Node) (bad : Bool) : Node :=
  if n.cf.j0.isNone && n.cf.j1.isNone then otherEvent (writeJournal n {} bad).1 .g 9 0 R.CF_STAT else n

/-- Write a journal record when it says something new. -/
def bootJournal (n : Node) (j : Journal) (bad : Bool) : Node × Bool :=
  if j = journal n then (showJournal n, true) else writeJournal n j bad

/-- No slot yields a blend (R271, R296). -/
def noBlend (n : Node) : Node := setQueues (sf n R.CF_STAT F.CF_STAT_NOBLEND 1) defaultSize

/-- The event of R295 carries both VERSIONs and the failing check, which has no place of its own in the twelve DATA
bytes: it stands in byte 3, above the register offset. -/
def fallbackEvent (n : Node) (new old : BitVec 32) (check : Nat) : Node :=
  let n := sf (count n (R.CF_CNT 5)) R.CF_EVT F.CF_EVT_FALLBACK 1
  record n .g (evCode 9 F.CF_EVT_FALLBACK.lo) (blockSource 9 0)
    (leBytes 3 (R.CF_EVT % 0x100000) ++ leBytes 1 check ++ leBytes 4 new.toNat ++ leBytes 4 old.toNat)

/-- Verify and load the current blend, fall back to the previous one, or do without (R294 to R296). -/
def bootBlend (n : Node) (bad : Bool) : Node :=
  let j := clearStaging (journal n)
  match slotFail n j j.cur with
  | none =>
    let n := (bootJournal (showCheck n none) { j with fallback := false } bad).1
    withPw (loadBlend n (slotBytes n j.cur)) (fun p => { p with moveTo := some 4 })
  | some x =>
    let n := showCheck n (some x)
    if (slotFail n j j.prev).isNone then
      let (n, ok) := bootJournal n { j.setSlot j.cur .invalid with cur := j.prev, fallback := true } bad
      if !ok then noBlend n
      else
        let n := loadBlend n (slotBytes n j.prev)
        let n := fallbackEvent n (j.ver j.prev) (j.ver j.cur) x.check
        withPw n (fun p => { p with moveTo := some 4 })
    else noBlend (bootJournal n j bad).1

/-! ### The boot (Table PW-4, R403, R404) -/

/-- Backup was lost: one class G event, and every refusal in progress restarts at its full length (R337, R416). -/
def backupLost (n : Node) : Node :=
  let n := otherEvent n .g 15 0 R.PW_RSTSTAT
  forRange 3 (fun n i =>
    let l := lockOf n i
    if l.remain = 0 then n else setLock n i { l with remain := l.full }) n

/-- Step 3 and 4: the time base runs from 0 with no domain (R131, R479), the line dies are powered, the ports that are
enabled enter SETTLE, inauguration leaves OFF, PX starts. -/
def powerLine (n : Node) : Node :=
  let n := sf n R.PW_STAT F.PW_STAT_STATE 3
  let n := setTbState { n with tb := { running := true } } 1
  let n := forRange 4 applyPortEnable n
  let n := if pairPortState n = 0 then setPairPort n 1 else n
  lsPowerUp (sfPowerUp (setInState n 1))

/-- What this boot counts and shows (Table PW-3, PW_CNT, PW_EVT). -/
def bootCounts (n : Node) (waited : Bool) : Node :=
  let k := n.pw.resetKind
  let n := sflag n R.PW_STAT F.PW_STAT_LOWBAT waited
  if k = 0 then backupLost n
  else if k = 1 then count n (R.PW_CNT 4)
  else if k = 2 then count (sf n R.PW_EVT F.PW_EVT_WAKE 1) (R.PW_CNT 0)
  else if k = 5 then count n (R.PW_CNT 5)
  else n

/-- The boot: steps 1 to 8 of Table PW-4.  RUN is entered at the next boundary when a blend was loaded. -/
def boot (n : Node) (waited bad : Bool) : Node :=
  let n := withPw n (fun p => { p with unbooted := false })
  let n := bootCounts (initJournal (powerLine n) bad) waited
  let n := { n with line := { n.line with kt := keyOf n 9 } }
  let n := bootBlend n bad
  if (journal n).spValid then withCf n (fun c => { c with deliver := some (spBytes n) }) else n

/-- BOOT_START (R403, R404): VBAT has been high enough for 10 ms.  `waited`: the boot waited for it (LOWBAT); `bad`: a
journal record it writes does not read back (R280).  A node that runs, or that is held in a THERMAL reset, does not
boot. -/
def execBootStart (waited bad : Bool) (s : State) : Host.Outcome State Fault Refusal :=
  onNode s (fun n => if !n.pw.unbooted || n.pw.thermal then n else boot n waited bad)

/-! ### Entry to RUN (R226, R359, R388, Table PW-4 step 9) -/

/-- Is a register of the MACs or CAN controllers? -/
def isMacCan (a : Nat) : Bool := a / 0x100000 == 13 || a / 0x100000 == 14

/-- Engines as RUN finds them: idle unless halted, contexts not restored (R226). -/
def startEngines (n : Node) : Node :=
  let n := forRange 32 (fun n e => setEngine n e { engine n e with st := restState n e }) n
  { n with mil := { n.mil with progs := n.mil.progs.map (fun p => (p.1, { p.2 with hasContext := false })) } }

/-- LINE-ONLY to RUN: the Application group is powered, its registers are set again from REGTABLE, AX images placed. -/
def enterRun (n : Node) : Node :=
  if isRun n then n
  else
    let n := sf n R.PW_STAT F.PW_STAT_STATE 4
    let n := writeTable n (blendRegs n.cf.running) isMacCan
    let n := placeData n n.cf.running (fun sp => sp == 2)
    putStb (startEngines (withPw n (fun p => { p with quietFor := 0 })))

end Sys2Proof.Machine
end

