-- ==== Sys2Proof/Machine/Checkpoint.lean ====
section
/-! DEFINITION. The checkpoint of a node pair: capture, transmission, reception (spec/06_redundancy.md, R182 to R184,
Tables DU-4 and DU-5). -/

namespace Sys2Proof.Machine

/-! ### Capture (R182, R183) -/

/-- Bytes of a checkpoint region's space. -/
def ckBytes (n : Node) (space a len : Nat) : List Byte :=
  match space with
  | 0 => dramRead n a len
  | 1 => readBytes n.mil.cxram a len
  | _ => readBytes n.mil.axram a len

/-- The regions in use: index, space, first byte, bytes (R183). -/
def ckRegions (n : Node) : List (Nat × Nat × Nat × Nat) :=
  (List.range 16).filterMap (fun k =>
    let (sp, base, len) := ckRegion n k
    if sp = 3 ∨ len = 0 then none else some (k, sp, base, len))

/-- Addresses whose byte differs between two stores. -/
def changedKeys (old new : Sparse Byte) : List Nat :=
  ((new.filter (fun e => look 0#8 old e.1 != e.2)) ++ (old.filter (fun e => look 0#8 new e.1 != e.2))).map (·.1)

/-- Lines of a region that changed since the last capture, as byte offsets in the region, in order. -/
def changedLines (n : Node) (r : Nat × Nat × Nat × Nat) : List Nat :=
  let keys := match r.2.1 with
    | 0 => changedKeys n.du.ckDram n.dram
    | 1 => changedKeys n.du.ckCx n.mil.cxram
    | _ => changedKeys n.du.ckAx n.mil.axram
  let base := r.2.2.1
  let lines := (keys.filter (fun a => decide (base ≤ a) && decide (a < base + r.2.2.2))).map (fun a => (a - base) / 64)
  (lines.foldl (fun (m : Sparse Bool) i => put false m i true) []).map (fun e => 64 * e.1)

/-- One record of one line (Table DU-5). -/
def ckRecord (n : Node) (r : Nat × Nat × Nat × Nat) (off : Nat) (sweep : Bool) : List Byte :=
  leBytes 1 r.1 ++ leBytes 1 (b2n sweep) ++ leBytes 2 64 ++ leBytes 4 off ++ ckBytes n r.2.1 (r.2.2.1 + off) 64

/-- Records of one line that fit the LEN limit of R182. -/
def ckRoom : Nat := (131072 - 36) / 72

/-- The region and offset of a position of the sweep over all regions. -/
def sweepAt : List (Nat × Nat × Nat × Nat) → Nat → Option ((Nat × Nat × Nat × Nat) × Nat)
  | [], _ => none
  | r :: rs, pos => if pos < r.2.2.2 then some (r, pos) else sweepAt rs (pos - r.2.2.2)

/-- The outputs of the cycle just ended, in the model's arrangement (log entry 27): owned lanes, the output units of star
and TDM, load switches. -/
def outputBytes (n : Node) (lson : Nat) : List Byte :=
  n.mil.ownBlocks.flatMap (fun e => leBytes 4 e.1 ++ e.2.flatMap (fun v => leBytes 4 v.toNat))
    ++ (n.au.outs.headD (0, [])).2.flatMap (fun e => leBytes 4 e.1 ++ e.2.samples.flatMap (fun v => leBytes 4 v.toNat))
    ++ leBytes 2 lson

/-- LSON: the load-switch channels that are on. -/
def lsonNow (n : Node) : Nat := (List.range 12).foldl (fun v k => v + b2n (switch n k).on * 2 ^ k) 0

/-- The checkpoint of the cycle just ended (Table DU-4), one-line records, changed lines before sweep lines; the state
after it. -/
def buildCheckpoint (n : Node) : Node × List Byte :=
  let cn := cnAgo n 1
  let regions := ckRegions n
  let changed := regions.flatMap (fun r => (changedLines n r).map (fun o => (r, o)))
  let excess := decide (ckRoom < changed.length)
  let taken := changed.take ckRoom
  let total := (regions.map (fun r => r.2.2.2)).foldl (· + ·) 0
  let pos := if n.du.ckSweep < total then n.du.ckSweep else 0
  let lines := min (ckRoom - taken.length) ((total - pos) / 64)
  let sweep := (List.range lines).filterMap (fun i => sweepAt regions (pos + 64 * i))
  let done := decide (total ≤ pos + 64 * lines)
  let records := taken.flatMap (fun x => ckRecord n x.1 x.2 false) ++ sweep.flatMap (fun x => ckRecord n x.1 x.2 true)
  let lson := lsonNow n
  let head := leBytes 6 cn ++ leBytes 2 (epochNow n) ++ leBytes 4 n.du.ckTxSeq ++ leBytes 4 (36 + records.length)
    ++ leBytes 2 (taken.length + sweep.length) ++ leBytes 1 (b2n done + 2 * b2n excess) ++ [0#8]
    ++ leBytes 4 (Config.digest cn (outputBytes n lson)).toNat ++ leBytes 2 lson ++ [0#8, 0#8] ++ leBytes 4 pos
  let body := head ++ records
  let n := if excess then count n (R.DU_CNT 3) else n
  let n := if done then count n (R.DU_CNT 4) else n
  (withDu n (fun d => { d with ckTxSeq := (d.ckTxSeq + 1) % 2 ^ 32, ckSweep := if done then 0 else pos + 64 * lines }),
    body ++ leBytes 4 (crc32c body).toNat)

/-- Step 5 of Table AC-4: the active member of a pair captures (R182). -/
def captureCheckpoint (n : Node) : Node :=
  if !cxAlive n || !inPair n || pairRole n ≠ 1 || !isRun n then withDu n (fun d => { d with ckOut := [] })
  else
    let (n, b) := buildCheckpoint n
    withDu n (fun d => { d with ckOut := b, ckDram := n.dram, ckCx := n.mil.cxram, ckAx := n.mil.axram })

/-- CHECKPOINT_SEND (R182). -/
def sendCheckpoint (n : Node) : Node :=
  if n.du.ckOut.isEmpty || !lineOn n || !cxAlive n || pairPortState n ≠ 7 then n
  else count (withDu (emit n (.pairPort n.du.ckOut)) (fun d => { d with ckOut := [] })) (R.DU_CNT 0)

/-- CHECKPOINT_SEND (R182). -/
def execCheckpointSend (s : State) : Host.Outcome State Fault Refusal := onNode s sendCheckpoint

/-! ### Reception (R183, R184) -/

/-- A checkpoint's length and CRC are good. -/
def checkpointGood (b : List Byte) : Bool :=
  decide (36 ≤ b.length) && decide (b.length ≤ 131072) && le b 12 4 == b.length
    && le b (b.length - 4) 4 == (crc32c (b.take (b.length - 4))).toNat

/-- Store the data of one record: DRAM regions at their own offsets, SRAM regions at the top of DRAM (R183). -/
def storeRecord (n : Node) (r : List Byte) : Node :=
  let k := le r 0 1
  let off := le r 4 4
  let (sp, base, len) := ckRegion n k
  let data := (r.drop 8).take (len - off)
  if 16 ≤ k ∨ sp = 3 ∨ len ≤ off then n
  else storeDram n ((if sp = 0 then base else ckPlace n k) + off) data

/-- Store the records in order; `fuel` bounds their number. -/
def storeRecords : Nat → Node → List Byte → Node
  | 0, n, _ => n
  | k + 1, n, b =>
    let len := 8 + le b 2 2
    if b.length < len ∨ len = 8 then n else storeRecords k (storeRecord n (b.take len)) (b.drop len)

/-- SYNC is lost (R183): counted, and SYNCLOST when it was set. -/
def syncLost (n : Node) : Node :=
  let had := gf n R.DU_HEALTH F.DU_HEALTH_SYNC == 1
  let n := sf (count n (R.DU_CNT 2)) R.DU_HEALTH F.DU_HEALTH_SYNC 0
  let n := withDu n (fun d => { d with syncCn := none })
  if had then sf n R.DU_EVT F.DU_EVT_SYNCLOST 1 else n

/-- A checkpoint that fails its length or CRC. -/
def badCheckpoint (n : Node) : Node :=
  let n := withDu (syncLost n) (fun d => { d with ckBad := d.ckBad + 1, ckClean := false, ckSeq := none })
  if 8 ≤ n.du.ckBad then sf n R.DU_HEALTH F.DU_HEALTH_CKCRCERR 1 else n

/-- A checkpoint with a good CRC: its records are stored, and SYNC follows (R183). -/
def goodCheckpoint (n : Node) (b : List Byte) : Node :=
  let seq := le b 8 4
  let excess := bitOf (le b 18 1) 1
  let done := bitOf (le b 18 1) 0
  let inOrder := n.du.ckSeq.elim false (fun k => seq == (k + 1) % 2 ^ 32)
  let clean := !excess && (decide (le b 28 4 = 0) || (inOrder && n.du.ckClean))
  let broken := excess || (n.du.ckSeq.isSome && !inOrder)
  let n := storeRecords (le b 16 2) (count n (R.DU_CNT 1)) ((b.drop 32).take (b.length - 36))
  let n := if broken then syncLost n else n
  let n := withDu n (fun d => { d with
    ckHave := true, ckBad := 0, ckGood := true, ckSeq := some seq, ckClean := clean || (done && !excess), lson := le b 24 2
    ckDigest := some (le b 0 6, BitVec.ofNat 32 (le b 20 4)) })
  let n := sf n R.DU_HEALTH F.DU_HEALTH_CKCRCERR 0
  let n := if done && clean then
      withDu (sf n R.DU_HEALTH F.DU_HEALTH_SYNC 1) (fun d => { d with syncCn := some (d.syncCn.getD (cnNow n)) })
    else n
  lsRefresh n

/-- CHECKPOINT_RECEIVED (R183): at a standby, on the pair port. -/
def takeCheckpoint (n : Node) (b : List Byte) : Node :=
  if !lineOn n || !cxAlive n || pairPortState n ≠ 7 || !isStandby n then n
  else
    let n := withDu n (fun d => { d with ckRx := true })
    if checkpointGood b then goodCheckpoint n b else badCheckpoint n

/-- CHECKPOINT_RECEIVED (R183). -/
def execCheckpointReceived (checkpoint : List Byte) (s : State) : Host.Outcome State Fault Refusal :=
  onNode s (fun n => takeCheckpoint n checkpoint)

end Sys2Proof.Machine
end

