-- ==== Sys2Proof/Machine/CmdEngine.lean ====
section
/-! DEFINITION. Remote windows and the command engine: sessions as commands use them, responses, and the register
commands that may wait for the line (R311 to R316, R319, R321, R323, R333 to R335). -/

namespace Sys2Proof.Machine

/-! ### Remote windows (R319, R321, R323) -/

/-- Is an address in the remote windows? -/
def inWindows (a : Nat) : Bool := decide (0x10000000 ≤ a) && decide (a < 0x20000000)

/-- What an address reaches: a register here, a register of another node, or nothing through an unusable window. -/
inductive Reach where
  | here (addr : Nat)
  | there (node addr : Nat)
  | unusable
  deriving DecidableEq, Repr

/-- Target node of window w: by number, or by the identity looked up at the last epoch commit (R319). -/
def windowNode (n : Node) (w : Nat) : Nat :=
  if gf n (R.HB_RWCFG w) F.HB_RWCFG_SEL = 1 then look 0 n.hb.idTarget w else gf n (R.HB_RWCFG w) F.HB_RWCFG_NODE

/-- Resolve an address (R319). -/
def reach (n : Node) (a : Nat) : Reach :=
  if !inWindows a then .here a
  else
    let w := (a - 0x10000000) / 0x80000
    let base := gf n (R.HB_RWCFG w) F.HB_RWCFG_RBASE
    let m := windowNode n w
    if gf n (R.HB_RWCFG w) F.HB_RWCFG_EN = 0 || decide (35 < base) || m = 0 || decide (nodesNow n < m) then .unusable
    else
      let ra := base * 0x80000 + a % 0x80000
      if m = ownNumber n then .here ra
      else if !bitOf (imgLe n (rosterAt m + 10) 1) 0 || vt6100At n m then .unusable
      else .there m ra

/-- Offset within the remote windows. -/
def windowOffset (a : Nat) : Nat := a % 0x10000000

/-- Note HB_RALAST and HB_RALASTADDR of an interface (R321). -/
def setRaLast (n : Node) (iface result a : Nat) : Node :=
  withHb n (fun h => { h with ralast := put (0, 0) h.ralast iface (result, a) })

/-- The fetch of a requester for an address. -/
def fetchFor (n : Node) (who off : Nat) : Option Request := n.hb.fetch.find? (fun r => r.who == who && r.addr == off)

/-- Free a fetch entry. -/
def dropFetch (n : Node) (ord : Nat) : Node := withHb n (fun h => { h with fetch := h.fetch.filter (fun r => r.ord != ord) })

/-- Free a write-buffer entry. -/
def dropWrite (n : Node) (ord : Nat) : Node := withHb n (fun h => { h with writes := h.writes.filter (fun r => r.ord != ord) })

/-- A new request of the bridge. -/
def newRequest (n : Node) (who off node ra : Nat) (v : Option (BitVec 32)) : Request :=
  { ord := n.hb.ord, value := v, who := who, addr := off, target := node, raddr := ra, rseq := n.hb.rseq }

/-- The next order number and RSEQ. -/
def nextRequest (h : HbState) : HbState := { h with ord := h.ord + 1, rseq := (h.rseq + 1) % 65536 }

/-- Open a fetch entry. -/
def openFetch (n : Node) (who off node ra : Nat) : Node :=
  let r := newRequest n who off node ra none
  withHb n (fun h => nextRequest { h with fetch := h.fetch ++ [r] })

/-- Post a write. -/
def postWrite (n : Node) (who off node ra : Nat) (v : BitVec 32) : Node :=
  let r := newRequest n who off node ra (some v)
  withHb n (fun h => nextRequest { h with writes := h.writes ++ [r] })

/-- A host read of a remote window of another node (R321). -/
def remoteRead (n : Node) (iface a node ra : Nat) : Node × BitVec 32 :=
  let off := windowOffset a
  let last := fun (n : Node) (r : Nat) => setRaLast n iface r a
  match fetchFor n iface off with
  | some r =>
    match r.st with
    | .data v _ => (last (dropFetch n r.ord) 0, v)
    | .failed e _ => (last (dropFetch n r.ord) e, 0xFFFFFFFF#32)
    | _ => (last n 1, 0xFFFFFFFF#32)
  | none =>
    if 32 ≤ n.hb.fetch.length then (last n 5, 0xFFFFFFFF#32)
    else (last (openFetch n iface off node ra) 1, 0xFFFFFFFF#32)

/-- HB_RAWERR: offset and RSTAT, or 7 (R323). -/
def setRawErr (n : Node) (off rstat : Nat) : Node := wr n R.HB_RAWERR (BitVec.ofNat 32 (rstat * 2 ^ 29 + off % 2 ^ 29))

/-- A posted write that is dropped (R323). -/
def dropPosted (n : Node) (off : Nat) : Node := setRawErr (hbEvt (hbCount n 7) F.HB_EVT_RWDROP) off 7

/-- A read by an interface, through a remote window or of this node. -/
def hostRead (n : Node) (iface a : Nat) : Node × BitVec 32 :=
  match reach n a with
  | .here r =>
    let (n, v) := readReg n { iface := iface } r
    (if inWindows a then setRaLast n iface 0 a else n, v)
  | .unusable => (setRaLast n iface 4 a, 0xFFFFFFFF#32)
  | .there node r => remoteRead n iface a node r

/-- A direct write by an interface; whether it was performed or posted. -/
def hostWrite (n : Node) (iface a : Nat) (v : BitVec 32) : Node × Bool :=
  let x : Access := { iface := iface }
  if inWindows a && writeLocked n x a then (protectedWrite n a, false)
  else
    match reach n a with
    | .here r => writeReg n x r v
    | .unusable => (dropPosted n (windowOffset a), false)
    | .there node r =>
      if 64 ≤ n.hb.writes.length then (dropPosted n (windowOffset a), false)
      else (postWrite n iface (windowOffset a) node r v, true)

/-! ### Sessions as commands use them (R333 to R335) -/

/-- The session entry with an identifier. -/
def session (n : Node) (id : Nat) : Option Session := if id = 0 then none else n.se.sessions.find? (fun x => x.id == id)

/-- Replace a session entry. -/
def setSession (n : Node) (x : Session) : Node :=
  withSe n (fun e => { e with sessions := e.sessions.map (fun y => if y.id = x.id then x else y) })

/-- Count in SE_CNT[k]. -/
def seCount (n : Node) (k : Nat) : Node := count n (R.SE_CNT k)

/-- Set an event bit of SE_EVT without a record. -/
def seEvt (n : Node) (f : Field) : Node := sf n R.SE_EVT f 1

/-- Close an open session (R335).  The cause in the record: 0 CLOSE or logout, 1 a key change, 2 rejections, 3 the last
NONCE, 4 an interface reset, 5 idle, 6 RETIRE, 7 a second login. -/
def closeSession (n : Node) (id cause : Nat) : Node :=
  match session n id with
  | none => n
  | some x =>
    let n := withSe n (fun e => { e with sessions := e.sessions.filter (fun y => y.id != id) })
    if x.isOpen then raise n .g 11 0 R.SE_EVT F.SE_EVT_SESSCLOSE (leBytes 4 id ++ leBytes 1 cause) else n

/-- Close every session that a test selects. -/
def closeSessions (n : Node) (p : Session → Bool) (cause : Nat) : Node :=
  (n.se.sessions.filter p).foldl (fun n x => closeSession n x.id cause) n

/-- The IV of a tag: SESSID and NONCE, most significant byte first (R333). -/
def tagIv (id nonce : Nat) : List Byte := beBytes 4 id ++ beBytes 8 nonce

/-- Rejections and the last NONCE close a session after its response (R334). -/
def afterTag (n : Node) (id : Nat) : Node :=
  match session n id with
  | none => n
  | some x =>
    if 16 ≤ x.rejects then closeSession n id 2
    else if x.lastNonce = 0x7FFFFFFFFFFFFFFF then closeSession n id 3
    else n

/-! ### Responses (R313, R314, Table HB-5) -/

/-- The frame of a response from offset 16, before its tag. -/
def responseHead (c : Cmd) (tagged : Bool) (nonce status : Nat) (results : List Byte) : List Byte :=
  leBytes 4 c.cmdid ++ leBytes 2 c.opcode ++ leBytes 2 (b2n tagged) ++ leBytes 4 c.session ++ leBytes 8 nonce
    ++ leBytes 2 results.length ++ leBytes 2 status ++ results

/-- The response's payload: tagged under its session with the node's own counter (R313, R333). -/
def responsePayload (n : Node) (c : Cmd) (status : Nat) (results : List Byte) : Node × List Byte :=
  match (if c.tagged then session n c.session else none) with
  | some x =>
    let b := responseHead c true x.ownNonce status results
    (setSession n { x with ownNonce := x.ownNonce + 1 }, b ++ Config.gmac x.ks (tagIv x.id x.ownNonce) b)
  | none => (n, responseHead c false 0 status results)

/-- The console's prompt (R310). -/
def prompt : List Byte := ascii "vt8400> "

/-- Line end of the console. -/
def crlf : List Byte := [0x0D#8, 0x0A#8]

/-- Bytes as hexadecimal text, 32 bytes a line. -/
def hexLines : Nat → List Byte → List Byte
  | 0, _ => []
  | _, [] => []
  | fuel + 1, bs => (bs.take 32).flatMap (fun b => hexDigits 2 b.toNat) ++ crlf ++ hexLines fuel (bs.drop 32)

/-- What the console shows of a response. -/
def consoleAnswer (status : Nat) (results : List Byte) : List Byte :=
  (if status = 0 then hexLines results.length results else ascii "error " ++ hexDigits 1 status ++ crlf) ++ prompt

/-- A frame that passes through a queue at once: pushed, and popped. -/
def throughQueue (n : Node) (q : Nat) (payload : List Byte) : Node :=
  match pushFrame n q { len := payload.length } payload with
  | (n, true) => (popFrame n q).1
  | (n, false) => n

/-- The command of ring k ends: its response goes into the response ring, and the ring is free (R313, R421). -/
def respond (n : Node) (k status : Nat) (results : List Byte) : Node :=
  let r := ring n k
  match r.cur with
  | none => n
  | some c =>
    let n := hbCount n 0
    let n := if status = 0 then n else hbCount n 1
    let n := sf n (R.HB_RINGSTAT k) F.HB_RINGSTAT_DONE (gf n (R.HB_RINGSTAT k) F.HB_RINGSTAT_DONE + 1)
    let n := setRing n k {}
    let (n, b) := responsePayload n c status results
    let n :=
      if r.flush then n
      else if k = 7 then emit (throughQueue n (rspQueue k) b) (.bytes (consoleAnswer status results))
      else (pushFrame n (rspQueue k) { len := b.length } b).1
    afterResponse (afterTag n c.session)

/-! ### Register commands that may wait for the line (R314, R316) -/

/-- Access of a command: its ring's interface, its session's role. -/
def cmdAccess (n : Node) (k : Nat) : Access := { iface := ringIface k, role := (ring n k).cur.elim 0 (fun c => c.role) }

/-- STATUS of a fetch or write that ended with a RESULT of R321: 6 timeout, 7 otherwise (Table HB-7). -/
def remoteStatus (result : Nat) : Nat := if result = 2 then 6 else 7

/-- Set what the command of ring k waits for. -/
def waitRing (n : Node) (k : Nat) (w : Waiting) : Node := setRing n k { ring n k with wait := w }

/-- Go on with a REGREAD: words here at once, words of other nodes one fetch after the other. -/
def runRead : Nat → Node → Nat → Nat → Nat → List (BitVec 32) → Node
  | _, n, k, _, 0, got => respond n k 0 (leBytes 4 (cnNow n) ++ got.flatMap (fun w => leBytes 4 w.toNat))
  | 0, n, _, _, _ + 1, _ => n
  | fuel + 1, n, k, addr, left + 1, got =>
    let stay := fun (n : Node) => waitRing n k (.read addr (left + 1) got)
    match reach n addr with
    | .here a =>
      let (n, v) := readReg n (cmdAccess n k) a
      runRead fuel n k (addr + 4) left (got ++ [v])
    | .unusable => respond n k 7 []
    | .there node ra =>
      match fetchFor n (8 + k) (windowOffset addr) with
      | none => if 32 ≤ n.hb.fetch.length then stay n else stay (openFetch n (8 + k) (windowOffset addr) node ra)
      | some e =>
        match e.st with
        | .data v _ => runRead fuel (dropFetch n e.ord) k (addr + 4) left (got ++ [v])
        | .failed r _ => respond (dropFetch n e.ord) k (remoteStatus r) []
        | _ => stay n

/-- Results of a REGWRITE: words written. -/
def writeResults (done : Nat) : List Byte := leBytes 2 done ++ leBytes 2 0

/-- Go on with a REGWRITE: a refused word ends it with STATUS 5; a reserved word is not written and not counted. -/
def runWrite : Nat → Node → Nat → Nat → List (BitVec 32) → Nat → Node
  | _, n, k, _, [], done => respond n k 0 (writeResults done)
  | 0, n, _, _, _, _ => n
  | fuel + 1, n, k, addr, v :: vs, done =>
    let stay := fun (n : Node) => waitRing n k (.write addr (v :: vs) done)
    match reach n addr with
    | .here a =>
      let (n', ok) := writeReg n (cmdAccess n k) a v
      if !ok then respond n' k 5 (writeResults done)
      else runWrite fuel n' k (addr + 4) vs (done + b2n (isRegister a && a / 0x100000 != 16))
    | .unusable => respond n k 7 (writeResults done)
    | .there node ra =>
      if n.hb.writes.any (fun r => r.who == 8 + k) || decide (64 ≤ n.hb.writes.length) then stay n
      else stay (postWrite n (8 + k) (windowOffset addr) node ra v)

/-- Take up again the command of ring k that waits for the bridge. -/
def resumeRing (n : Node) (k : Nat) : Node :=
  match (ring n k).wait with
  | .read addr left got => runRead (left + 1) n k addr left got
  | .write addr words done => runWrite (words.length + 1) n k addr words done
  | _ => n

/-- The write in flight of ring k has ended: RESULT 0 done, 2 timeout, 3 refused. -/
def ringWriteEnded (n : Node) (k result : Nat) : Node :=
  match (ring n k).wait with
  | .write addr (_ :: vs) done =>
    if result = 0 then runWrite (vs.length + 1) n k (addr + 4) vs (done + 1) else respond n k (remoteStatus result) (writeResults done)
  | _ => n

end Sys2Proof.Machine
end

