-- ==== Sys2Proof/Machine/Bridge.lean ====
section
/-! DEFINITION. The remote access bridge: its records on the line, serving other nodes, polling (R320, R322 to R326). -/

namespace Sys2Proof.Machine

/-! ### Records (Table HB-9) -/

/-- Bytes 0 to 15 of a record. -/
def BridgeRec.body (r : BridgeRec) : List Byte :=
  beBytes 1 r.op ++ beBytes 1 r.rstat ++ beBytes 2 r.rseq ++ beBytes 2 r.peer ++ beBytes 2 0 ++ beBytes 4 r.addr ++ beBytes 4 r.data

/-- A record read from its bytes. -/
def parseBridge (b : List Byte) : BridgeRec :=
  { op := be b 0 1, rstat := be b 1 1, rseq := be b 2 2, peer := be b 4 2, addr := be b 8 4, data := be b 12 4 }

/-- A record with its tag for a mini-slot of channel c (Table HB-9, Table LC-17). -/
def bridgeBytes (n : Node) (c slot : Nat) (r : BridgeRec) : List Byte :=
  r.body ++ makeTag n (cnNow n) c 9 slot 0xFFFD (ownNumber n) r.body

/-- STREAM of the bridge (R320). -/
def bridgeStream : Nat := 0xFFFF0B01

/-- The channels a set of records goes on (R320, R278): in native mode one, in the other modes both (R57). -/
def bridgeChannels (n : Node) : List Nat := if isNative n then [if n.qm.logOnB then 1 else 0] else [0, 1]

/-- May the bridge use the line now? -/
def bridgeOnLine (n : Node) : Bool := hostOn n && ownNumber n != 0 && (bridgeChannels n).all (fun c => mayClaim n c .message)

/-- Send records, at most 6, in one mini-slot of class M on the bridge's channels (R320). -/
def sendRecords (n : Node) (slotA slotB : Nat) (rs : List BridgeRec) : Node :=
  (bridgeChannels n).foldl (fun n c =>
    let slot := if c = 0 then slotA else slotB
    let m : LineMsg := { type := 9, cls := .message, stream := bridgeStream, payload := rs.flatMap (bridgeBytes n c slot) }
    messageSent (sendOwn (countClaim n c .message) c (fragFrame n c m slot 0 (cnNow n)) true) c m) n

/-! ### Requests (R321 to R323, R325) -/

/-- TMO: lower values are treated as 8 (HB_RACFG). -/
def bridgeTmo (n : Node) : Nat := max 8 (gf n R.HB_RACFG F.HB_RACFG_TMO)

/-- Requests in the order of the host accesses. -/
def orderInsert (r : Request) : List Request → List Request
  | [] => [r]
  | x :: xs => if r.ord < x.ord then r :: x :: xs else x :: orderInsert r xs

/-- All requests in that order. -/
def allRequests (n : Node) : List Request := n.hb.fetch.foldr orderInsert n.hb.writes

/-- Is a request waiting to be sent, or to be sent again? -/
def Request.unsent (r : Request) : Bool :=
  match r.st with
  | .due | .busy _ => true
  | _ => false

/-- Must a request stay behind earlier ones to its target (R323): one not sent that is not sent with it, or for a READ a
WRITE not answered? -/
def heldBack (all sel : List Request) (r : Request) : Bool :=
  all.any (fun q => decide (q.ord < r.ord) && q.target == r.target
    && ((q.unsent && !sel.any (fun s => s.ord == q.ord)) || (r.value.isNone && q.value.isSome)))

/-- The requests the next mini-slot takes: at most 6. -/
def dueRequests (all : List Request) : List Request :=
  all.foldl (fun sel r => if r.st = .due && decide (sel.length < 6) && !heldBack all sel r then sel ++ [r] else sel) []

/-- Record of a request. -/
def Request.record (r : Request) : BridgeRec :=
  { op := if r.value.isSome then 2 else 1, rseq := r.rseq, peer := r.target, addr := r.raddr, data := r.value.elim 0 (·.toNat) }

/-- Change every request that a test selects. -/
def changeRequests (n : Node) (p : Request → Bool) (f : Request → Request) : Node :=
  let g := fun (r : Request) => if p r then f r else r
  withHb n (fun h => { h with fetch := h.fetch.map g, writes := h.writes.map g })

/-- BRIDGE_REQUEST_SEND (R320, R323): the mini-slots claimed on channels A and B. -/
def execBridgeRequestSend (slotA slotB : Fin 118) (s : State) : Host.Outcome State Fault Refusal :=
  onNode s (fun n =>
    let rs := dueRequests (allRequests n)
    if rs.isEmpty || !bridgeOnLine n then n
    else
      let n := sendRecords n slotA.val slotB.val (rs.map Request.record)
      changeRequests n (fun r => rs.any (fun q => q.ord == r.ord)) (fun r => { r with st := .sent, started := true }))

/-- A fetch ends with an error: RESULT 2 timeout, 3 refused (R321, R322). -/
def fetchFailed (n : Node) (r : Request) (result : Nat) : Node :=
  let n := if result = 2 then hbEvt (hbCount n 4) F.HB_EVT_RTMO else hbEvt (hbCount n 5) F.HB_EVT_RREFUSED
  let n := changeRequests n (fun q => q.ord == r.ord) (fun q => { q with st := .failed result 64 })
  if 8 ≤ r.who then resumeRing n (r.who - 8) else n

/-- A write ends with an error (R323): RSTAT, or 7 for a timeout. -/
def writeFailed (n : Node) (r : Request) (rstat : Nat) : Node :=
  let n := hbEvt (hbCount n (if rstat = 7 then 4 else 5)) F.HB_EVT_RWERR
  let n := setRawErr (dropWrite n r.ord) r.addr rstat
  if 8 ≤ r.who then ringWriteEnded n (r.who - 8) (if rstat = 7 then 2 else 3) else n

/-- A BUSY answer: the request is repeated after 2^b cycles (R325). -/
def requestBusy (n : Node) (r : Request) : Node :=
  changeRequests n (fun q => q.ord == r.ord) (fun q => { q with st := .busy (2 ^ min 5 (q.tries + 1)), tries := q.tries + 1 })

/-- Is a request waiting for its answer, or to be repeated? -/
def Request.open_ (r : Request) : Bool :=
  match r.st with
  | .data _ _ | .failed _ _ => false
  | _ => r.started

/-- A READ response (R322): the entry holds the data or the error; a late one is discarded. -/
def readResponse (n : Node) (src : Nat) (r : BridgeRec) : Node :=
  match n.hb.fetch.find? (fun q => q.rseq == r.rseq && q.target == src && q.open_) with
  | none => hbCount n 6
  | some q =>
    if r.rstat = 0 then
      let n := changeRequests (hbCount n 2) (fun x => x.ord == q.ord) (fun x => { x with st := .data (BitVec.ofNat 32 r.data) 64 })
      if 8 ≤ q.who then resumeRing n (q.who - 8) else n
    else if r.rstat = 1 then requestBusy n q
    else fetchFailed n q 3

/-- A WRITE response (R323). -/
def writeResponse (n : Node) (src : Nat) (r : BridgeRec) : Node :=
  match n.hb.writes.find? (fun q => q.rseq == r.rseq && q.target == src && q.open_) with
  | none => hbCount n 6
  | some q =>
    if r.rstat = 0 then
      let n := dropWrite (hbCount n 3) q.ord
      if 8 ≤ q.who then ringWriteEnded n (q.who - 8) 0 else n
    else if r.rstat = 1 then requestBusy n q
    else writeFailed n q r.rstat

/-! ### Serving other nodes (R324 to R326) -/

/-- Answers the node refuses (R324): RSTAT 2, or 3 for a reserved address; 0 serves. -/
def serveStatus (n : Node) (r : BridgeRec) : Nat :=
  let blk := r.addr / 0x100000
  let write := r.op == 2
  if gf n R.HB_CFG F.HB_CFG_TGTEN = 0 || (write && gf n R.HB_CFG F.HB_CFG_TGTWR == 0) then 2
  else if write && ([9, 10, 11, 16].contains blk || (protectedRoles r.addr 0#32).isSome) then 2
  else if !write && blk == 11 then 2
  else if !isRegister (r.addr - r.addr % 4) then 3
  else 0

/-- Perform a request as one register access, and its answer (R324, R326). -/
def serve (n : Node) (src : Nat) (r : BridgeRec) : Node × BridgeRec :=
  let x : Access := { iface := 4 }
  let st := serveStatus n r
  let ans : BridgeRec := { r with op := r.op + 0x80, rstat := st, peer := src }
  if st ≠ 0 then (n, { ans with addr := if r.op = 3 then 0 else r.addr, data := if r.op = 2 then r.data else 0 })
  else
    let n := hbCount n 8
    if r.op = 2 then ((writeReg n x r.addr (BitVec.ofNat 32 r.data)).1, ans)
    else
      let irq := (irqStat n).toNat
      let (n, v) := readReg n x r.addr
      (n, { ans with addr := if r.op = 3 then irq else r.addr, data := v.toNat })

/-- A request is received: served and its answer held, or answered BUSY while 16 are held (R325). -/
def takeRequest (n : Node) (src : Nat) (r : BridgeRec) : Node :=
  if 16 ≤ n.hb.inbound.length then
    let ans : BridgeRec := { r with op := r.op + 0x80, rstat := 1, peer := src, data := 0 }
    withHb (hbCount n 9) (fun h => { h with busyOut := h.busyOut ++ [ans] })
  else
    let (n, ans) := serve n src r
    withHb n (fun h => { h with inbound := h.inbound ++ [ans] })

/-- BRIDGE_RESPONSE_SEND (R324): up to 6 answers, BUSY answers first. -/
def execBridgeResponseSend (slotA slotB : Fin 118) (s : State) : Host.Outcome State Fault Refusal :=
  onNode s (fun n =>
    let rs := (n.hb.busyOut ++ n.hb.inbound).take 6
    if rs.isEmpty || !bridgeOnLine n then n
    else
      let n := sendRecords n slotA.val slotB.val rs
      withHb n (fun h => { h with busyOut := h.busyOut.drop 6, inbound := h.inbound.drop (6 - min 6 h.busyOut.length) }))

/-- A POLL response updates the mirrors (R326); a refusal carries no values. -/
def pollResponse (n : Node) (src : Nat) (r : BridgeRec) : Node :=
  match n.hb.polls.find? (fun p => p.2 == r.rseq && gf n (R.HB_RPCFG p.1) F.HB_RPCFG_NODE == src) with
  | none => n
  | some (k, q) =>
    let n := withHb n (fun h => { h with polls := h.polls.filter (fun p => p.2 != q) })
    if r.rstat ≠ 0 then n
    else
      let old := rd n (R.HB_RPMIRIRQ k)
      let new := BitVec.ofNat 32 r.addr
      let up := (new &&& ~~~ old).toNat
      let n := withHb n (fun h => { h with risen := put 0 h.risen k (look 0 h.risen k ||| up) })
      let n := wr (wr n (R.HB_RPMIRIRQ k) new) (R.HB_RPMIRST k) (BitVec.ofNat 32 r.data)
      hbCount (wr n (R.HB_RPAGE k) 0#32) 11

/-- One received record: only one for this node, and only with a good tag (R320). -/
def takeRecord (n : Node) (c : Nat) (m : Received) (b : List Byte) : Node :=
  let r := parseBridge b
  if r.peer ≠ ownNumber n || ownNumber n = 0 then n
  else if !tagOk n m.cn c 9 m.index 0xFFFD m.src (b.take 16) (b.drop 16) then hbCount n 10
  else if r.op = 1 ∨ r.op = 2 ∨ r.op = 3 then takeRequest n m.src r
  else if r.op = 0x81 then readResponse n m.src r
  else if r.op = 0x82 then writeResponse n m.src r
  else if r.op = 0x83 then pollResponse n m.src r
  else n

/-- The records of a message, 24 bytes each. -/
def bridgeRecords (p : List Byte) : List (List Byte) := (List.range (min 6 (p.length / 24))).map (fun i => cut p (24 * i) 24)

/-- The same records on the other channel in ring and forerunner modes: their tags differ (R57, R320). -/
def sameRecords (m : Received) : Received := { m with payload := (bridgeRecords m.payload).flatMap (fun b => b.take 16) }

/-- A bridge message on channel c whose first record has the OP of the command; every record of it is used. -/
def bridgeMessage (c : Nat) (frame : List Byte) (op : Nat) (s : State) : Host.Outcome State Fault Refusal :=
  onNode s (fun n =>
    if !hears n c frame then n
    else if fType frame ≠ 9 then notPermitted n c frame
    else if be frame 24 1 ≠ op || fStream frame ≠ bridgeStream then n
    else
      match receiveMini n c frame with
      | (n, none) => n
      | (n, some m) =>
        if !hostOn n || m.stream ≠ bridgeStream || msTaken n (sameRecords m) then n
        else (bridgeRecords m.payload).foldl (fun n b => takeRecord n c m b) (takeMs n (sameRecords m)))

/-- BRIDGE_READ_RECEIVED (R324). -/
def execBridgeReadReceived (c : Fin 2) (frame : List Byte) (s : State) : Host.Outcome State Fault Refusal := bridgeMessage c.val frame 1 s
/-- BRIDGE_WRITE_RECEIVED (R324). -/
def execBridgeWriteReceived (c : Fin 2) (frame : List Byte) (s : State) : Host.Outcome State Fault Refusal := bridgeMessage c.val frame 2 s
/-- BRIDGE_POLL_RECEIVED (R326). -/
def execBridgePollReceived (c : Fin 2) (frame : List Byte) (s : State) : Host.Outcome State Fault Refusal := bridgeMessage c.val frame 3 s
/-- BRIDGE_READ_RESPONSE (R322). -/
def execBridgeReadResponse (c : Fin 2) (frame : List Byte) (s : State) : Host.Outcome State Fault Refusal := bridgeMessage c.val frame 0x81 s
/-- BRIDGE_WRITE_RESPONSE (R323). -/
def execBridgeWriteResponse (c : Fin 2) (frame : List Byte) (s : State) : Host.Outcome State Fault Refusal := bridgeMessage c.val frame 0x82 s
/-- BRIDGE_POLL_RESPONSE (R326). -/
def execBridgePollResponse (c : Fin 2) (frame : List Byte) (s : State) : Host.Outcome State Fault Refusal := bridgeMessage c.val frame 0x83 s

/-! ### Time (R322, R325, R326) -/

/-- FETCH_TIMEOUT (R322, R323): every request whose answer has been missing for TMO cycles. -/
def execFetchTimeout (s : State) : Host.Outcome State Fault Refusal :=
  onNode s (fun n =>
    let late := fun (r : Request) => r.open_ && decide (bridgeTmo n ≤ r.age)
    if !hostOn n then n
    else
      let n := (n.hb.fetch.filter late).foldl (fun n r => fetchFailed n r 2) n
      (n.hb.writes.filter late).foldl (fun n r => writeFailed n r 7) n)

/-- Has an entry held its data or its error for 64 cycles? -/
def Request.expired (r : Request) : Bool :=
  match r.st with
  | .data _ 0 | .failed _ 0 => true
  | _ => false

/-- FETCH_ENTRY_EXPIRY (R322): entries that have held their data or error for 64 cycles are freed. -/
def execFetchEntryExpiry (s : State) : Host.Outcome State Fault Refusal :=
  onNode s (fun n => (n.hb.fetch.filter Request.expired).foldl (fun n r => dropFetch (hbCount n 6) r.ord) n)

/-- BUSY_RETRY (R325): requests whose 2^b cycles have passed are to be sent again. -/
def execBusyRetry (s : State) : Host.Outcome State Fault Refusal :=
  onNode s (fun n => changeRequests n (fun r => decide (r.st = .busy 0)) (fun r => { r with st := .due }))

/-- Enabled polls. -/
def enabledPolls (n : Node) : List Nat := (List.range 6).filter (fun k => gf n (R.HB_RPCFG k) F.HB_RPCFG_EN == 1)

/-- POLL_SEND (R326): one record for every enabled entry, together in one mini-slot. -/
def execPollSend (slotA slotB : Fin 118) (s : State) : Host.Outcome State Fault Refusal :=
  onNode s (fun n =>
    let ks := enabledPolls n
    if ks.isEmpty || !bridgeOnLine n then n
    else
      let q := n.hb.rseq
      let ps := (List.range ks.length).map (fun i => (ks.getD i 0, (q + i) % 65536))
      let rs := ps.map (fun (k, q) =>
        ({ op := 3, rseq := q, peer := gf n (R.HB_RPCFG k) F.HB_RPCFG_NODE, addr := (rd n (R.HB_RPADDR k)).toNat } : BridgeRec))
      let n := sendRecords n slotA.val slotB.val rs
      withHb n (fun h => { h with polls := ps, rseq := (q + ks.length) % 65536 }))

/-- POLL_STALE (R326): HB_RPAGE of an entry has reached TMO. -/
def execPollStale (k : Fin 6) (s : State) : Host.Outcome State Fault Refusal :=
  onNode s (fun n =>
    if !n.hb.staleDue.contains k.val then n
    else raise (withHb n (fun h => { h with staleDue := h.staleDue.filter (fun j => j != k.val) })) .g 10 0 R.HB_EVT F.HB_EVT_RPSTALE
      (leBytes 1 k.val))

/-- The boundary: requests, answers held and polls grow one cycle older (R322, R325, R326). -/
def bridgeBoundary (n : Node) : Node :=
  let older := fun (r : Request) =>
    { r with
      age := if r.started then r.age + 1 else r.age
      st := match r.st with
        | .busy (k + 1) => .busy k
        | .data v (k + 1) => .data v k
        | .failed e (k + 1) => .failed e k
        | st => st }
  let n := changeRequests n (fun _ => true) older
  (enabledPolls n).foldl (fun n k =>
    let n := count n (R.HB_RPAGE k)
    if (rd n (R.HB_RPAGE k)).toNat = bridgeTmo n then
      withHb n (fun h => { h with staleDue := if h.staleDue.contains k then h.staleDue else k :: h.staleDue })
    else n) n

/-- Targets of windows chosen by identity are looked up at each epoch commit (R319). -/
def lookupWindows (n : Node) : Node :=
  let one := fun (m : Sparse Nat) (w : Nat) =>
    if gf n (R.HB_RWCFG w) F.HB_RWCFG_SEL = 1 then put 0 m w (numberOf n (rd64 n (R.HB_RWID_LO w) (R.HB_RWID_HI w))) else m
  withHb n (fun h => { h with idTarget := (List.range 512).foldl one [] })

end Sys2Proof.Machine
end

