-- ==== Sys2Proof/Machine/Sessions.lean ====
section
/-! DEFINITION. Sessions, keys, console log-in, lock-out and retirement (spec/12_security.md, R327 to R337, R341). -/

namespace Sys2Proof.Machine

/-! ### Lock-out (R337) -/

/-- Is an interface refusing attempts? -/
def refusing (n : Node) (i : Nat) : Bool := decide (0 < (lockOf n i).remain)

/-- A failed PROVE or log-in (R337): the 5th starts a refusal. -/
def authFailed (n : Node) (i : Nat) : Node :=
  let n := seEvt (seCount n 1) F.SE_EVT_AUTHFAIL
  let n := withSe n (fun e => { e with quiet := put 0 e.quiet i 0 })
  let l := lockOf n i
  if l.fails + 1 < 5 then setLock n i { l with fails := l.fails + 1 }
  else
    let n := setLock n i { fails := 0, level := min 7 (l.level + 1), remain := 60 * 2 ^ min 7 l.level, full := 60 * 2 ^ min 7 l.level }
    raise n .g 11 0 R.SE_EVT F.SE_EVT_LOCKOUT (leBytes 1 i)

/-- A success ends the failure count (R337). -/
def authPassed (n : Node) (i : Nat) : Node := setLock n i { lockOf n i with fails := 0 }

/-- LOCKOUT_EXPIRY (R337): the refusal of interface i ends; `secs`: seconds of the slow counter that passed while no
boundary counted them. -/
def execLockoutExpiry (i : Fin 3) (secs : BitVec 16) (s : State) : Host.Outcome State Fault Refusal :=
  onNode s (fun n =>
    let l := lockOf n i.val
    if lineOn n && refusing n i.val && decide (l.remain ≤ secs.toNat + 1) then setLock n i.val { l with remain := 0 } else n)

/-- LOCKOUT_LEVEL_RESET (R337): 24 h without a failure; `secs` as for LOCKOUT_EXPIRY. -/
def execLockoutLevelReset (i : Fin 3) (secs : BitVec 32) (s : State) : Host.Outcome State Fault Refusal :=
  onNode s (fun n =>
    if lineOn n && decide (86400 ≤ look 0 n.se.quiet i.val + secs.toNat) then setLock n i.val { lockOf n i.val with level := 0 } else n)

/-! ### Opening (R331, R332) -/

/-- A random SESSID: not 0, and no other entry's (R331); the free value is moved past the few numbers in use. -/
def newSessid (n : Node) : Nat × Node :=
  let (v, n) := freshWord n
  let free := fun (k : Nat) => k != 0 && !n.se.sessions.any (fun x => x.id == k)
  (((List.range 10).map (fun i => (v.toNat + i) % 2 ^ 32)).find? free |>.getD 1, n)

/-- 16 random bytes. -/
def newChal (n : Node) : List Byte × Node :=
  let (a, n) := freshWord n
  let (b, n) := freshWord n
  (leBytes 8 a.toNat ++ leBytes 8 b.toNat, n)

/-- Enter a session. -/
def addSession (n : Node) (x : Session) : Node := withSe n (fun e => { e with sessions := e.sessions ++ [x] })

/-- A session has opened. -/
def sessionOpened (n : Node) : Node := seEvt (seCount n 0) F.SE_EVT_SESSOPEN

/-- UID and SESSID as the proofs take them (R332). -/
def uidBe (n : Node) : List Byte := beBytes 8 n.uid.toNat

/-- PROOF, NPROOF and KS (R332). -/
def proofOf (n : Node) (k : List Byte) (x : Session) : List Byte :=
  Config.hmac k (ascii "VT84OPEN" ++ uidBe n ++ beBytes 4 x.id ++ beBytes 1 x.role ++ x.hnonce ++ x.chal)
/-- NPROOF (R332). -/
def nproofOf (n : Node) (k : List Byte) (x : Session) : List Byte :=
  Config.hmac k (ascii "VT84NODE" ++ uidBe n ++ beBytes 4 x.id ++ beBytes 1 x.role ++ x.chal ++ x.hnonce)
/-- KS (R332). -/
def sessionKey (n : Node) (k : List Byte) (x : Session) : List Byte :=
  Config.hmac k (ascii "VT84SKEY" ++ uidBe n ++ beBytes 4 x.id ++ x.hnonce ++ x.chal)

/-- Run the command in progress of ring k when it has this opcode and waits for nothing (R313). -/
def runCommand (k opcode : Nat) (s : State) (f : Node → Cmd → Node) : Host.Outcome State Fault Refusal :=
  onNode s (fun n =>
    match (ring n k).cur with
    | some c => if hostOn n && c.opcode == opcode && decide ((ring n k).wait = .none) then f n c else n
    | none => n)

/-- OPEN (R331). -/
def openCommand (n : Node) (k : Nat) (c : Cmd) : Node :=
  let role := le c.params 0 1
  let i := ringIface k
  if c.params.length ≠ 20 || role = 0 || decide (4 < role) then respond n k 2 []
  else if (keyOf n role).isNone then respond n k 3 []
  else if refusing n i then respond (seCount n 5) k 5 (leBytes 4 (lockOf n i).remain)
  else if 8 ≤ n.se.sessions.length then respond n k 5 (leBytes 4 0)
  else
    let (id, n) := newSessid n
    let (chal, n) := newChal n
    let n := addSession n { id := id, role := role, iface := i, hnonce := cut c.params 4 16, chal := chal, cnOpen := cnNow n, cnLast := cnNow n }
    respond n k 0 (leBytes 4 id ++ chal ++ leBytes 8 n.uid.toNat)

/-- OPEN (R331). -/
def execSessionOpen (k : Fin 8) (s : State) : Host.Outcome State Fault Refusal := runCommand k.val 0x10 s (fun n c => openCommand n k.val c)

/-- PROVE (R332). -/
def proveCommand (n : Node) (k : Nat) (c : Cmd) : Node :=
  let i := ringIface k
  if c.params.length ≠ 36 then respond n k 2 []
  else match session n (le c.params 0 4) with
    | none => respond n k 2 []
    | some x =>
      if x.isOpen || x.iface != i then respond n k 2 []
      else
        let key := (keyOf n x.role).getD []
        if (keyOf n x.role).isSome && proofOf n key x == cut c.params 4 32 then
          let n := setSession n { x with isOpen := true, ks := sessionKey n key x, idle := 0, cnOpen := cnNow n, cnLast := cnNow n }
          respond (authPassed (sessionOpened n) i) k 0 (nproofOf n key x)
        else
          let n := withSe n (fun e => { e with sessions := e.sessions.filter (fun y => y.id != x.id) })
          respond (authFailed n i) k 3 []

/-- PROVE (R332). -/
def execSessionProve (k : Fin 8) (s : State) : Host.Outcome State Fault Refusal := runCommand k.val 0x11 s (fun n c => proveCommand n k.val c)

/-- CLOSE (R335). -/
def execSessionClose (k : Fin 8) (s : State) : Host.Outcome State Fault Refusal :=
  runCommand k.val 0x12 s (fun n c =>
    if !c.params.isEmpty then respond n k.val 2 [] else closeSession (respond n k.val 0 []) c.session 0)

/-- SESSION_PENDING_EXPIRY (R331): entries pending for 16,000 cycles. -/
def execSessionPendingExpiry (s : State) : Host.Outcome State Fault Refusal :=
  onNode s (fun n =>
    let late := n.se.sessions.filter (fun x => !x.isOpen && decide (16000 ≤ x.idle))
    late.foldl (fun n x => seCount (withSe n (fun e => { e with sessions := e.sessions.filter (fun y => y.id != x.id) })) 7) n)

/-- Idle limit of a session in seconds: lower values are treated as 30 (SE_CFG). -/
def idleLimit (n : Node) (x : Session) : Nat :=
  max 30 (gf n R.SE_CFG (if x.iface = 2 then F.SE_CFG_CONIDLE else F.SE_CFG_IDLE))

/-- SESSION_IDLE_CLOSE (R335). -/
def execSessionIdleClose (s : State) : Host.Outcome State Fault Refusal :=
  onNode s (fun n =>
    let late := n.se.sessions.filter (fun x => x.isOpen && decide (8000 * idleLimit n x ≤ x.idle))
    late.foldl (fun n x => closeSession (seCount n 4) x.id 5) n)

/-! ### Keys (R327 to R330) -/

/-- Bytes of a key slot (Table SE-1); none for a KID that is not listed. -/
def keyBytes (kid : Nat) : Option Nat :=
  if (1 ≤ kid ∧ kid ≤ 4) ∨ kid = 9 then some 32 else if kid = 8 then some 64 else if 16 ≤ kid ∧ kid ≤ 19 then some 52 else none

/-- May a session's role set a slot (Table SE-1)? -/
def mayKeyset (n : Node) (role kid : Nat) : Bool :=
  if kid = 4 ∨ kid = 19 then role == 4 || (role == 3 && (keyOf n kid).isNone) else role == 3

/-- Role whose sessions a changed slot closes (R330). -/
def keyRole (kid : Nat) : Nat := if kid ≤ 4 then kid else if 16 ≤ kid then kid - 15 else 0

/-- Set or, with no bytes, erase a key slot in the key area. -/
def putKey (n : Node) (kid : Nat) (kver : BitVec 32) (key : List Byte) (first : Bool) : Node :=
  let a := keyArea n
  let r : KeyRec := if key.isEmpty then {} else { kver := kver, key := key }
  let n := writeKeys n { a with keys := put {} a.keys kid r, provisioned := a.provisioned || first }
  seEvt (seCount n 6) F.SE_EVT_KEYSET

/-- A console password record with a permitted ITER (Table SE-4). -/
def passwordRecordOk (kid : Nat) (key : List Byte) : Bool :=
  decide (kid < 16) || (decide (10000 ≤ le key 16 4) && decide (le key 16 4 ≤ 1000000))

/-- KEYSET (R328 to R330): the session's command, or the first INSTALLER key in plain. -/
def keysetCommand (n : Node) (k : Nat) (c : Cmd) : Node :=
  let kid := le c.params 0 1
  let kver := BitVec.ofNat 32 (le c.params 4 4)
  let data := c.params.drop 8
  if c.params.length < 8 then respond n k 2 []
  else if c.session = 0 then
    if kid ≠ 3 || (keyOf n 3).isSome || ringIface k = 2 then respond n k 3 []
    else if data.length ≠ 32 then respond n k 2 []
    else if nvFailed n then respond n k 5 []
    else respond (putKey n 3 kver data true) k 0 []
  else
    match keyBytes kid with
    | none => respond n k 2 []
    | some len =>
      if !mayKeyset n c.role kid then respond n k 3 []
      else if nvFailed n then respond n k 5 []
      else
        let done := fun (n : Node) => closeSessions (respond n k 0 []) (fun x => x.isOpen && keyRole kid != 0 && x.role == keyRole kid) 1
        if data.isEmpty then (if kid = 3 then respond n k 2 [] else done (putKey n kid 0#32 [] false))
        else if data.length ≠ 8 * ceilDiv len 8 + 8 then respond n k 2 []
        else
          match Config.unwrapKey ((session n c.session).elim [] (fun x => x.ks)) data with
          | none => respond n k 2 []
          | some b =>
            let key := cut b 0 len
            if !passwordRecordOk kid key then respond n k 2 [] else done (putKey n kid kver key false)

/-- KEYSET (R328). -/
def execCmdKeyset (k : Fin 8) (s : State) : Host.Outcome State Fault Refusal := runCommand k.val 0x13 s (fun n c => keysetCommand n k.val c)

/-! ### Retirement (R341) -/

/-- RETIRE in the order of R341. -/
def retireCommand (n : Node) (k : Nat) (c : Cmd) : Node :=
  if c.params.length ≠ 8 || le c.params 0 8 ≠ n.uid.toNat then respond n k 2 []
  else if nvFailed n then respond n k 5 []
  else
    let cn := cnNow n
    let receipt := Config.hmac ((keyOf n 3).getD []) (ascii "VT84RETIRE" ++ uidBe n ++ beBytes 6 cn)
    let n := respond n k 0 (leBytes 6 cn ++ leBytes 2 0 ++ receipt)
    let n := closeSessions n (fun _ => true) 6
    let a := keyArea n
    let blank : KeyArea := { kseq := a.kseq, retired := true, locks := a.locks }
    let n := withCf n (fun x => { x with ka := some blank, kb := some { blank with kseq := a.kseq + 1 } })
    raise n .s 11 0 R.SE_EVT F.SE_EVT_RETIRE (leBytes 6 cn)

/-- RETIRE (R341). -/
def execCmdRetire (k : Fin 8) (s : State) : Host.Outcome State Fault Refusal := runCommand k.val 0x20 s (fun n c => retireCommand n k.val c)

/-! ### The console (R336) -/

/-- Put out text on the console. -/
def consoleText (n : Node) (b : List Byte) : Node := emit n (.bytes b)

/-- The open console session. -/
def consoleSession (n : Node) : Option Session := n.se.sessions.find? (fun x => x.isOpen && x.iface == 2)

/-- A password the console takes: 8 to 64 characters from 0x20 to 0x7E (R336). -/
def passwordForm (p : List Byte) : Bool :=
  decide (8 ≤ p.length) && decide (p.length ≤ 64) && p.all (fun b => decide (0x20 ≤ b.toNat) && decide (b.toNat ≤ 0x7E))

/-- Does a password match the role's record (R336)? -/
def passwordOk (n : Node) (role : Nat) (p : List Byte) : Bool :=
  match keyOf n (15 + role) with
  | none => false
  | some r => passwordForm p && Config.pbkdf2 p (cut r 0 16) (le r 16 4) == cut r 20 32

/-- A log-in at the console (R336, R337). -/
def consoleLogin (n : Node) (role : Nat) (p : List Byte) : Node :=
  let refused := ascii "login refused" ++ crlf ++ prompt
  if refusing n 2 then consoleText (seCount n 5) refused
  else if role = 0 || decide (4 < role) || !passwordOk n role p then consoleText (authFailed n 2) refused
  else
    let n := closeSessions n (fun x => x.isOpen && x.iface == 2) 7
    if 8 ≤ n.se.sessions.length then consoleText n refused
    else
      let (id, n) := newSessid n
      let n := addSession n { id := id, role := role, iface := 2, isOpen := true, cnOpen := cnNow n, cnLast := cnNow n }
      consoleText (authPassed (sessionOpened n) 2) prompt

/-- CONSOLE_LOGIN (R336). -/
def execConsoleLogin (role : Fin 5) (password : List Byte) (s : State) : Host.Outcome State Fault Refusal :=
  onNode s (fun n => if hostOn n then consoleLogin n role.val password else n)

/-- CONSOLE_LOGOUT (R310, R335). -/
def execConsoleLogout (s : State) : Host.Outcome State Fault Refusal :=
  onNode s (fun n => if hostOn n then consoleText (closeSessions n (fun x => x.isOpen && x.iface == 2) 0) prompt else n)

/-- The console session has been used (R335). -/
def touchSession (n : Node) (id : Nat) : Node :=
  match session n id with
  | some x => setSession n { x with idle := 0, cnLast := cnNow n }
  | none => n

/-- An 8-digit entry: against a pending safety block first, then against the reset code (R301, R433). -/
def consoleEntry (n : Node) (v : BitVec 32) (bad : Bool) : Node :=
  let block := n.cf.sp.elim false (fun x => x.check == v)
  let code := n.sa.code.elim false (fun x => x.1 == v)
  if block then spConfirm n bad
  else if code then codeMatch n
  else codeWrong (spEntry n v bad)

/-- CONSOLE_CONFIRM (R301, R433): in a console session of role SAFETY; `bad`: the caddy's read-back differs. -/
def execConsoleConfirm (entry : BitVec 32) (bad : Bool) (s : State) : Host.Outcome State Fault Refusal :=
  onNode s (fun n =>
    if !hostOn n then n
    else match consoleSession n with
      | some x => if x.role = 4 then consoleText (consoleEntry (touchSession n x.id) entry bad) prompt else consoleText n prompt
      | none => consoleText n prompt)

/-- The boundary: sessions grow one cycle idler (R331, R335). -/
def sessionsBoundary (n : Node) : Node :=
  withSe n (fun e => { e with sessions := e.sessions.map (fun x => { x with idle := x.idle + 1 }) })

/-- A second has passed: refusals and quiet times run (R337); the last second of a refusal is LOCKOUT_EXPIRY's. -/
def sessionsSecond (n : Node) : Node :=
  forRange 3 (fun n i =>
    let l := lockOf n i
    let n := withSe n (fun e => { e with quiet := put 0 e.quiet i (look 0 e.quiet i + 1) })
    if 1 < l.remain then setLock n i { l with remain := l.remain - 1 } else n) n

end Sys2Proof.Machine
end

