-- ==== Sys2Proof/Machine/HostCmds.lean ====
section
/-! DEFINITION. The host interfaces' commands: register accesses, the DRAM aperture, resets, QSPI, doorbells, the command
set, the console and the SUMMARY block (R302 to R318, R321, R323). -/

namespace Sys2Proof.Machine

/-! ### Register accesses (R6 to R10, R303, R315) -/

/-- RC_READ (R8, R10): a read of a register by interface 0 (PCI Express) or 1 (QSPI), its word put out. -/
def execRcRead (iface : Fin 2) (addr : BitVec 32) (s : State) : Host.Outcome State Fault Refusal :=
  onNode s (fun n =>
    if !ifaceOn n iface.val || inWindows addr.toNat then n else answerWord (hostRead n iface.val addr.toNat))

/-- REGISTER_WRITE (R8, R9): a direct write by interface 0 or 1, with the effect of the register's access types. -/
def execRegisterWrite (iface : Fin 2) (addr value : BitVec 32) (s : State) : Host.Outcome State Fault Refusal :=
  onNode s (fun n =>
    if !ifaceOn n iface.val || inWindows addr.toNat then n
    else sendInterrupts (hostWrite n iface.val addr.toNat value).1)

/-- RESERVED_ADDRESS_ACCESS (R7): a read (which returns 0) or a write at an address with nothing there, or a write to the
SF view. -/
def execReservedAddressAccess (iface : Fin 2) (addr : BitVec 32) (write : Bool) (s : State) : Host.Outcome State Fault Refusal :=
  onNode s (fun n =>
    let a := addr.toNat - addr.toNat % 4
    if !ifaceOn n iface.val || inWindows a then n
    else if !isRegister a then (if write then reservedEvent n a else answerWord (reservedEvent n a, 0#32))
    else if write && a / 0x100000 == 16 then reservedEvent n a
    else n)

/-- PROTECTED_WRITE (R315): a direct write to a protected register, or to any while WLOCK = 1. -/
def execProtectedWrite (iface : Fin 2) (addr : BitVec 32) (s : State) : Host.Outcome State Fault Refusal :=
  onNode s (fun n =>
    let a := addr.toNat - addr.toNat % 4
    if !ifaceOn n iface.val || !(isRegister a || inWindows a) then n
    else if (protectedRoles a 0#32).isSome || writeLocked n { iface := iface.val } a then protectedWrite n a
    else n)

/-- PARTIAL_WRITE (R303): byte enables neither all set nor all clear. -/
def execPartialWrite (addr : BitVec 32) (enables : BitVec 4) (s : State) : Host.Outcome State Fault Refusal :=
  onNode s (fun n =>
    if !ifaceOn n 0 || enables = 0#4 || enables = 15#4 then n
    else otherEvent (hbCount n 12) .g 10 0 (R.HB_CNT 12) (leBytes 4 addr.toNat))

/-- REMOTE_WINDOW_READ (R321). -/
def execRemoteWindowRead (iface : Fin 2) (addr : BitVec 32) (s : State) : Host.Outcome State Fault Refusal :=
  onNode s (fun n =>
    if ifaceOn n iface.val && inWindows addr.toNat then answerWord (hostRead n iface.val addr.toNat) else n)

/-- REMOTE_WINDOW_WRITE (R323). -/
def execRemoteWindowWrite (iface : Fin 2) (addr value : BitVec 32) (s : State) : Host.Outcome State Fault Refusal :=
  onNode s (fun n =>
    if ifaceOn n iface.val && inWindows addr.toNat then (hostWrite n iface.val addr.toNat value).1 else n)

/-- IRQ_ACK (R318): the vectors are armed again, and the next messages follow at once. -/
def execIrqAck (v : BitVec 16) (s : State) : Host.Outcome State Fault Refusal :=
  onNode s (fun n => if hostOn n then sendInterrupts (irqAck n (v.setWidth 32)) else n)

/-- CMD_DOORBELL (R311, R312). -/
def execCmdDoorbell (iface : Fin 2) (k : Fin 8) (tail : BitVec 24) (s : State) : Host.Outcome State Fault Refusal :=
  onNode s (fun n => if ifaceOn n iface.val then cmdDoorbell n iface.val k.val tail.toNat else n)

/-- RSP_DOORBELL (R311, R312). -/
def execRspDoorbell (iface : Fin 2) (k : Fin 8) (head : BitVec 24) (s : State) : Host.Outcome State Fault Refusal :=
  onNode s (fun n => if ifaceOn n iface.val then rspDoorbell n iface.val k.val head.toNat else n)

/-- RING_FLUSH (R313). -/
def execRingFlush (k : Fin 8) (s : State) : Host.Outcome State Fault Refusal :=
  onNode s (fun n => if hostOn n then ringFlush n k.val else n)

/-! ### The DRAM aperture (R304) -/

/-- DRAM offset of aperture offset x: BASE above 3,840 is treated as 3,840. -/
def apertureAddr (n : Node) (x : Nat) : Nat := min 3840 (gf n R.HB_DWIN F.HB_DWIN_BASE) * 0x100000 + x

/-- DRAM_APERTURE_ACCESS (R304): with data a write, without a read of `len` bytes. -/
def execDramApertureAccess (iface : Fin 2) (off : BitVec 28) (len : Fin 4097) (data : Option (List Byte)) (s : State) :
    Host.Outcome State Fault Refusal :=
  onNode s (fun n =>
    let room := 0x10000000 - off.toNat
    let a := apertureAddr n off.toNat
    if !ifaceOn n iface.val then n
    else match data with
      | some bs => storeDram n a (bs.take room)
      | none => emit n (.bytes (dramRead n a (min len.val room))))

/-! ### Interface resets (R305) -/

/-- The effects of a function level reset. -/
def interfaceReset (n : Node) : Node :=
  let n := forRange 6 ringFlush n
  let n := closeSessions n (fun x => x.iface == 0) 4
  let n := withHb n (fun h => { h with fetch := h.fetch.filter (fun r => r.who != 0), msix := [] })
  let n := ([R.HB_DWIN, R.HB_IRQEN, R.HB_IRQMAP 0, R.HB_IRQMAP 1, R.HB_IRQMAP 2] : List Nat).foldl (fun n a => wr n a (resetValue a)) n
  hbEvt n F.HB_EVT_FLR

/-- FUNCTION_LEVEL_RESET (R305). -/
def execFunctionLevelReset (s : State) : Host.Outcome State Fault Refusal :=
  onNode s (fun n => if ifaceOn n 0 then interfaceReset n else n)

/-- Show the PCI Express link. -/
def showLink (n : Node) (up : Bool) (width speed : Nat) : Node :=
  sf (sf (sflag n R.HB_STAT F.HB_STAT_LINKUP up) R.HB_STAT F.HB_STAT_WIDTH width) R.HB_STAT F.HB_STAT_SPEED speed

/-- PERST_ASSERT (R305): the same, and the link is held down. -/
def execPerstAssert (s : State) : Host.Outcome State Fault Refusal :=
  onNode s (fun n =>
    let n := if hostOn n && !n.hb.perst then interfaceReset n else n
    showLink (withHb n (fun h => { h with perst := true })) false 0 0)

/-- PERST_RELEASE (R305): the link may train again; the lanes and the generation it trains to, none where it stays down. -/
def execPerstRelease (link : Option (Fin 3 × Fin 3)) (s : State) : Host.Outcome State Fault Refusal :=
  onNode s (fun n =>
    let n := withHb n (fun h => { h with perst := false })
    match link with
    | some (w, g) => if hostOn n then showLink n true (2 ^ w.val) (g.val + 1) else n
    | none => n)

/-! ### QSPI (R306 to R308) -/

/-- Address ranges of QSPI: registers and remote windows, or the aperture (R307). -/
def qspiDram (a : Nat) : Bool := decide (0x80000000 ≤ a) && decide (a < 0x90000000)
/-- Registers and remote windows. -/
def qspiReg (a : Nat) : Bool := decide (a < 0x20000000)

/-- One word read through QSPI, and its status bits beside READY: RETRY for a remote word still to come, ERROR for a
remote error or an address that reaches nothing. -/
def qspiWord (n : Node) (a : Nat) : Node × BitVec 32 × Nat :=
  if qspiDram a then (n, BitVec.ofNat 32 (le (dramRead n (apertureAddr n (a - 0x80000000)) 4) 0 4), 0)
  else if !qspiReg a then (n, 0#32, 0x20)
  else
    let (n', v) := hostRead n 1 a
    let r := (look (0, 0) n'.hb.ralast 1).1
    (n', v, if !inWindows a || r = 0 then 0 else if r = 1 ∨ r = 5 then 0x40 else 0x20)

/-- Further words of a READ: a remote window delivers one word, and 0xFF from then on (R308). -/
def qspiWords : Nat → Node → Nat → List Byte → Node × List Byte
  | 0, n, _, out => (n, out)
  | k + 1, n, a, out =>
    if inWindows a then (n, out ++ List.replicate (4 * (k + 1)) 0xFF#8)
    else
      let (n, v, _) := qspiWord n a
      qspiWords k n (a + 4) (out ++ leBytes 4 v.toNat)

/-- Was a word read from an RC register (R308)? -/
def isRc (a : Nat) : Bool := (regSpec (a - a % 4)).elim false (fun r => r.rc != 0)

/-- A READ of another address discards the held word (R308). -/
def dropHeld (n : Node) (a : Nat) : Node :=
  match n.hb.held with
  | some (h, _, rc) =>
    if h = a then n
    else
      let n := withHb n (fun x => { x with held := none })
      if rc then hbEvt n F.HB_EVT_HELDLOST else n
  | none => n

/-- QSPI_CS_N has been asserted. -/
def qspiSeen (n : Node) : Node := withHb n (fun h => { h with qspiAct := true })

/-- QSPI_READ (R306 to R308): `words` data words; `late`: the first word is not ready at the status byte. -/
def qspiRead (n : Node) (a words : Nat) (late : Bool) : Node :=
  let n := dropHeld (qspiSeen n) a
  match n.hb.held with
  | some (_, v, _) =>
    let n := withHb n (fun h => { h with held := none })
    let rest := qspiWords (words - 1) n (a + 4) []
    emit rest.1 (.bytes ([0x80#8] ++ (if words = 0 then [] else leBytes 4 v.toNat) ++ rest.2))
  | none =>
    let (n, v, st) := qspiWord n a
    if late then
      emit (withHb n (fun h => { h with held := some (a, v, isRc a) })) (.bytes ([0x40#8] ++ List.replicate (4 * words) 0xFF#8))
    else
      let rest := if inWindows a then (n, List.replicate (4 * (words - 1)) 0xFF#8) else qspiWords (words - 1) n (a + 4) []
      emit rest.1 (.bytes ([BitVec.ofNat 8 (0x80 + st)] ++ (if words = 0 then [] else leBytes 4 v.toNat) ++ rest.2))

/-- QSPI_READ (R308). -/
def execQspiRead (addr : BitVec 32) (words : Fin 257) (late : Bool) (s : State) : Host.Outcome State Fault Refusal :=
  onNode s (fun n => if hostOn n then qspiRead n (addr.toNat - addr.toNat % 4) words.val late else n)

/-- The words of a WRITE; DROPPED when one was not performed (R306, R307). -/
def qspiStore : List (BitVec 32) → Node → Nat → Bool → Node × Bool
  | [], n, _, dropped => (n, dropped)
  | v :: vs, n, a, dropped =>
    if qspiDram a then qspiStore vs (storeDram n (apertureAddr n (a - 0x80000000)) (leBytes 4 v.toNat)) (a + 4) dropped
    else if !qspiReg a then qspiStore vs n (a + 4) true
    else
      let (n, ok) := hostWrite n 1 a v
      qspiStore vs n (a + 4) (dropped || !ok)

/-- QSPI_WRITE (R307). -/
def execQspiWrite (addr : BitVec 32) (words : List (BitVec 32)) (s : State) : Host.Outcome State Fault Refusal :=
  onNode s (fun n =>
    if !hostOn n then n
    else
      let (n, dropped) := qspiStore words (qspiSeen n) (addr.toNat - addr.toNat % 4) false
      withHb n (fun h => { h with qspiLast := if dropped then 0x90 else 0x80 }))

/-- QSPI_STATUS (R306). -/
def execQspiStatus (s : State) : Host.Outcome State Fault Refusal :=
  onNode s (fun n => if hostOn n then emit (qspiSeen n) (.bytes [BitVec.ofNat 8 n.hb.qspiLast]) else n)

/-! ### The start of a command (R313, R314, R334) -/

/-- Opcodes of Tables HB-6 and SE-3. -/
def opcodes : List Nat := [1, 2, 3, 4, 5, 6, 7, 8, 0x10, 0x11, 0x12, 0x13, 0x20]

/-- Roles a command needs (Table HB-6); none: no session needed. -/
def commandRoles (op : Nat) : Option (List Nat) :=
  if op = 4 ∨ op = 5 ∨ op = 8 ∨ op = 0x12 then some [1, 2, 3, 4] else if op = 0x20 then some [3] else none

/-- Largest result of a command in bytes, from its parameters (R313). -/
def largestResult (op : Nat) (p : List Byte) : Nat :=
  if op = 1 then min 1024 p.length
  else if op = 2 then 4096
  else if op = 3 then 4 + 4 * min 1024 (le p 4 2)
  else if op = 6 then 8 + min 16000 (le p 4 4)
  else if op = 7 then 32 * min 128 (le p 4 2)
  else if op = 0x10 then 28
  else if op = 0x11 then 32
  else if op = 0x20 then 40
  else 4

/-- The fields of a command frame from offset 16 (Table HB-5). -/
structure CmdFrame where
  cmdid : Nat
  opcode : Nat
  tagged : Bool
  session : Nat
  nonce : Nat
  params : List Byte
  tag : List Byte
  covered : List Byte
  /-- LEN agrees with PLEN and TAGGED -/
  lenOk : Bool
  deriving DecidableEq, Repr

/-- Read a command frame. -/
def parseCmd (b : List Byte) : CmdFrame :=
  let plen := le b 20 2
  let tagged := bitOf (le b 6 2) 0
  { cmdid := le b 0 4, opcode := le b 4 2, tagged := tagged, session := le b 8 4, nonce := le b 12 8
    params := (b.drop 24).take plen, tag := cut b (24 + plen) 16, covered := b.take (24 + plen)
    lenOk := b.length == 24 + plen + (if tagged then 16 else 0) }

/-- The command as it runs. -/
def CmdFrame.cmd (f : CmdFrame) (role : Nat) (tagged : Bool) : Cmd :=
  { cmdid := f.cmdid, opcode := f.opcode, session := f.session, role := role, tagged := tagged, params := f.params }

/-- A rejection by tag or nonce (R334): STATUS 4. -/
def rejectCmd (n : Node) (k : Nat) (f : CmdFrame) (x : Session) (replay : Bool) : Node :=
  let n := if replay then seEvt (seCount n 3) F.SE_EVT_REPLAY else seEvt (seCount n 2) F.SE_EVT_TAGFAIL
  let n := setSession n { x with rejects := x.rejects + 1 }
  respond (setRing n k { cur := some (f.cmd x.role true) }) k 4 []

/-- CMD_TAG_CHECK and the checks of R314, in the order session, tag and nonce, opcode, role, length. -/
def startCmd (n : Node) (k : Nat) (f : CmdFrame) : Node :=
  let go := fun (n : Node) (role : Nat) (tagged : Bool) =>
    let n := setRing n k { cur := some (f.cmd role tagged) }
    if !opcodes.contains f.opcode then respond n k 1 []
    else if (commandRoles f.opcode).elim false (fun rs => !rs.contains role) then respond n k 3 []
    else if !f.lenOk then respond n k 2 []
    else n
  if f.session = 0 then
    if f.tagged then respond (setRing n k { cur := some (f.cmd 0 false) }) k 3 [] else go n 0 false
  else
    match (session n f.session).filter (fun x => x.isOpen && x.iface == ringIface k) with
    | none => respond (setRing n k { cur := some (f.cmd 0 false) }) k 3 []
    | some x =>
      if !f.tagged || !f.lenOk || Config.gmac x.ks (tagIv x.id f.nonce) f.covered != f.tag then rejectCmd n k f x false
      else if f.nonce ≤ x.lastNonce || decide (2 ^ 63 ≤ f.nonce) then rejectCmd n k f x true
      else go (setSession n { x with lastNonce := f.nonce, rejects := 0, idle := 0, cnLast := cnNow n }) x.role true

/-- Cells the largest response needs. -/
def responseCells (f : CmdFrame) : Nat := frameCells (24 + 16 + largestResult f.opcode f.params)

/-- COMMAND_START (R313): the head command of ring k, once the response ring has room. -/
def execCommandStart (k : Fin 8) (s : State) : Host.Outcome State Fault Refusal :=
  onNode s (fun n =>
    let k := k.val
    if !hostOn n || k = 7 || ringStopped n k || (ring n k).cur.isSome then n
    else match peekFrame n (cmdQueue k) with
      | none => n
      | some (_, b) =>
        let f := parseCmd b
        if !(desc n (rspQueue k)).room (responseCells f) then n
        else startCmd (popFrame n (cmdQueue k)).1 k f)

/-! ### The command set (Table HB-6) -/

/-- NOP. -/
def execCmdNop (k : Fin 8) (s : State) : Host.Outcome State Fault Refusal :=
  runCommand k.val 1 s (fun n c => if 1024 < c.params.length then respond n k.val 2 [] else respond n k.val 0 c.params)

/-- SUMMARY (R317): captured at the next boundary. -/
def summaryCommand (n : Node) (k : Nat) (c : Cmd) : Node :=
  if !c.params.isEmpty then respond n k 2 [] else waitRing n k .summary

/-- SUMMARY (R317). -/
def execCmdSummary (k : Fin 8) (s : State) : Host.Outcome State Fault Refusal := runCommand k.val 2 s (fun n c => summaryCommand n k.val c)

/-- ADDR and COUNT of REGREAD and REGWRITE are in range (R6, Table HB-6). -/
def countOk (p : List Byte) : Bool := decide (1 ≤ le p 4 2) && decide (le p 4 2 ≤ 1024) && le p 0 4 % 4 == 0

/-- REGREAD (R314, R316). -/
def regreadCommand (n : Node) (k : Nat) (c : Cmd) : Node :=
  if c.params.length ≠ 8 || !countOk c.params then respond n k 2 []
  else runRead (le c.params 4 2) n k (le c.params 0 4) (le c.params 4 2) []

/-- REGREAD (R314). -/
def execCmdRegread (k : Fin 8) (s : State) : Host.Outcome State Fault Refusal := runCommand k.val 3 s (fun n c => regreadCommand n k.val c)

/-- REGWRITE (R314 to R316). -/
def regwriteCommand (n : Node) (k : Nat) (c : Cmd) : Node :=
  let num := le c.params 4 2
  if c.params.length ≠ 8 + 4 * num || !countOk c.params then respond n k 2 []
  else
    let words := (List.range num).map (fun i => BitVec.ofNat 32 (le c.params (8 + 4 * i) 4))
    runWrite (num + 1) n k (le c.params 0 4) words 0

/-- REGWRITE (R315). -/
def execCmdRegwrite (k : Fin 8) (s : State) : Host.Outcome State Fault Refusal := runCommand k.val 4 s (fun n c => regwriteCommand n k.val c)

/-- REGMODIFY (R314): one access to a register of this node; a remote window is out of range (R316). -/
def regmodifyCommand (n : Node) (k : Nat) (c : Cmd) : Node :=
  let a := le c.params 0 4
  if c.params.length ≠ 12 || a % 4 ≠ 0 || inWindows a then respond n k 2 []
  else
    let m := BitVec.ofNat 32 (le c.params 4 4)
    let v := BitVec.ofNat 32 (le c.params 8 4)
    let (n, old) := readReg n (cmdAccess n k) a
    if !isRegister a then respond n k 0 (leBytes 4 0)
    else
      let (n, ok) := writeReg n (cmdAccess n k) a ((old &&& ~~~ m) ||| (v &&& m))
      respond n k (if ok then 0 else 5) (leBytes 4 old.toNat)

/-- REGMODIFY (R314). -/
def execCmdRegmodify (k : Fin 8) (s : State) : Host.Outcome State Fault Refusal := runCommand k.val 5 s (fun n c => regmodifyCommand n k.val c)

/-- IMAGEREAD (R314): the host view as it stands, with the CN of its header. -/
def imagereadCommand (n : Node) (k : Nat) (c : Cmd) : Node :=
  let off := le c.params 0 4
  let len := le c.params 4 4
  if c.params.length ≠ 8 || len % 4 ≠ 0 || decide (len < 4) || decide (16000 < len) || decide (0x20000 < off + len) then respond n k 2 []
  else respond n k 0 (readBytes n.view 0 6 ++ leBytes 2 0
    ++ (List.range len).map (fun i => if off + i < imgEnd then look 0#8 n.view (off + i) else 0#8))

/-- IMAGEREAD (R314). -/
def execCmdImageread (k : Fin 8) (s : State) : Host.Outcome State Fault Refusal := runCommand k.val 6 s (fun n c => imagereadCommand n k.val c)

/-- The records of an area, oldest first (R274, R275). -/
def logArea (n : Node) (area : Nat) : List EventRecord :=
  if area = 0 then n.qm.log.safety.map (fun e => e.record) else n.qm.log.history

/-- LOGREAD (R314): the records held from FIRST on, at most N. -/
def logreadCommand (n : Node) (k : Nat) (c : Cmd) : Node :=
  let area := le c.params 0 1
  let num := le c.params 4 2
  if c.params.length ≠ 6 || decide (1 < area) || num = 0 || decide (128 < num) then respond n k 2 []
  else respond n k 0 ((((logArea n area).drop (le c.params 2 2)).take num).flatMap EventRecord.bytes)

/-- LOGREAD (R314). -/
def execCmdLogread (k : Fin 8) (s : State) : Host.Outcome State Fault Refusal := runCommand k.val 7 s (fun n c => logreadCommand n k.val c)

/-- PROPOSE (R314, R120): answered when the proposal is committed, rejected or timed out. -/
def proposeCommand (n : Node) (k : Nat) (c : Cmd) : Node :=
  let p := c.params
  let op := le p 1 1
  let blen := le p 5 1
  if p.length ≠ 40 || (op ≠ 1 && op ≠ 2) || decide (32 < blen) then respond n k 2 []
  else if !mayPropose n then respond n k 5 (leBytes 2 0 ++ leBytes 1 3 ++ leBytes 1 0)
  else
    let (n, q) := submitProposal n (16 + k) (le p 0 1) op (le p 2 2) (le p 4 1) (cut p 8 blen)
    waitRing n k (.proposal q)

/-- PROPOSE (R314). -/
def execProposeCommand (k : Fin 8) (s : State) : Host.Outcome State Fault Refusal := runCommand k.val 8 s (fun n c => proposeCommand n k.val c)

/-- Responses of the PROPOSE commands whose proposals have a result. -/
def finishProposals (n : Node) : Node :=
  let done := n.inn.cmdDone
  let n := { n with inn := { n.inn with cmdDone := [] } }
  done.foldl (fun n (k, q, result, reason) =>
    if (ring n k).wait = .proposal q then respond n k 0 (leBytes 2 q ++ leBytes 1 result ++ leBytes 1 reason) else n) n

/-! ### The console (Table HB-4) -/

/-- A console command under the console's session (R310, R336): through ring 7, run at once. -/
def consoleCommand (op : Nat) (params : List Byte) (run : Node → Nat → Cmd → Node) (s : State) : Host.Outcome State Fault Refusal :=
  onNode s (fun n =>
    if !hostOn n || (ring n 7).cur.isSome then n
    else
      let x := consoleSession n
      let c : Cmd := { cmdid := 0, opcode := op, session := x.elim 0 (fun x => x.id), role := x.elim 0 (fun x => x.role), tagged := false, params := params }
      let n := throughQueue n (cmdQueue 7) (responseHead c false 0 0 params)
      let n := setRing (touchSession n c.session) 7 { cur := some c }
      if (commandRoles op).elim false (fun rs => !rs.contains c.role) then respond n 7 3 [] else run n 7 c)

/-- CONSOLE_SUMMARY (R310). -/
def execConsoleSummary (s : State) : Host.Outcome State Fault Refusal := consoleCommand 2 [] summaryCommand s
/-- CONSOLE_READ (R310): 1 to 64 words. -/
def execConsoleRead (addr : BitVec 32) (words : Fin 65) (s : State) : Host.Outcome State Fault Refusal :=
  consoleCommand 3 (leBytes 4 addr.toNat ++ leBytes 2 words.val ++ leBytes 2 0) regreadCommand s
/-- CONSOLE_WRITE (R310). -/
def execConsoleWrite (addr value : BitVec 32) (s : State) : Host.Outcome State Fault Refusal :=
  consoleCommand 4 (leBytes 4 addr.toNat ++ leBytes 2 1 ++ leBytes 2 0 ++ leBytes 4 value.toNat) regwriteCommand s
/-- CONSOLE_LOG (R310): area 0 the safety area, 1 the history ring. -/
def execConsoleLog (area : Fin 2) (first num : BitVec 16) (s : State) : Host.Outcome State Fault Refusal :=
  consoleCommand 7 (leBytes 1 area.val ++ leBytes 1 0 ++ leBytes 2 first.toNat ++ leBytes 2 num.toNat) logreadCommand s
/-- CONSOLE_RETIRE (R310): with this node's identity. -/
def execConsoleRetire (s : State) : Host.Outcome State Fault Refusal :=
  consoleCommand 0x20 (leBytes 8 s.node.uid.toNat) retireCommand s

/-! ### The SUMMARY block (R317) -/

/-- Lay fields at their offsets, zeros between them; the fields come in rising order. -/
def layOut : List (Nat × List Byte) → List Byte → List Byte
  | [], b => b
  | (off, x) :: fs, b => layOut fs (b ++ List.replicate (off - b.length) 0#8 ++ x)

/-- Register copies. -/
def regCopies (n : Node) (as : List Nat) : List Byte := as.flatMap (fun a => leBytes 4 (peek n { iface := 5 } a).toNat)

/-- A session entry of the block. -/
def sessionEntry (x : Session) : List Byte :=
  leBytes 4 x.id ++ leBytes 1 x.role ++ leBytes 1 x.iface ++ leBytes 2 0 ++ leBytes 4 x.cnOpen ++ leBytes 4 x.cnLast

/-- The block of Table HB-8. -/
def summaryBlock (n : Node) : List Byte :=
  layOut [
    (0x000, leBytes 4 0x5B4D0001 ++ leBytes 2 1 ++ leBytes 2 4096 ++ leBytes 6 (cnNow n)),
    (0x010, leBytes 4 (nowNs n).toNat ++ regCopies n [R.AC_PARTID, R.AC_REVID]),
    (0x020, leBytes 8 n.uid.toNat ++ leBytes 4 n.hb.sseq),
    (0x040, leBytes 1 (powerState n) ++ leBytes 1 (gf n R.PW_RSTSTAT F.PW_RSTSTAT_KIND)),
    (0x044, regCopies n [R.DU_PAIRSTAT, R.DU_HEALTH, R.DU_STAT] ++ leBytes 4 (n.up / 8000)),
    (0x060, regCopies n [R.IN_STAT, R.IN_EPOCH] ++ leBytes 8 (ownTdom n) ++ leBytes 6 (epochCn n)),
    (0x078, leBytes 8 (imgLeader n) ++ regCopies n [R.TB_STAT, R.TB_OFFSET, R.AC_IMGSTAT, R.LC_PRES 0]),
    (0x0A0, regCopies n [R.CF_STAT, R.CF_CURVER, R.CF_PREVVER, R.CF_SPCUR, R.CF_JSEQ, R.CF_ERR]),
    (0x0C0, n.se.sessions.flatMap sessionEntry),
    (0x140, regCopies n ((List.range 8).map R.AC_DIEHEALTH ++ [R.AC_HEALTHSUM])),
    (0x180, (List.range 4).flatMap (fun p => regCopies n [R.LP_PORTSTAT p, R.LP_PARTNERPORT p, R.TB_LINKDLY p] ++ leBytes 4 0)),
    (0x1C0, (List.range 2).flatMap (fun c => regCopies n [R.LC_STAT c, R.LC_SLUICESTAT c, R.LC_LAP c] ++ leBytes 4 0)),
    (0x200, regCopies n ((List.range 16).map (fun i => R.SF_STAT + 4 * i))),
    (0x240, regCopies n ([R.QM_LOGSTAT, R.QM_LSEQ] ++ (List.range 13).map R.QM_CNT)),
    (0x280, regCopies n [R.HB_STAT, R.HB_RASTAT]
      ++ (List.range 8).flatMap (fun k => leBytes 2 (desc n (cmdQueue k)).fill ++ leBytes 2 (desc n (rspQueue k)).fill)),
    (0x400, n.qm.log.recent.flatMap EventRecord.bytes),
    (0x1000, [])] []

/-- SUMMARY_CAPTURE, step 4 of the boundary: every ring that waits for the block gets it. -/
def captureSummaries (n : Node) : Node :=
  (List.range 8).foldl (fun n k =>
    if (ring n k).wait = .summary then
      let n := withHb n (fun h => { h with sseq := h.sseq + 1 })
      respond n k 0 (summaryBlock n)
    else n) n

/-- The boundary at the host interfaces: results of proposals, and commands that waited for room in the bridge. -/
def hostBoundary (n : Node) : Node := forRange 8 resumeRing (bridgeBoundary (sessionsBoundary (finishProposals n)))

end Sys2Proof.Machine
end

