-- ==== Sys2Proof/Machine/Round.lean ====
section
/-! DEFINITION. The train-wide consent to sleep (spec/16_power_sleep.md, R406 to R415). -/

namespace Sys2Proof.Machine

/-- The payload of an MS_ROUND (Table PW-6). -/
structure RoundMsg where
  op : Nat
  flags : Nat := 0
  rseq : Nat := 0
  parkCn : Nat := 0
  from_ : Nat := 0
  nodes : Nat := 0
  consents : Nat := 0
  ucount : Nat := 0
  mcount : Nat := 0
  unode : Nat := 0
  ureason : Nat := 0
  mreason : Nat := 0
  mnode : Nat := 0
  acks : Nat := 0
  deriving DecidableEq, Repr

/-- IGNM. -/
def RoundMsg.ignm (m : RoundMsg) : Bool := bitOf m.flags 7
/-- DOZE. -/
def RoundMsg.doze (m : RoundMsg) : Bool := bitOf m.flags 6

/-- The 152 bytes before the tag. -/
def RoundMsg.bytes (m : RoundMsg) : List Byte :=
  cut (beBytes 1 m.op ++ beBytes 1 m.flags ++ beBytes 2 m.rseq ++ beBytes 6 m.parkCn ++ beBytes 2 m.from_ ++ beBytes 2 m.nodes
    ++ beBytes 2 m.consents ++ beBytes 2 m.ucount ++ beBytes 2 m.mcount ++ beBytes 2 m.unode ++ beBytes 1 m.ureason
    ++ beBytes 1 m.mreason ++ beBytes 2 m.mnode ++ beBytes 2 m.acks) 0 152

/-- Read a payload. -/
def parseRound (b : List Byte) : RoundMsg :=
  { op := be b 0 1, flags := be b 1 1, rseq := be b 2 2, parkCn := be b 4 6, from_ := be b 10 2, nodes := be b 12 2
    consents := be b 14 2, ucount := be b 16 2, mcount := be b 18 2, unode := be b 20 2, ureason := be b 22 1
    mreason := be b 23 1, mnode := be b 24 2, acks := be b 26 2 }

/-! ### Vetoes (Table PW-7) -/

/-- The class U conditions that hold, lowest code first. -/
def uVetoes (n : Node) : List Nat :=
  let v (f : Field) : Bool := gf n R.PW_VETO f == 1
  ([(1, (List.range 8).any (pairTripped n) || n.sa.lock.isSome), (2, v F.PW_VETO_INTERCOM)
    , (3, gf n R.IN_LOCAL F.IN_LOCAL_ACTCAB == 1), (4, v F.PW_VETO_USER)].filter (·.2)).map (·.1)

/-- The class M conditions that hold, lowest code first. -/
def mVetoes (n : Node) : List Nat :=
  let v (f : Field) : Bool := gf n R.PW_VETO f == 1
  ([(5, n.se.sessions.any (fun x => x.isOpen && decide (2 ≤ x.role))), (6, cfBusy n || cfPending n || n.cf.sp.isSome)
    , (7, v F.PW_VETO_DATA), (8, v F.PW_VETO_MAINT)
    , (9, isStale n || gf n R.IN_STAT F.IN_STAT_JOINING == 1)].filter (·.2)).map (·.1)

/-- The node's vote on a CONSENT (R409). -/
def castVote (n : Node) (m : RoundMsg) : RoundMsg :=
  let u := uVetoes n
  let k := mVetoes n
  let own := ownNumber n
  if u.isEmpty && k.isEmpty then { m with consents := m.consents + 1 }
  else
    let m := if u.isEmpty then m else { m with
      ucount := m.ucount + 1, unode := if m.unode = 0 then own else m.unode
      ureason := if m.unode = 0 then u.headD 0 else m.ureason }
    if k.isEmpty then m else { m with
      mcount := m.mcount + 1, mnode := if m.mnode = 0 then own else m.mnode
      mreason := if m.mnode = 0 then k.headD 0 else m.mreason }

/-! ### Sending and passing (R406, R408) -/

/-- Queue an MS_ROUND: on channel A, and for PARK and CANCEL of the leader in native mode on channel B as well. -/
def sendRound (n : Node) (dest : Nat) (m : RoundMsg) : Node :=
  let n := queueControl n 0 0x0B dest m.bytes
  if (m.op = 3 || m.op = 5) && isNative n then queueControl n 1 0x0B dest m.bytes else n

/-- A round frame with its payload changed and its tag computed again (R87). -/
def rewriteRound (n : Node) (c : Nat) (b : List Byte) (m : RoundMsg) : List Byte :=
  let bare := overlay (headerBare b) 8 (beBytes 2 160)
  overlay b 24 (m.bytes ++ makeTag n (cnOf n c b) c (fType b) (fIndex b) 0xFFFF (fSrc b) (bare ++ m.bytes))

/-- A round frame of one OP passes: verified, changed on the outbound pass (R56), read on the return pass. -/
def passRound (n : Node) (c : Nat) (b : List Byte) (op : Nat) (change : Node → RoundMsg → Node × RoundMsg)
    (read : Node → RoundMsg → Node) : Node :=
  if !hears n c b then n
  else if fType b ≠ 0x0B then notPermitted n c b
  else
    let n := countCrc n (rxPort n c b) b
    let n := noteClaimed (if passesCn n c b then n else cnMismatch n c) c b
    let m := parseRound (cut b 24 152)
    if !usable n c b || m.op ≠ op then (passFrame n c b b true).1
    else if !singleTagOk n c b then (passFrame (tagFailure n c) c b b true).1
    else if fTurned b then
      let (n, seen) := passFrame n c b b true
      if seen then read n m else n
    else if ownNumber n = 0 then (passFrame n c b b true).1
    else
      let (n, m') := change n m
      let (n, seen) := passFrame n c b (if m' = m then b else rewriteRound n c b m') true
      if seen then read n m' else n

/-! ### Requesting (R406) -/

/-- Send the standing request: to the leader, or into the leader's own list. -/
def sendRoundRequest (n : Node) : Node :=
  match n.pw.request with
  | none => n
  | some doze =>
    let n := withPw n (fun p => { p with requestDue := false, retryIn := none })
    if isLeader n then
      withPw n (fun p => { p with held := p.held.filter (fun h => h.1 != ownNumber n) ++ [(ownNumber n, doze)] })
    else if ownNumber n = 0 then withPw n (fun p => { p with requestDue := true })
    else sendRound n 1 { op := 1, flags := 64 * b2n doze, from_ := ownNumber n }

/-- A round of which this node is leader or requester has failed. -/
def roundFailed (n : Node) : Node := withPw (sf n R.PW_EVT F.PW_EVT_ROUNDFAIL 1) (fun p => { p with retryIn := some 0 })

/-- ROUND_TIMER_EXPIRY (R406): TMR minutes without a U condition. -/
def execRoundTimerExpiry (s : State) : Host.Outcome State Fault Refusal :=
  onNode s (fun n =>
    let t := gf n R.PW_SLEEPCFG F.PW_SLEEPCFG_TMR
    if !isRun n || t = 0 || n.pw.quietFor < t * 480000 || !(uVetoes n).isEmpty || n.pw.request.isSome then n
    else sendRoundRequest (withPw n (fun p => { p with request := some (gf n R.PW_SLEEPCFG F.PW_SLEEPCFG_TARGET == 1) })))

/-- RETRY in cycles; 0 is treated as 1 s. -/
def retryCycles (n : Node) : Nat := 8000 * max 1 (gf n R.PW_ROUNDCFG F.PW_ROUNDCFG_RETRY)

/-- ROUND_RETRY_EXPIRY (R406). -/
def execRoundRetryExpiry (s : State) : Host.Outcome State Fault Refusal :=
  onNode s (fun n =>
    match n.pw.retryIn with
    | some t => if lineOn n && n.pw.request.isSome && decide (retryCycles n ≤ t) then sendRoundRequest n else n
    | none => n)

/-- The leader holds a request (R407). -/
def holdRequest (n : Node) (m : RoundMsg) : Node :=
  if isLeader n then withPw n (fun p => { p with held := p.held.filter (fun h => h.1 != m.from_) ++ [(m.from_, m.doze)] }) else n

/-- ROUND_REQUEST_RECEIVED (R407). -/
def execRoundRequestReceived (c : Fin 2) (frame : List Byte) (s : State) : Host.Outcome State Fault Refusal :=
  onNode s (fun n => passRound n c.val frame 1 (fun n m => (n, m)) holdRequest)

/-! ### The two laps (R407 to R412) -/

/-- Lm (R106). -/
def lapMax (n : Node) : Nat := lapCycles (lapNow n)

/-- R407: no inauguration and no other round; every node PRESENT; every port that faces another node forwarding. -/
def mayStartRound (n : Node) : Bool :=
  let k := nodesNow n
  let ports (m : Nat) : Nat := rosterPorts n m
  gf n R.IN_STAT F.IN_STAT_INAUG == 0 && n.inn.inaug.isNone && n.pw.round.isNone && n.pw.park.isNone
    && (List.range k).all (fun i => rosterPresent n (i + 1))
    && (List.range k).all (fun i => bits (ports (i + 1)) 4 4 &&& (15 - bits (ports (i + 1)) 0 4) == 0)

/-- The result of a round, in PW_ROUNDSTAT and PW_ROUNDSTAT2, and the class N event of R410. -/
def showRound (n : Node) (res : Nat) (m : RoundMsg) : Node :=
  let n := wr n R.PW_ROUNDSTAT (BitVec.ofNat 32 (m.unode * 65536 + m.ureason * 256 + res))
  let n := wr n R.PW_ROUNDSTAT2 (BitVec.ofNat 32 (m.mnode * 65536 + m.mreason * 256 + m.rseq % 256))
  otherEvent n .n 15 0 R.PW_ROUNDSTAT (leBytes 2 m.unode ++ leBytes 1 m.ureason ++ leBytes 2 m.mnode ++ leBytes 1 m.mreason)

/-- Propose a value of settings word 3 (R410). -/
def proposeWord3 (n : Node) (v : Nat) : Node := (submitProposal n 2 5 1 3 0 (leBytes 4 v)).1

/-- A round of the leader fails with a result. -/
def failRound (n : Node) (res : Nat) (m : RoundMsg) : Node :=
  let n := withPw (showRound n res m) (fun p => { p with round := none, held := [], consent := [], parkSent := none })
  let n := roundFailed (count n (R.PW_CNT 2))
  if res = 2 then proposeWord3 n 0 else n

/-- A node reads PARK: its request ends, PARKPEND and PARKCN show (R406, R411). -/
def takePark (n : Node) (m : RoundMsg) : Node :=
  let known := match n.pw.park with
    | some (q, _, _) => q == m.rseq
    | none => false
  if known then withPw n (fun p => { p with request := none, requestDue := false, retryIn := none })
  else
    let n := withPw n (fun p => { p with
      asker := p.request.isSome, request := none, requestDue := false, retryIn := none, aborted := false
      park := some (m.rseq, m.parkCn, m.doze) })
    wr64 (sf n R.PW_EVT F.PW_EVT_PARKPEND 1) R.PW_PARKCN_LO R.PW_PARKCN_HI m.parkCn

/-- The CONSENT of a round in progress. -/
def sendConsent (n : Node) : Node :=
  let rseq := (n.pw.rseq + 1) % 65536
  let w3 := setting n 3
  let limit := min 480 (setting n 1) * 480000
  let ignm := decide (w3 ≠ 0) && decide ((limit : Int) ≤ cnDiff (cnNow n) (w3 * 65536))
  let doze := n.pw.held.any (·.2)
  let n := if w3 = 0 then proposeWord3 n (cnNow n / 65536 % 2 ^ 32) else n
  let m := castVote n { op := 2, flags := 128 * b2n ignm + 64 * b2n doze, rseq := rseq, from_ := ownNumber n, nodes := nodesNow n }
  let n := withPw (count n (R.PW_CNT 1)) (fun p => { p with
    rseq := rseq, round := some (rseq, cnNow n, nodesNow n, epochNow n, doze, ignm), shortfall := false
    consent := if nodesNow n ≤ 1 then m.bytes else [] })
  if nodesNow n ≤ 1 then n else sendRound n 0xFFFF m

/-- ROUND_START (R407). -/
def startRound (n : Node) : Node :=
  if n.pw.held.isEmpty || n.pw.round.isSome || n.pw.park.isSome then n
  else if mayStartRound n then sendConsent n
  else sf n R.PW_ROUNDSTAT F.PW_ROUNDSTAT_RESULT 7

/-- The round succeeds: PARK (R411).  The leader's own ACK is in it. -/
def sendPark (n : Node) (rseq nodes : Nat) (doze : Bool) : Node :=
  let notice := max 80 (gf n R.PW_ROUNDCFG F.PW_ROUNDCFG_NOTICE)
  let pcn := cnWrap (cnNow n + 2 * (lapMax n + 1) + notice)
  let m : RoundMsg := { op := 3, flags := 64 * b2n doze, rseq := rseq, parkCn := pcn, from_ := ownNumber n, nodes := nodes, acks := 1 }
  let n := withPw (takePark n m) (fun p => { p with parkSent := some pcn, held := [] })
  if nodes ≤ 1 then n else sendRound n 0xFFFF m

/-- CONSENT_EVALUATE (R410): the token has returned, or Lm + 1 cycles have passed. -/
def evaluateConsent (n : Node) : Node :=
  match n.pw.round with
  | none => n
  | some (rseq, start, nodes, epoch, doze, ignm) =>
    if n.pw.parkSent.isSome then n
    else
      let back := !n.pw.consent.isEmpty
      let m := if back then parseRound n.pw.consent else { op := 2, rseq := rseq }
      if !back && decide (cnDiff (cnNow n) start ≤ (lapMax n + 1 : Nat)) then n
      else if !back || m.consents + m.ucount + m.mcount ≠ nodes then failRound n 4 m
      else if m.ucount > 0 then failRound n 2 m
      else if m.mcount > 0 && !ignm then failRound n 3 m
      else if epoch ≠ epochNow n then failRound n 6 m
      else sendPark (withPw (showRound n 1 m) (fun p => { p with consent := [] })) rseq nodes doze

/-- A CANCEL of the round whose PARK was read (R411). -/
def takeCancel (n : Node) (m : RoundMsg) : Node :=
  match n.pw.park with
  | some (q, _, _) =>
    if q ≠ m.rseq then n
    else
      let failed := isLeader n || n.pw.asker
      let n := withPw n (fun p => { p with park := none, asker := false })
      let n := sf (sf n R.PW_EVT F.PW_EVT_PARKPEND 0) R.PW_EVT F.PW_EVT_CANCELLED 1
      let n := if failed then roundFailed n else n
      if isLeader n then
        let n := withPw n (fun p => { p with round := none, parkSent := none, shortfall := false })
        count (sf n R.PW_ROUNDSTAT F.PW_ROUNDSTAT_RESULT 5) (R.PW_CNT 2)
      else n
  | none => n

/-- The leader sends CANCEL on a shortfall read in time: at or before boundary PARKCN - (Lm + 1) (R411, R412). -/
def cancelRound (n : Node) : Node :=
  match n.pw.round, n.pw.parkSent with
  | some (rseq, _, nodes, _, _, _), some pcn =>
    if n.pw.shortfall && decide (cnDiff (cnNow n) pcn ≤ -((lapMax n + 1 : Nat) : Int)) then
      let m : RoundMsg := { op := 5, rseq := rseq, parkCn := pcn, from_ := ownNumber n, nodes := nodes }
      takeCancel (sendRound n 0xFFFF m) m
    else n
  | _, _ => n

/-- CONSENT read on the return pass: by the leader for its evaluation, and by a requester, which sees a failure. -/
def readConsent (n : Node) (m : RoundMsg) : Node :=
  if isLeader n then
    match n.pw.round with
    | some (rseq, _, _, _, _, _) => if rseq = m.rseq then withPw n (fun p => { p with consent := m.bytes }) else n
    | none => n
  else
    let bad := m.consents + m.ucount + m.mcount ≠ m.nodes || m.ucount > 0 || (m.mcount > 0 && !m.ignm)
    if n.pw.request.isSome && !n.pw.requestDue && bad then roundFailed n else n

/-- CONSENT_RECEIVED (R409). -/
def execConsentReceived (c : Fin 2) (frame : List Byte) (s : State) : Host.Outcome State Fault Refusal :=
  onNode s (fun n => passRound n c.val frame 2 (fun n m => (n, castVote n m)) readConsent)

/-- CONSENT_TIMEOUT (R410): the token has not returned within Lm + 1 cycles. -/
def execConsentTimeout (s : State) : Host.Outcome State Fault Refusal := onNode s (fun n => if isLeader n then evaluateConsent n else n)

/-- PARK_RECEIVED (R411). -/
def execParkReceived (c : Fin 2) (frame : List Byte) (s : State) : Host.Outcome State Fault Refusal :=
  onNode s (fun n => passRound n c.val frame 3 (fun n m => (takePark n m, { m with acks := m.acks + 1 })) takePark)

/-- The leader reads its PARK back (R411): a shortfall is acted on at the next boundary (R127). -/
def readPark (n : Node) (m : RoundMsg) : Node :=
  match n.pw.round with
  | some (rseq, _, nodes, _, _, _) =>
    if isLeader n && rseq = m.rseq then withPw n (fun p => { p with shortfall := p.shortfall || decide (m.acks < nodes) })
    else takePark n m
  | none => takePark n m

/-- PARK_RETURNED (R411). -/
def execParkReturned (c : Fin 2) (frame : List Byte) (s : State) : Host.Outcome State Fault Refusal :=
  onNode s (fun n => passRound n c.val frame 3 (fun n m => (takePark n m, { m with acks := m.acks + 1 })) readPark)

/-- Send ABORT for the park read (R412). -/
def sendAbort (n : Node) : Node :=
  match n.pw.park with
  | some (rseq, pcn, _) =>
    if n.pw.aborted || (uVetoes n).isEmpty || decide (0 ≤ cnDiff (cnNow n) pcn) then n
    else
      let n := withPw n (fun p => { p with aborted := true })
      if isLeader n then withPw n (fun p => { p with shortfall := true })
      else sendRound n 1 { op := 4, rseq := rseq, parkCn := pcn, from_ := ownNumber n }
  | none => n

/-- ROUND_ABORT_SEND (R412). -/
def execRoundAbortSend (s : State) : Host.Outcome State Fault Refusal := onNode s sendAbort

/-- The leader reads ABORT: a shortfall (R412). -/
def readAbort (n : Node) (m : RoundMsg) : Node :=
  match n.pw.round with
  | some (rseq, _, _, _, _, _) =>
    if isLeader n && rseq = m.rseq && n.pw.parkSent.isSome then withPw n (fun p => { p with shortfall := true }) else n
  | none => n

/-- ROUND_ABORT_RECEIVED (R412). -/
def execRoundAbortReceived (c : Fin 2) (frame : List Byte) (s : State) : Host.Outcome State Fault Refusal :=
  onNode s (fun n => passRound n c.val frame 4 (fun n m => (n, m)) readAbort)

/-- CANCEL_RECEIVED (R411). -/
def execCancelReceived (c : Fin 2) (frame : List Byte) (s : State) : Host.Outcome State Fault Refusal :=
  onNode s (fun n => passRound n c.val frame 5 (fun n m => (n, m)) takeCancel)

/-! ### At the boundary (R413 to R415) -/

/-- PARK_BOUNDARY (R413, R414): at PARKCN a node without a U condition parks. -/
def parkBoundary (n : Node) : Node :=
  match n.pw.park with
  | some (_, pcn, doze) =>
    if cnDiff (cnNow n) pcn < 0 then n
    else if (uVetoes n).isEmpty then parkNow n (dozes n doze)
    else withPw n (fun p => { p with park := none, asker := false, round := none, parkSent := none, vetoWake := some 0 })
  | none => n

/-- PARK_VETO_WAKE (R413): no port has been in UP for 20 ms, 160 boundaries. -/
def execParkVetoWake (s : State) : Host.Outcome State Fault Refusal :=
  onNode s (fun n =>
    match n.pw.vetoWake with
    | some t =>
      if t < 160 || anyUp n || !lineOn n then n
      else otherEvent (originateTone (withPw n (fun p => { p with vetoWake := none }))) .n 15 0 R.PW_PARKCN_LO
    | none => n)

/-- ALONE in cycles. -/
def aloneCycles (n : Node) : Nat := 8000 * gf n R.PW_SLEEPCFG F.PW_SLEEPCFG_ALONE

/-- ALONE_EXPIRY (R415). -/
def execAloneExpiry (s : State) : Host.Outcome State Fault Refusal :=
  onNode s (fun n =>
    if !lineOn n || n.pw.failing.isSome || aloneCycles n = 0 || n.pw.aloneFor < aloneCycles n || anyUp n || !(uVetoes n).isEmpty then n
    else parkNow n (dozes n false))

/-- The timers of this chapter count boundaries, and what a boundary decides is decided (R127, R406, R407, R410 to
R415). -/
def roundBoundary (n : Node) : Node :=
  if !lineOn n || n.pw.failing.isSome then n
  else
    let up := anyUp n
    let u := !(uVetoes n).isEmpty
    let n := withPw n (fun p => { p with
      beatLost := if cxAlive n then 0 else p.beatLost + 1
      quietFor := if u || !isRun n then 0 else p.quietFor + 1
      retryIn := p.retryIn.map (· + 1)
      aloneFor := if up || u then 0 else p.aloneFor + 1
      vetoWake := p.vetoWake.map (fun t => if up then 0 else t + 1) })
    if !cxAlive n then n
    else
      let n := if n.pw.requestDue then sendRoundRequest n else n
      let n := if isLeader n then startRound (cancelRound (evaluateConsent n)) else n
      parkBoundary n

end Sys2Proof.Machine
end

