-- ==== Sys2Proof/Machine/Cycle.lean ====
section
/-! DEFINITION. The parts of a local boundary that belong to the line, the time base and the engines: what the cycle that
ends leaves, integration, the new CN, and the latching of registers (R9, R17, R18, R83, R90, R101, R102, R124, R127, R134,
R142, R159, R214, Tables AC-4, IN-2 and CF-9). -/

namespace Sys2Proof.Machine

/-! ### The cycle that ends (R127) -/

/-- What a port shows of the cycle that ends: exchanges (R101, R137), silence (R159), violations (R90). -/
def endPortCycle (n : Node) (p : Nat) : Node :=
  let x := port n p
  let run := if x.exchNow then x.exchRun + 1 else 0
  let n := if 8 ≤ run then sf n (R.TB_LINKDLY p) F.TB_LINKDLY_VALID 1 else n
  let viols := (x.violNow :: x.viols).take 64
  let n := sf n (R.LC_SLUICESTAT (p / 2)) (vcntField p) (viols.count true)
  setPort n p { x with
    exchRun := run, silent := if x.retNow || x.delayNow then 0 else x.silent + 1
    viols := viols, violNow := false }

/-- The quarantine of a port (R90): VLIM violating cycles within 64; QTIME cycles; the end host software asks for. -/
def quarantineBoundary (n : Node) (p : Nat) : Node :=
  let x := port n p
  let limit := gf n (R.LC_SLUICECFG (p / 2)) F.LC_SLUICECFG_VLIM
  match x.quar with
  | some k => if x.quarClear then endQuarantine n p else setPort n p { x with quar := some (k - 1) }
  | none => if limit ≠ 0 && decide (limit ≤ x.viols.count true) then startQuarantine n p else n

/-- What a channel shows of the cycle that ends: waiting messages, claims and yielding (R81, R83). -/
def endChanCycle (n : Node) (c : Nat) : Node :=
  let x := chan n c
  let n := if x.yield && !x.starved then lcCount n c 13 else n
  setChan n c { x with
    claimsC := 0, claimsML := 0, logHist := (0 :: x.logHist).take 16
    waited := if x.waitNow then x.waited + 1 else 0, waitNow := false
    yield := x.yieldRead.getD x.yield, yieldRead := none, tagLogged := false, blockLogged := false }

/-- The leader's count of cycles without a usable roster lane, by node (R124). -/
def countMissing (n : Node) : Node :=
  if !isLeader n then n
  else
    let own := ownNumber n
    withIn n (fun i => { i with roster := (List.range (min (nodesNow n) 512)).foldl (fun m k =>
      let x := look {} m (k + 1)
      put {} m (k + 1) { x with missing := if x.seenNow || k + 1 = own then 0 else x.missing + 1, seenNow := false }) i.roster })

/-- Own lane blocks of a channel without a forwarding port are dropped and counted (R47). -/
def countHeldBlocks (n : Node) : Node :=
  forRange 2 (fun n c =>
    let none_ := if isNative n then !chanFwd n c else !chanFwd n 0 && !chanFwd n 1
    if none_ && role n c ≠ 6 then
      countBy n (R.LC_CNT c 18) (n.mil.ownBlocks.filter (fun e => laneChan e.1 == c)).length
    else n) n

/-- The evaluation at the end of a cycle, on the line. -/
def endLineCycle (n : Node) : Node := forRange 2 endChanCycle (forRange 4 quarantineBoundary (forRange 4 endPortCycle n))

/-- What the boundary has evaluated of the ports and channels starts again. -/
def clearCycle (n : Node) : Node :=
  let n := forRange 4 (fun n p => let x := port n p; setPort n p { x with
    exchNow := false, delayNow := false, delayLast := x.delayNow, retNow := false, csfNow := false, csfLeaderNow := false }) n
  { n with du := { n.du with arbOut := n.du.arbOut.filter (fun x => x.done.isEmpty) } }

/-! ### Integration (R101, R102, R134, R142) -/

/-- Has the integration of a node in INTEGRATE completed (R101)?  The key must have verified (R339). -/
def integrated (n : Node) : Bool :=
  inState n == 3 && gf n R.IN_STAT F.IN_STAT_JOINING == 0 && n.line.key.isSome && gf n R.TB_STAT F.TB_STAT_OFFVALID == 1
    && (List.range 2).any (fun c => portUp n (innerPort n c) && decide (8 ≤ (port n (innerPort n c)).exchRun))

/-- The TDOM of the train whose key the node holds. -/
def trainTdom (n : Node) : Nat := n.line.key.elim 0 (·.tdom)

/-- The step of an integrating node, when its TDOM differs (R95, R141, R142): from the source port's offset, the last
outbound CSF there, and a time service record of the cycle (R148); none while one of these is missing. -/
def stepData (n : Node) : Option (Frac × Stamp × Nat) :=
  match timeSource n with
  | none => none
  | some p =>
    match (port n p).exch, (chan n (p / 2)).rawCsf with
    | e :: _, some (b, _, t) =>
      let cn := (parseCsf b).cn
      if n.tb.recCn = some cn ∧ n.tb.recTdom = trainTdom n then some (e.off, t, cn) else none
    | _, _ => none

/-- JOINING is set; a node that holds a number in the epoch in force is a member (Table IN-2). -/
def joins (n : Node) : Node :=
  let n := sf n R.IN_STAT F.IN_STAT_JOINING 1
  if ownNumber n = 0 then n else setInState n 4

/-- INTEGRATION_COMPLETE and CLOCK_STEP at a boundary. -/
def integration (n : Node) : Node :=
  if !integrated n then n
  else if hasDomain n && trainTdom n == ownTdom n && !n.inn.provisional then joins n
  else match stepData n with
    | none => n
    | some (off, t, cn) => joins (clockStep n off t cn (trainTdom n))

/-- JOINING is cleared at a later boundary at which the node holds a number and is aligned (R102). -/
def endJoining (n : Node) : Node :=
  if inState n = 4 && ownNumber n ≠ 0 && gf n R.TB_STAT F.TB_STAT_ALIGNED = 1 then sf n R.IN_STAT F.IN_STAT_JOINING 0 else n

/-- Step 1 of Table AC-4: the counter reaches the boundary of the next CN (R16, R133, R479). -/
def nextCycle (n : Node) : Node :=
  let cn := cnWrap ((if n.tb.stepNow then max (cnNow n) (domainTime n / 125000) else cnNow n) + 1)
  let n := advance n (ticksTo n (125000 * cn))
  withTb { n with up := n.up + 1 } (fun t => { t with
    cn := BitVec.ofNat 48 cn, boundaryT := 125000 * cn, boundary := BitVec.ofNat 64 ((125000 * cn) % 2 ^ 32 * 2 ^ 32), stepNow := false })

/-- The cold-start leader forms TDOM and steps its counter to 0 at the boundary of CN 0 (R95, R103, R134). -/
def coldStartStep (n : Node) : Node :=
  let tdom := n.uid.toNat % 2 ^ 32 * 2 ^ 32 + n.pw.slow.toNat % 2 ^ 32
  let n := withTb { n with up := n.up + 1 } (fun t => { t with
    counter := 0#64, cn := 0#48, boundary := 0#64, boundaryT := 0, stepNow := true, trev := 0, holdCn := 0 })
  let n := wr64 n R.IN_TDOM_LO R.IN_TDOM_HI tdom
  let n := count (sf (sf n R.TB_STAT F.TB_STAT_STEPPED 1) R.TB_EVT F.TB_EVT_STEP 1) (R.TB_CNT 2)
  let n := switchKey n tdom 0 0
  let n := wr64 n R.IN_EPOCHCN_LO R.IN_EPOCHCN_HI 0
  withIn (refreshRoles n) (fun i => { i with forming := false, wonCn := some 0 })

/-- The next cycle begins. -/
def enterCycle (n : Node) : Node := if n.inn.forming then coldStartStep n else nextCycle n

/-! ### Step 2: registers (R9, R18, R214, Table CF-9) -/

/-- One RW-S write takes effect. -/
def latchOne (n : Node) (w : ShadowWrite) : Node :=
  match elem (R.MK_PROGCFG 0) (R.MK_PROGCFG 1 - R.MK_PROGCFG 0) 512 w.addr with
  | some k => applyProgCfg n k w.value
  | none => { n with force := put (resetValue w.addr) n.force w.addr w.value }

/-- Pending RW-S values latch into every block, each at its own boundary (R18), and what follows from them. -/
def latchWrites (n : Node) : Node :=
  let due := n.shadow.filter (fun w => decide (w.wait ≤ 1))
  let later := (n.shadow.filter (fun w => decide (1 < w.wait))).map (fun w => { w with wait := w.wait - 1 })
  let can := fun (n : Node) (c : Nat) => cbCfg n c F.CB_CFG_EN == 1
  let was := (List.range 4).map (can n)
  let n := due.foldl latchOne { n with shadow := later }
  let has := fun (p : Nat → Bool) => due.any (fun w => p w.addr)
  let n := if has (fun a => decide (0x504000 ≤ a) && decide (a < 0x506000)) then recomputePairing n else n
  let n := forRange 6 (fun n m => if has (fun a => a == R.EM_PREEMPT m) then latchPreempt n m else n) n
  forRange 4 (fun n c => if has (fun a => a == R.CB_CFG c) then latchCanEnable n c (was.getD c false) else n) n

/-- The stamps of the cycle start frames of the cycle just ended (LP_CSFIN, LP_CSFOUT). -/
def latchStamps (n : Node) (p : Nat) : Node :=
  let x := port n p
  let n := match x.csfIn with
    | some f =>
      let n := wr n (R.LP_CSFIN_NS p) (BitVec.ofNat 32 (f.stamp / 256))
      wr n (R.LP_CSFIN_EXT p) (BitVec.ofNat 32 (f.cnlo * 65536 + 256 + f.stamp % 256))
    | none => sf n (R.LP_CSFIN_EXT p) F.LP_CSFIN_EXT_VALID 0
  let n := match x.csfOut with
    | some f =>
      let n := wr n (R.LP_CSFOUT_NS p) (BitVec.ofNat 32 (f.stamp / 256))
      wr n (R.LP_CSFOUT_EXT p) (BitVec.ofNat 32 (f.cnlo * 65536 + 256 + f.stamp % 256))
    | none => sf n (R.LP_CSFOUT_EXT p) F.LP_CSFOUT_EXT_VALID 0
  setPort n p { x with csfIn := none, csfOut := none }

/-- The lap of an originator (LC_LAP); 0 in other roles. -/
def latchLap (n : Node) (c : Nat) : Node :=
  if originates n c then wr n (R.LC_LAP c) (BitVec.ofNat 32 (chan n c).lap)
  else wr (setChan n c { chan n c with sent := [], lap := 0 }) (R.LC_LAP c) 0#32

/-- Is an address one of the words the line die keeps for 16 cycles (R72)? -/
def isLaneCfg (a : Nat) : Bool :=
  let b := if 0x380000 ≤ a then a - 0x80000 else a
  (decide (0x300100 ≤ b) && decide (b < 0x300240)) || (decide (0x301080 ≤ b) && decide (b < 0x301500))
    || (decide (0x504000 ≤ a) && decide (a < 0x506000))

/-- The slot and lane configuration of this boundary is kept for 16 cycles (R72). -/
def keepConfig (n : Node) : Node :=
  { n with line := { n.line with
    cfg := ((⟨cnNow n, n.force.filter (fun e => isLaneCfg e.1)⟩ : CfgSnap) :: n.line.cfg).take 16 } }

/-- Own blocks of the cycle that ended are ready for the containers of the new CN (R72, R206). -/
def readyBlocks (n : Node) : Node :=
  let lanes : Sparse LaneVal := n.mil.ownBlocks.map (fun e => (e.1, { st := .valid, samples := e.2 }))
  let n := { n with line := { n.line with blocks := ((⟨cnNow n, lanes⟩ : BlockSet) :: n.line.blocks).take 16 } }
  { n with mil := { n.mil with ownBlocks := [] } }

/-! ### Live activation (R290, R292, Table CF-9) -/

/-- Boundary A: no run starts, REGTABLE latches, pending firings are discarded; instruction memories, headers and
DATAIMAGE contents are loaded by the boundary A + 4. -/
def activate (n : Node) (a : Nat) : Node :=
  let b := slotBytes n (journal n).cur
  let n := sf n R.CF_STAT F.CF_STAT_ACTPEND 0
  let n := withCf n (fun c => { c with actAt := none, loading := some a, running := b })
  let n := writeTable n (blendRegs b) (fun x => !isProgCfg x)
  let n := loadPrograms (unloadPrograms n) (blendPrograms b)
  let n := placeData n b (fun sp => sp != 2 || isRun n)
  showParams (writeTable n (blendRegs b) isProgCfg)

/-- Boundary A + 4: the new programs start at ENTRY. -/
def activated (n : Node) : Node :=
  raise (count (withCf n (fun c => { c with loading := none })) (R.CF_CNT 4)) .g 9 0 R.CF_EVT F.CF_EVT_ACTIVATED

/-- Live activation at a boundary. -/
def activationBoundary (n : Node) : Node :=
  let n := match n.cf.actAt with
    | some a => if cnDiff (cnNow n) a < 0 then n else activate n a
    | none => n
  match n.cf.loading with
  | some a => if 4 ≤ cnDiff (cnNow n) a then activated n else n
  | none => n

/-! ### Milnak (R209, R215, R221, R226) -/

/-- Period sources fire at each boundary with CN mod SRCARG = 0 (Table MK-13). -/
def firePeriods (n : Node) : Node :=
  let args := (n.mil.progs.filter (fun e => decide (e.2.hdr.kind = .event) && e.2.hdr.srcKind == 3)).map (fun e => e.2.hdr.srcArg)
  (args.eraseDups.filter (fun k => k != 0 && cnNow n % k == 0)).foldl (fun n k => fireUnstated n 3 k) n

/-- Programs at a boundary: restarts (R221), and a new cycle for each. -/
def programsBoundary (n : Node) : Node :=
  { n with mil := { n.mil with progs := n.mil.progs.map (fun e =>
    let p := { e.2 with ranThisCycle := false }
    (e.1, if p.restart then { p with restart := false, fault := false, traps := 0, hasContext := false } else p)) } }

/-- Engines at a boundary: the clocks of the new cycle count from 0; an engine without a run is idle, halted or off. -/
def enginesBoundary (n : Node) : Node :=
  forRange 32 (fun n e =>
    let x := engine n e
    setEngine n e { x with cycleClk := 0, st := if executing x then x.st else restState n e }) n

end Sys2Proof.Machine
end

