-- ==== Sys2Proof/Machine/Boundary.lean ====
section
/-! DEFINITION. The local boundary: the sequence of Table AC-4 and everything this manual ties to a boundary (R17, R22,
R25, R29, R107, R113, R116, R117, R479). -/

namespace Sys2Proof.Machine

/-! ### Step 3: epochs and the image -/

/-- What follows at a coupling port when a merge takes effect: X releases its hold when it has received ACCEPT, and keeps
it otherwise (R117); the next coupling starts from fresh records. -/
def releaseCoupling (n : Node) (p : Nat) (keep : Bool) : Node :=
  let x := port n p
  setPort n p { x with admUsed := 0, coupled := false, accept := false, shut := keep || x.shut }

/-- The commit cycle of the node's yield (R116): it gives up its cycle and integrates into the winner's time domain.
Its image is that of its own segment, so it recovers the image as STALE. -/
def yieldCommit (n : Node) : Node :=
  let n := sf (setInState (setStale n) 3) R.IN_STAT F.IN_STAT_JOINING 0
  let n := forRange 2 (fun n c => setChan n c { chan n c with outCsf := none, retCsf := none, rawCsf := none }) n
  withIn n (fun i => { i with provisional := true })

/-- The state of a node whose new epoch gives it a number, or none (Table IN-2). -/
def stateAfterEpoch (n : Node) : Node :=
  if ownNumber n = 0 then setInState n 3
  else if inState n = 3 && gf n R.IN_STAT F.IN_STAT_JOINING = 1 then setInState n 4 else n

/-- EPOCH_APPLY, YIELD_COMMIT and MERGE_RELEASE of the commit cycle `cc` (R107, R113, R116, R117, R177, R319, R437). -/
def commitEpoch (n : Node) (pr : Prepared) (cc : Nat) (ids : List Nat) : Node :=
  let yielding := yields n pr
  let merge := bitOf pr.flags 3
  let held := coupledPort n
  let refused := merge && !yielding && held.elim false (fun p => !(port n p).accept)
  let n := applyEpoch n pr cc ids
  let n := if cnDiff (cnNow n) cc = 0 then n else setStale n
  let n := match held with
    | some p => if merge then releaseCoupling n p refused else n
    | none => n
  let n := withIn n (fun i => { i with wanted := i.wanted || (refused && pr.number == 1), mergeCheck := merge && pr.number == 1 })
  let n := if yielding then yieldCommit n else stateAfterEpoch n
  updateArbiter (lookupWindows (sfEpoch n))

/-- The prepared epoch takes effect at the boundary of its commit cycle (R107); a plan whose cycle has passed ends. -/
def epochBoundary (n : Node) (ids : List Nat) : Node :=
  let n := match n.inn.prepared with
    | some pr => match pr.commitCn with
      | some cc => if hasDomain n && !n.inn.provisional && decide (0 ≤ cnDiff (cnNow n) cc) then commitEpoch n pr cc ids else n
      | none => n
    | none => n
  let past := fun (m : MergePlan) => decide (0 < cnDiff (cnNow n) m.commitCn)
  withIn n (fun i => { i with yield := i.yield.filter (fun m => !past m), planFwd := i.planFwd.filter (fun m => !past m) })

/-- Step 3 of Table AC-4 (R22, R125, R128, R169). -/
def imageStep (n : Node) (ids : List Nat) : Node :=
  let n := takeSnapshot (commitLists (epochBoundary n ids))
  fireSections (writeHeader (checkMoveTable n))

/-! ### The line plane -/

/-- Segment heads, the loss of the leader, ports and roles (R48, R97, R110, R160, R162). -/
def linePlane (n : Node) : Node :=
  let n := leaderTakeover (forRange 2 segmentHead n)
  let n := refreshRoles (forRange 4 refreshPort (forRange 4 applyPortEnable n))
  let n := collectorPath (refreshHeldQueue n)
  shiftTails (showMoves (tryContend n))

/-! ### Step 4: health words and the host view -/

/-- The host view is refreshed unless it is held (R25, R26). -/
def viewStep (n : Node) : Node :=
  if gf n R.AC_IMGCTL F.AC_IMGCTL_HOLD = 1 then { n with holdRun := n.holdRun + 1 }
  else
    let n := sflag { n with view := n.image, holdRun := 0 } R.AC_IMGSTAT F.AC_IMGSTAT_VALID (hasEpoch n)
    sf n R.AC_IMGSTAT F.AC_IMGSTAT_CNLO (cnNow n % 65536)

/-- Health words, then the view, then the SUMMARY blocks that wait (R29, Table AC-4). -/
def healthStep (n : Node) (b : BoundaryIn) : Node :=
  captureSummaries (viewStep (updateHealth n (b.temps.map BitVec.toNat) (b.ces.map BitVec.toNat)))

/-! ### The other blocks -/

/-- A move between LINE-ONLY and RUN that waits for its boundary.  A standby without the token stays in LINE-ONLY but for
its shadow run (R182, R187). -/
def moveStep (n : Node) : Node :=
  match n.pw.moveTo with
  | none => n
  | some k =>
    let n := withPw n (fun p => { p with moveTo := none })
    if k = 4 then (if isStandby n && n.du.shadow.isNone && n.du.takeoverCn.isNone then n else enterRun n)
    else if k = 3 then leaveRun n else n

/-- Seconds of the caddy and of the sessions, each 8,000 boundaries (R301, R337). -/
def secondStep (n : Node) : Node :=
  if 1 < n.cf.secTick then withCf n (fun c => { c with secTick := c.secTick - 1 })
  else
    sessionsSecond (withCf n (fun c => { c with
      secTick := 8000, sp := c.sp.map (fun x => { x with left := x.left - 1 }) }))

/-- PX takes a delivered safety parameter block into use (R299). -/
def deliverStep (n : Node) : Node :=
  match n.cf.deliver with
  | none => n
  | some b => if sfOn n then withCf (sfApply n b) (fun c => { c with deliver := none }) else n

/-- The safety channel and the load switches, which go on without CX. -/
def pxStep (n : Node) (b : BoundaryIn) : Node := sfBoundary (lsBoundary n (b.ma.map BitVec.toNat))

/-- Power: the slow counter, VHOLD, a failing supply, rounds. -/
def powerStep (n : Node) (b : BoundaryIn) : Node :=
  let n := sf n R.PW_STAT F.PW_STAT_VHOLD b.vhold.toNat
  failBoundary (roundBoundary (showResets (slowRuns n b.slowTicks.toNat)))

/-- Weirs and part-filled log cells (R269, R274). -/
def queueStep (n : Node) : Node := pushLogCells (refillWeirs n)

/-- Milnak at the boundary (R206, R209, R215, R221). -/
def milnakStep (n : Node) : Node := firePeriods (enginesBoundary (programsBoundary n))

/-- The cycle start frames of the channels the node originates (R61). -/
def csfStep (n : Node) (b : BoundaryIn) : Node := forRange 2 (fun n c => csfTransmit n c (cnNow n) (b.egress.getD c 0#40)) n

/-- Does the node present no audio: it has no number, or JOINING is set (R102)? -/
def presentsNothing (n : Node) : Bool := inState n != 4 || ownNumber n == 0 || gf n R.IN_STAT F.IN_STAT_JOINING == 1

/-- The cycle at which the node's segment yields, once it is known (R116, R257). -/
def yieldAt (n : Node) : Option Nat := n.inn.prepared.bind (fun pr => if yields n pr then pr.commitCn else none)

/-- D of the cycle that ended, from the production cycle its pass worked on (R228). -/
def lastDelay (n : Node) : Nat := subMod 48 (cnNow n + 1) n.au.pNow.1

/-! ### The boundary -/

/-- The boundary of a node whose application plane runs. -/
def liveBoundary (n : Node) (b : BoundaryIn) : Node :=
  let n := countMissing (countHeldBlocks (endLineCycle n))
  let ran := programsDone n
  let n := withDu n (fun d => { d with ranAll := ran })
  let joining := gf n R.IN_STAT F.IN_STAT_JOINING == 1
  let before := n.tb.stepNow
  let n := integration n
  let stepped := n.inn.forming || (n.tb.stepNow && !before)
  let n := enterCycle n
  let n := latchWrites (activationBoundary (moveStep n))
  let n := forRange 2 latchLap (forRange 4 latchStamps n)
  let n := keepConfig (imageStep n (b.ids.map BitVec.toNat))
  let n := timeBoundary (linePlane n)
  let n := if joining then endJoining n else n
  let n := healthStep (updateReport n) b
  let n := pairBoundary (captureCheckpoint n)
  let n := milnakStep (readyBlocks n)
  let n := audioBoundary n (lastDelay n) (presentsNothing n) stepped (yieldAt n)
  let n := canBoundary (etherBoundary (starBoundary n))
  let n := deliverStep (secondStep (queueStep n))
  let n := csfStep (clearCycle n) b
  let n := powerStep (pxStep n b) b
  if lineOn n then sendInterrupts (hostBoundary n) else n

/-- The boundary of a node whose application plane has stopped: the line dies, PX and, where only a memory die has
failed, the host interfaces go on (Table AC-7). -/
def stoppedBoundary (n : Node) (b : BoundaryIn) : Node :=
  let n := clearCycle (endLineCycle n)
  let host := hostOn n
  let n := if host then latchWrites (nextCycle n) else { n with up := n.up + 1 }
  let n := refreshRoles n
  let n := if host then healthStep n b else n
  let n := powerStep (pxStep n b) b
  if host && lineOn n then sendInterrupts (hostBoundary n) else n

/-- LOCAL_BOUNDARY (R17, R479): boundaries exist while the time base runs. -/
def execLocalBoundary (b : BoundaryIn) (s : State) : Host.Outcome State Fault Refusal :=
  onNode s (fun n => if !lineOn n || !n.tb.running then n else if cxAlive n then liveBoundary n b else stoppedBoundary n b)

end Sys2Proof.Machine
end

