-- ==== Sys2Proof/Machine/MilnakMem.lean ====
section
/-! DEFINITION. The Milnak instructions that reach memory, the register window and the lanes, and the end of a run
(R193 to R195, R199, R201 to R208, R222, R225, R227; Tables MK-2, MK-3, MK-7, MK-8, MK-10, MK-11). -/

namespace Sys2Proof.Machine

/-! ### Memory -/

/-- The memory and offset an address of engine e stands for, with the DRAM window in force. -/
def place (n : Node) (e a len : Nat) : Option (Space × Nat) :=
  resolve e (ff n (R.MK_ENGCFG e) F.MK_ENGCFG_DWBASE) a len

/-- Clocks of a load or store (Table MK-11).  A register-window store costs its clocks once, when it is performed. -/
def memClocks (n : Node) (e a len : Nat) (store : Bool) : Nat :=
  let own := if store then 1 else 2
  let far := if isV e then 200 else 160
  match place n e a len with
  | some (.ax, _) => if isV e then own else far
  | some (.cx, _) => if isV e then far else own
  | some (.image, _) => if isV e then far else own
  | some (.dram, _) => if isV e then 400 else 320
  | some (.regs, _) => if store then 0 else if isV e then 1000 else 800
  | none => own

/-- Read words of the register window, with the effects of each read (R195). -/
def loadRegs (n : Node) (a : Nat) : Nat → Node × List Byte
  | 0 => (n, [])
  | k + 1 =>
    let (n, v) := readReg n { iface := 3 } a
    let (n, bs) := loadRegs n (a + 4) k
    (n, leBytes 4 v.toNat ++ bs)

/-- Load bytes from the I/O buffer region, unit by unit. -/
def loadIo (n : Node) (off len : Nat) : List Byte :=
  (List.range len).flatMap (fun i => ioLoad n (off + i) 1)

/-- Load bytes from a place (R28, R193, R195, R234). -/
def loadPlace (n : Node) (p : Space × Nat) (len : Nat) : Node × List Byte :=
  match p.1 with
  | .ax => (n, if ioBase ≤ p.2 then loadIo n (p.2 - ioBase) len else readBytes n.mil.axram p.2 len)
  | .cx => (n, readBytes n.mil.cxram p.2 len)
  | .image => (n, img n p.2 len)
  | .dram => (n, dramRead n p.2 len)
  | .regs =>
    let (n, bs) := loadRegs n (p.2 / 4 * 4) (ceilDiv len 4)
    (n, cut bs (p.2 % 4) len)

/-- Store bytes, at most 4 and aligned, in a run of engine e (R195, R207, R225, R234, R260).  Register-window stores
are buffered; a shadow run keeps output-buffer units out of the region. -/
def storePlace (n : Node) (x : Engine) (p : Space × Nat) (bs : List Byte) : Node × Engine :=
  match p.1 with
  | .ax =>
    if p.2 < ioBase then ({ n with mil := { n.mil with axram := writeBytes n.mil.axram p.2 bs } }, x)
    else if inShadow x then (foldDigest n (leBytes 4 p.2 ++ bs), x)
    else
      let off := p.2 - ioBase
      let n := ioStore n off x.prog bs
      let mine := (look (512, false) n.mil.unitWriter (off / 32)).1 == x.prog
      (n, if mine && !x.units.contains (off / 32) then { x with units := x.units ++ [off / 32] } else x)
  | .cx => ({ n with mil := { n.mil with cxram := writeBytes n.mil.cxram p.2 bs } }, x)
  | .image => (n, x)
  | .dram => (storeDram n p.2 bs, x)
  | .regs => (n, { x with stores := x.stores ++ [(p.2, bs.length, BitVec.ofNat 32 (leVal bs))] })

/-- Address of an M-format access (R198). -/
def memAddr (x : Engine) (rs : GReg) (off : BitVec 16) : Nat := (gReg x rs.val + sext16 off).toNat

/-- A scalar load: rd = ext of `len` bytes (R198, R199). -/
def loadOp (i : Issue) (rd rs : GReg) (off : BitVec 16) (len : Nat) (ext : Nat → BitVec 32) (n : Node) : Node :=
  let e := i.engine.val
  let a := memAddr (engine n e) rs off
  issue i false (memClocks n e a len false) (fun n x =>
    match access n e (runHdr n e) a len len false with
    | .error c => .trap c a
    | .ok p =>
      let (n, bs) := loadPlace n p len
      result n x rd (ext (leVal bs))) n

/-- A scalar store of the low `len` bytes of rt (R198, R199). -/
def storeOp (i : Issue) (rt rs : GReg) (off : BitVec 16) (len : Nat) (n : Node) : Node :=
  let e := i.engine.val
  let a := memAddr (engine n e) rs off
  issue i false (memClocks n e a len true) (fun n x =>
    match access n e (runHdr n e) a len len true with
    | .error c => .trap c a
    | .ok p =>
      let (n, x) := storePlace n x p (leBytes len (gReg x rt.val).toNat)
      .done n x) n

/-- LW (R198). -/
def execMkLw (i : Issue) (rd rs : GReg) (off : BitVec 16) (s : State) : Host.Outcome State Fault Refusal :=
  onNode s (loadOp i rd rs off 4 (fun v => BitVec.ofNat 32 v))
/-- LH: sign-extended (R198). -/
def execMkLh (i : Issue) (rd rs : GReg) (off : BitVec 16) (s : State) : Host.Outcome State Fault Refusal :=
  onNode s (loadOp i rd rs off 2 (fun v => BitVec.ofInt 32 (signed 16 v)))
/-- LHU: zero-extended (R198). -/
def execMkLhu (i : Issue) (rd rs : GReg) (off : BitVec 16) (s : State) : Host.Outcome State Fault Refusal :=
  onNode s (loadOp i rd rs off 2 (fun v => BitVec.ofNat 32 v))
/-- LB: sign-extended (R198). -/
def execMkLb (i : Issue) (rd rs : GReg) (off : BitVec 16) (s : State) : Host.Outcome State Fault Refusal :=
  onNode s (loadOp i rd rs off 1 (fun v => BitVec.ofInt 32 (signed 8 v)))
/-- LBU: zero-extended (R198). -/
def execMkLbu (i : Issue) (rd rs : GReg) (off : BitVec 16) (s : State) : Host.Outcome State Fault Refusal :=
  onNode s (loadOp i rd rs off 1 (fun v => BitVec.ofNat 32 v))
/-- SW (R198). -/
def execMkSw (i : Issue) (rt rs : GReg) (off : BitVec 16) (s : State) : Host.Outcome State Fault Refusal :=
  onNode s (storeOp i rt rs off 4)
/-- SH (R198). -/
def execMkSh (i : Issue) (rt rs : GReg) (off : BitVec 16) (s : State) : Host.Outcome State Fault Refusal :=
  onNode s (storeOp i rt rs off 2)
/-- SB (R198). -/
def execMkSb (i : Issue) (rt rs : GReg) (off : BitVec 16) (s : State) : Host.Outcome State Fault Refusal :=
  onNode s (storeOp i rt rs off 1)

/-- VLD: lane k from offset 4k, masked; an address that is a multiple of 4 (R199, R203).  The access is 32 bytes. -/
def execMkVld (i : Issue) (vd : VReg) (rs : GReg) (off : BitVec 16) (s : State) : Host.Outcome State Fault Refusal :=
  onNode s (fun n =>
    let e := i.engine.val
    let a := memAddr (engine n e) rs off
    issue i true (memClocks n e a 32 false) (fun n x =>
      match access n e (runHdr n e) a 32 4 false with
      | .error c => .trap c a
      | .ok p =>
        let (n, bs) := loadPlace n p 32
        .done n (masked x vd.val (fun k => BitVec.ofNat 32 (le bs (4 * k) 4)))) n)

/-- Store the masked lanes of a vector register one after another; the bytes of a lane that is not masked are not
touched (R194, R203). -/
def storeLanes (a vs : Nat) (h : Header) (e : Nat) : List Nat → Node → Engine → Except Nat (Node × Engine)
  | [], n, x => .ok (n, x)
  | k :: ks, n, x =>
    match access n e h (a + 4 * k) 4 4 true with
    | .error c => .error c
    | .ok p =>
      let (n, x) := storePlace n x p (leBytes 4 (vLane x vs k).toNat)
      storeLanes a vs h e ks n x

/-- VST: the masked lanes of vs at offset 4k; an address that is a multiple of 4 (R199, R203). -/
def execMkVst (i : Issue) (vs : VReg) (rs : GReg) (off : BitVec 16) (s : State) : Host.Outcome State Fault Refusal :=
  onNode s (fun n =>
    let e := i.engine.val
    let a := memAddr (engine n e) rs off
    issue i true (memClocks n e a 32 true) (fun n x =>
      if a % 4 ≠ 0 then .trap 2 a
      else match storeLanes a vs.val (runHdr n e) e (which 8 (fun k => bitOf x.lm k)) n x with
        | .error c => .trap c a
        | .ok r => .done r.1 r.2) n)

/-! ### Lanes -/

/-- A lane address as the node takes it: bits 15, 14:8 and 5:0, CHAN as 0 in ring and forerunner modes (R204).  The
other bits, which the rule says are 0, are ignored. -/
def laneOf (n : Node) (v : BitVec 32) : Nat :=
  takeLane n v.toNat

/-- The block LRD reads in a run of the cycle of `x` (R205, R258): that of the cycle's production point, or of an
earlier one for a run that began earlier. -/
def lrdBlock (n : Node) (x : Engine) (a : Nat) : AuBlock :=
  let k := (cnDiff (cnNow n) x.runCn.toNat).toNat
  if k = 0 then (if n.au.pNow.2 then { cyc := n.au.pNow.1, samples := zeroSamples 6 } else laneBlock n a)
  else if n.au.pPrev.2 then { cyc := n.au.pNow.1 - k, samples := zeroSamples 6 }
  else conceal (laneArrived n (n.au.pNow.1 - k - 1, false) a) (laneArrived n (n.au.pNow.1 - k, false) a)

/-- LRD: samples in lanes 0 to 5, the state in lane 6, p[31:0] in lane 7 (R205); not masked.  A lane the node does not
receive reads as null (R232). -/
def execMkLrd (i : Issue) (vd : VReg) (rs : GReg) (s : State) : Host.Outcome State Fault Refusal :=
  onNode s (issue i true 8 (fun n x =>
    let v := gReg x rs.val
    if !laneInRange (lineMode n) (laneSlot v.toNat) (laneNum v.toNat) then .trap 9 v.toNat
    else
      let a := laneOf n v
      let b := lrdBlock n x a
      let (n, b) := if laneReceived n a then (n, b) else (count n (R.AU_CNT 8), { cyc := b.cyc })
      .done n (allLanes x vd.val (fun k =>
        if k < 6 then b.samples.getD k 0#32
        else if k = 6 then BitVec.ofNat 32 b.st.code
        else BitVec.ofNat 32 b.cyc))))

/-- LOUT: contribute lanes 0 to 5 of vs; cycle programs only (R204, R206).  The contribution stands when the run ends
without a trap. -/
def execMkLout (i : Issue) (vs : VReg) (rs : GReg) (s : State) : Host.Outcome State Fault Refusal :=
  onNode s (issue i true 8 (fun n x =>
    let v := gReg x rs.val
    if (runHdr n i.engine.val).kind ≠ .cycle then .trap 1 0
    else if !laneInRange (lineMode n) (laneSlot v.toNat) (laneNum v.toNat) then .trap 9 v.toNat
    else .done n { x with louts := x.louts ++ [(laneOf n v, (List.range 6).map (vLane x vs.val))] }))

/-! ### Proposals -/

/-- The reason with which the proposal of a descriptor is refused; 0 accepts it (R202). -/
def proposalRefusal (n : Node) (d : List Byte) : Nat :=
  if !mayPropose n then 1
  else if 16 ≤ (n.inn.proposals.filter (fun p => p.origin == 1)).length then 2
  else if le d 1 1 = 0 ∨ 2 < le d 1 1 ∨ 32 < le d 5 1 then 3
  else 0

/-- Submit the proposal of a descriptor (R202, Table MK-8): the word returned. -/
def programProposal (n : Node) (d : List Byte) : Node × BitVec 32 :=
  let op := le d 1 1
  let blen := le d 5 1
  let why := proposalRefusal n d
  if why ≠ 0 then (count n (R.MK_CNT 9), BitVec.ofNat 32 why)
  else
    let q := (n.inn.pseq + 1) % 65536
    let n := { n with mil := { n.mil with proposals := ((q, .pending) :: n.mil.proposals).take 64 } }
    let (n, q) := submitProposal n 1 (le d 0 1) op (le d 2 2) (le d 4 1) (cut d 8 blen)
    (n, BitVec.ofNat 32 (0x80000000 + q))

/-- PROPOSE: submit the proposal described at rs (R202).  A shadow run submits nothing and returns 0 (R225). -/
def execMkPropose (i : Issue) (rd rs : GReg) (s : State) : Host.Outcome State Fault Refusal :=
  onNode s (issue i false 40 (fun n x =>
    let e := i.engine.val
    let a := (gReg x rs.val).toNat
    match access n e (runHdr n e) a 40 4 false with
    | .error c => .trap c a
    | .ok p =>
      if inShadow x then result n x rd 0#32
      else
        let (n, d) := loadPlace n p 40
        let (n, v) := programProposal n d
        result n x rd v))

/-! ### The end of a run -/

/-- Perform the run's buffered register-window stores in program order; a store of less than a word changes nothing. -/
def performStores (n : Node) (l : List (Nat × Nat × BitVec 32)) : Node :=
  l.foldl (fun n w => if w.2.1 = 4 then (writeReg n { iface := 3 } w.1 w.2.2).1 else n) n

/-- The bytes of a lane contribution in the digest of a shadow run. -/
def loutBytes (w : Nat × List (BitVec 32)) : List Byte := leBytes 4 w.1 ++ w.2.flatMap (fun v => leBytes 4 v.toNat)

/-- The bytes of a register-window store in the digest of a shadow run. -/
def storeBytes (w : Nat × Nat × BitVec 32) : List Byte := leBytes 4 w.1 ++ leBytes w.2.1 w.2.2.toNat

/-- What a run that ends without a trap leaves (R195, R206, R221, R222, R225, R227): its outputs, its context with the
resume point, and a count of consecutive traps of 0. -/
def finishRun (n : Node) (e : Nat) (x : Engine) (resume : Nat) : Node :=
  let k := x.prog
  let p := prog n k
  let n := saveContext n (k / 16) (k % 16) x resume
  let n := setProg (count n (R.MK_CNT 0)) k { p with traps := 0, hasContext := true }
  let n := setEngine n e x
  let n :=
    if inShadow x then foldDigest n (x.louts.flatMap loutBytes ++ x.stores.flatMap storeBytes)
    else performStores (x.louts.foldl (fun n w => contributeChecked n w.1 w.2) n) x.stores
  let n :=
    if decide (x.st = .selftest) then
      let pass := decide (gReg x 1 = p.hdr.sigexp)
      selftestResult n e pass (if pass then 0 else 0xF)
    else n
  endRun n e

/-- Clocks at the end of a run: the context save, and each register-window store it performs (Table MK-11). -/
def endClocks (n : Node) (e : Nat) : Nat :=
  contextClocks e + (engine n e).stores.length * (if isV e then 1000 else 800)

/-- END: end the run; a cycle program's next run starts at ENTRY (R201, R222). -/
def execMkEnd (i : Issue) (s : State) : Host.Outcome State Fault Refusal :=
  onNode s (fun n =>
    let e := i.engine.val
    issue i false (endClocks n e) (fun n x =>
      let n := finishRun n e x (runHdr n e).entry
      .jump n (engine n e) 0) n)

/-- WAITC: end the run of a cycle program; its next run resumes after this instruction (R201, R222). -/
def execMkWaitc (i : Issue) (s : State) : Host.Outcome State Fault Refusal :=
  onNode s (fun n =>
    let e := i.engine.val
    issue i false (endClocks n e) (fun n x =>
      if (runHdr n e).kind ≠ .cycle then .trap 1 0
      else
        let n := finishRun n e x (x.pc + 1)
        .jump n (engine n e) 0) n)

end Sys2Proof.Machine
end

