-- ==== Sys2Proof/Machine/ServiceSlot.lean ====
section
/-! DEFINITION. The safety, time and arbitration slot, and the frames of an originator (R61, R74 to R80, R147, R148,
R186, R339, R435, R436). -/

namespace Sys2Proof.Machine

/-! ### The time service record (Table TB-1) -/

/-- TQUAL of the node: its bound to node 1 in units of 8 ns. -/
def timeQuality (n : Node) : Nat :=
  let k := ownNumber n
  if isRoot n then 0
  else if k = 0 then 0xFF
  else min 254 (ceilDiv ((k - 1) * (if isFore n then 70 else 17)) 80)

/-- Bytes 0 to 23 of the time service record that the node writes as originator of channel c (R147). -/
def timeRecord (n : Node) (c : Nat) : List Byte :=
  let root := isRoot n
  let flags := 128 * b2n (root && ff n R.TB_CFG F.TB_CFG_EXTREF == 1) + 64 * b2n (isSegHead n c)
  let rate : Int := ((n.tb.incr.toNat : Int) - 2 ^ 33) * 1000000000 / 2 ^ 33
  beBytes 8 (ownTdom n) ++ beBytes 1 flags ++ beBytes 1 (timeQuality n)
    ++ beBytes 2 (if root then n.tb.trev else n.tb.recTrev) ++ beBytes 4 (unsigned 32 rate)
    ++ beBytes 6 (if root then n.tb.holdCn else n.tb.recHold) ++ [0#8, 0#8]

/-- Put the time service record, with its tag, into a service slot (Table LC-16). -/
def putTimeRecord (n : Node) (c cn : Nat) (b : List Byte) : List Byte :=
  let r := timeRecord n c
  orFrameFlags (overlay b 40 (r ++ makeTag n cn c 6 (fIndex b) 0 (ownNumber n) r)) 0x80#8

/-- A time service record with a good tag is read (R148): a member does not use one of another TDOM. -/
def useTimeRecord (n : Node) (cn : Nat) (r : List Byte) : Node :=
  if hasDomain n && be r 0 8 ≠ ownTdom n && !n.inn.provisional then
    sf (count n (R.TB_CNT 5)) R.TB_EVT F.TB_EVT_TDOMMIS 1
  else withTb n (fun t => { t with recTdom := be r 0 8, recTrev := be r 10 2, recHold := be r 16 6, recCn := some cn })

/-! ### Arbitration records (Table DU-7) -/

/-- The first arbitration record of a service slot that carries none. -/
def freeArbSlot (b : List Byte) : Option Nat := (List.range 4).find? (fun i => !bitOf (be b (72 + 16 * i) 1) 7)

/-- Write the first waiting arbitration record that channel c has not carried (R78, Table LC-12). -/
def putArbRecord (n : Node) (c cn : Nat) (b : List Byte) : Node × List Byte :=
  match n.du.arbOut.find? (fun x => !x.done.contains c), freeArbSlot b with
  | some x, some i =>
    let out := n.du.arbOut.map (fun y => if y = x then { y with done := c :: y.done } else y)
    ({ n with du := { n.du with arbOut := out.filter (fun y => decide (y.done.length < 2)) } },
      orFrameFlags (overlay b (72 + 16 * i) (x.body ++ makeTag n cn c 6 (fIndex b) i 0 x.body)) 0x80#8)
  | _, _ => (n, b)

/-- An arbitration record with a good tag waits for the node to act on it; the copy of the other channel is the same
record. -/
def keepArbRecord (n : Node) (cn : Nat) (r : List Byte) : Node :=
  if n.du.arbIn.contains (cn, r) then n else { n with du := { n.du with arbIn := (n.du.arbIn ++ [(cn, r)]).drop (n.du.arbIn.length - 31) } }

/-! ### Safety records (R79, R435, R436) -/

/-- PX writes the node's safety record, in its cycles, on every channel (R20, R79, R435). -/
def putSafetyRecord (n : Node) (c cn : Nat) (b : List Byte) : Node × List Byte :=
  if !writesSafety n then (n, b)
  else match safetySlot (lineMode n) (ownNumber n) cn with
    | none => (n, b)
    | some j =>
      let n := nextSafety n cn
      let own := ownNumber n
      let r := beBytes 1 n.sa.seq ++ beBytes 1 n.sa.seqState ++ beBytes 2 (scrc n.uid.toNat cn n.sa.seq n.sa.seqState)
      (n, orFrameFlags (overlay b (136 + 12 * j) (r ++ makeTag n cn c 6 (fIndex b) own own r)) 0x80#8)

/-- Safety records of a service slot. -/
def safetyCount (mode : Nat) : Nat := if mode = 2 then 64 else 103

/-- Read the safety records of a service slot (R436); an all-zero record is none (R79). -/
def readSafety (n : Node) (c cn : Nat) (b : List Byte) : Node :=
  let p := safetyP (lineMode n)
  forRange (safetyCount (lineMode n)) (fun n j =>
    let r := cut b (136 + 12 * j) 4
    let t := cut b (140 + 12 * j) 8
    let k := j * p + cn % p + 1
    if 512 < k || (r ++ t).all (fun x => x == 0#8) || k == ownNumber n then n
    else
      let ok := fTagged b && tagOk n cn c 6 (fIndex b) k k r t
      let n := if ok then n else tagFailure n c
      acceptSafety n k cn (be r 0 1) (be r 1 1) (be r 2 2) ok) n

/-! ### The slot on its two passes -/

/-- The records the node puts into the service slot on the outbound pass (R78); without a number, none (R102). -/
def writeService (n : Node) (c cn : Nat) (b : List Byte) : Node × List Byte :=
  if ownNumber n = 0 then (n, b)
  else
    let (n, b) := if cxAlive n then putArbRecord n c cn b else (n, b)
    putSafetyRecord n c cn b

/-- R339: a node that integrates and holds no key tries the EPOCH of the cycle's CSF and the TDOM of its record; both
must verify under the key they give. -/
def tryKey (n : Node) (c : Nat) (b : List Byte) : Node :=
  match n.line.kt, (chan n c).rawCsf with
  | some kt, some (raw, _, _) =>
    let f := parseCsf raw
    let r := cut b 40 24
    if inState n ≠ 3 || n.line.key.isSome || crcClass b ≠ .good || fCnlo b ≠ f.cn % 65536 || fEpochlo b ≠ f.epoch % 256 then n
    else
      let k := epochKeyOf kt (be r 0 8) f.epoch
      let recOk := fTagged b && decide (itemTag k f.cn c 6 (fIndex b) 0 (fSrc b) r = cut b 64 8)
      if csfTagUnder k c f.cn raw && recOk then setKey (sf n R.IN_EPOCH F.IN_EPOCH_EPOCH f.epoch) (some k)
      else lcCount n c 3
  | _, _ => n

/-- Read the records of the service slot: time, arbitration, safety. -/
def readService (n : Node) (c : Nat) (b : List Byte) : Node :=
  if !usable n c b then n
  else
    let cn := cnOf n c b
    let idx := fIndex b
    let time := cut b 40 24
    let n :=
      if isUsed n (cn, 6, idx, 0) || originates n c then n
      else if fTagged b && tagOk n cn c 6 idx 0 (fSrc b) time (cut b 64 8) then
        useTimeRecord (markUsed n (cn, 6, idx, 0)) cn time
      else tagFailure n c
    let n := forRange 4 (fun n i =>
      let r := cut b (72 + 16 * i) 8
      if !bitOf (be r 0 1) 7 || isUsed n (cn, 6, idx, i + 1) then n
      else if fTagged b && tagOk n cn c 6 idx i 0 r (cut b (80 + 16 * i) 8) then
        keepArbRecord (markUsed n (cn, 6, idx, i + 1)) cn r
      else tagFailure n c) n
    readSafety n c cn b

/-- SERVICE_SLOT_OUTBOUND (R78). -/
def execServiceSlotOutbound (c : Fin 2) (frame : List Byte) (s : State) : Host.Outcome State Fault Refusal :=
  onNode s (fun n =>
    let c := c.val
    if !hears n c frame then n
    else if fType frame ≠ 6 || fIndex frame ≠ serviceSlot (lineMode n) then notPermitted n c frame
    else
      let n := countCrc n (rxPort n c frame) frame
      if !passesCn n c frame then (passFrame (cnMismatch (tryKey n c frame) c) c frame frame true).1
      else
        let (n, out) := writeService n c (cnOf n c frame) frame
        let (n, read) := passFrame n c frame out true
        if read then readService (tryKey n c (turnedCopy frame out)) c (turnedCopy frame out) else n)

/-- SERVICE_SLOT_RETURN (R78, R148, R339, R436). -/
def execServiceSlotReturn (c : Fin 2) (frame : List Byte) (s : State) : Host.Outcome State Fault Refusal :=
  onNode s (fun n =>
    let c := c.val
    if !hears n c frame then n
    else if fType frame ≠ 6 || fIndex frame ≠ serviceSlot (lineMode n) then notPermitted n c frame
    else
      let n := countCrc n (rxPort n c frame) frame
      let n := tryKey n c frame
      let n := if passesCn n c frame then n else cnMismatch n c
      readService (passFrame n c frame frame true).1 c frame)

/-! ### The frames of an originator (R61) -/

/-- A roster container as the originator sends it, with its own lane (R75, R76). -/
def originRoster (n : Node) (c s cn : Nat) : List Byte :=
  let b := buildContainer (lineMode n) 4 (headerOf n 4 s cn 0 (ownNumber n) (16 * rosterLanes (lineMode n)) 0xFFFF 0) []
  if ownNumber n ≠ 0 && rosterSlotOf (lineMode n) (ownNumber n) = s then withCrc (writeRosterLane n c cn b) false else b

/-- A data container as the originator sends it (R74), with its own frame where it owns the slot. -/
def originData (n : Node) (w : Sparse (BitVec 32)) (c s cn q dest stream : Nat) : Node :=
  let b := buildContainer (lineMode n) 3 (headerOf n 3 s cn 0x40 0 0 0 0) []
  if ownNumber n ≠ 0 && slotOwn w (cfgChan n c) s then
    let (n, b) := writeDataSlot n c b q dest stream
    sendOwn n c (withCrc b false) true
  else sendOwn n c b true

/-- An audio container as the originator sends it, with its own lanes (R70, R72). -/
def originAudio (n : Node) (w : Sparse (BitVec 32)) (c s cn : Nat) : Node :=
  let b := buildFrame (lineMode n) 2 (headerOf n 2 s cn 0 (ownNumber n) (24 * laneCount (lineMode n)) 0xFFFF 0) []
  let (n, b) := mixContainer n w c cn b
  sendOwn (keepLeft n c cn b) c (withCrc b false) true

/-- The service slot as the originator sends it, with its own records (R78, R147). -/
def originService (n : Node) (c cn : Nat) : Node :=
  let mode := lineMode n
  let len := 96 + 12 * safetyCount mode
  let b := buildContainer mode 6 (headerOf n 6 (serviceSlot mode) cn 0x80 (ownNumber n) len 0xFFFF 0) []
  let (n, b) := writeService n c cn (putTimeRecord n c cn b)
  sendOwn n c (withCrc b false) true

/-- The sequencer container of an originator that publishes no list in this cycle: LEN 0 (R77). -/
def originSequencer (n : Node) (c cn : Nat) : Node :=
  let published := match n.inn.published with
    | some (k, _) => k == cn
    | none => false
  if published then n
  else sendOwn n c (buildContainer (lineMode n) 5 (headerOf n 5 (sequencerSlot (lineMode n)) cn 0 (ownNumber n) 0 0xFFFF 0) []) true

/-- A static slot of the cycle; a slot that is unused is not sent (LC_SLOTCFG). -/
def originStatic (n : Node) (c s q dest stream : Nat) : Node :=
  let mode := lineMode n
  let cn := cnNow n
  if s < sequencerSlot mode then sendOwn n c (originRoster n c s cn) true
  else if s = sequencerSlot mode then originSequencer n c cn
  else if s = serviceSlot mode then originService n c cn
  else match cfgAt n cn with
    | none => n
    | some w =>
      if slotKind mode w (cfgChan n c) s = 1 then originAudio n w c s cn
      else if slotKind mode w (cfgChan n c) s = 2 then originData n w c s cn q dest stream
      else n

/-- A mini-slot of the cycle: MS_EMPTY, or a message of the node's own (R80, R82). -/
def originMini (n : Node) (c slot q dest stream : Nat) : Node :=
  let cn := cnNow n
  let empty := buildFrame (lineMode n) 8 (headerOf n 8 slot cn 0 0 0 0 0) []
  match (chan n c).chain with
  | some ch =>
    if ch.nextSlot = slot ∧ ch.cn = cn then continueChain n c ch else sendOwn (abandonChain n c ch) c empty true
  | none =>
    if ownNumber n = 0 || !cxAlive n then sendOwn n c empty true
    else
      let (n, done) := claimSlot n c slot cn q dest stream
      if done then n else sendOwn n c empty true

/-- ORIGINATOR_SLOT_TRANSMIT (R61): position 0 to 79 is a static slot, 80 to 197 mini-slot 0 to 117.  The queue that
feeds an owned data slot or a message, DEST and STREAM are the command's (log entry 10). -/
def execOriginatorSlotTransmit (c : Fin 2) (pos : Fin 198) (queue : Fin 1048576) (dest : BitVec 16) (stream : BitVec 32)
    (s : State) : Host.Outcome State Fault Refusal :=
  onNode s (fun n =>
    let c := c.val
    if !lineOn n || !lineDieOk n c || !originates n c then n
    else if pos.val < 80 then
      (if pos.val < slotCount (lineMode n) then originStatic n c pos.val queue.val dest.toNat stream.toNat else n)
    else if pos.val - 80 < miniCount (lineMode n) then originMini n c (pos.val - 80) queue.val dest.toNat stream.toNat
    else n)

end Sys2Proof.Machine
end

