-- ==== Sys2Proof/Machine/Dispatch.lean ====
section
/-! DEFINITION. The dispatch: one arm per command, each one direct call of its meaning. -/

namespace Sys2Proof.Machine

def exec (i : Instr) (s : State) : Host.Outcome State Fault Refusal :=
  match i with
  | .localBoundary b => Sys2Proof.Machine.execLocalBoundary b s
  | .imageHoldExpiry => Sys2Proof.Machine.execImageHoldExpiry s
  | .dieFailure die cause other => Sys2Proof.Machine.execDieFailure die cause other s
  | .cxHeartbeatStop => Sys2Proof.Machine.execCxHeartbeatStop s
  | .loadSwitchCxLoss => Sys2Proof.Machine.execLoadSwitchCxLoss s
  | .reservedAddressAccess iface addr write => Sys2Proof.Machine.execReservedAddressAccess iface addr write s
  | .registerWrite iface addr value => Sys2Proof.Machine.execRegisterWrite iface addr value s
  | .rcRead iface addr => Sys2Proof.Machine.execRcRead iface addr s
  | .pllLocked p => Sys2Proof.Machine.execPllLocked p s
  | .partnerEnergyDetect p => Sys2Proof.Machine.execPartnerEnergyDetect p s
  | .ratesAgreed p partner10 partner1 => Sys2Proof.Machine.execRatesAgreed p partner10 partner1 s
  | .trainingConverged p => Sys2Proof.Machine.execTrainingConverged p s
  | .blockLockAcquired p => Sys2Proof.Machine.execBlockLockAcquired p s
  | .identitiesExchanged p partner vt6100 partnerChan side => Sys2Proof.Machine.execIdentitiesExchanged p partner vt6100 partnerChan side s
  | .trainingStepFailure p noCommonRate => Sys2Proof.Machine.execTrainingStepFailure p noCommonRate s
  | .backoffExpiry p => Sys2Proof.Machine.execBackoffExpiry p s
  | .linkLoss p midFrame => Sys2Proof.Machine.execLinkLoss p midFrame s
  | .linkDropReceived p midFrame => Sys2Proof.Machine.execLinkDropReceived p midFrame s
  | .reentryHoldExpiry p => Sys2Proof.Machine.execReentryHoldExpiry p s
  | .wakeToneDetect p => Sys2Proof.Machine.execWakeToneDetect p s
  | .wakeBlankingExpiry => Sys2Proof.Machine.execWakeBlankingExpiry s
  | .originatorSlotTransmit c pos queue dest stream => Sys2Proof.Machine.execOriginatorSlotTransmit c pos queue dest stream s
  | .csfReceived p frame ingress egress => Sys2Proof.Machine.execCsfReceived p frame ingress egress s
  | .csfFlywheel c ret => Sys2Proof.Machine.execCsfFlywheel c ret s
  | .upstreamLoss c => Sys2Proof.Machine.execUpstreamLoss c s
  | .audioContainerOutbound c frame => Sys2Proof.Machine.execAudioContainerOutbound c frame s
  | .audioContainerReturn c frame => Sys2Proof.Machine.execAudioContainerReturn c frame s
  | .dataSlotOutbound c frame queue dest stream sink => Sys2Proof.Machine.execDataSlotOutbound c frame queue dest stream sink s
  | .rosterSlotOutbound c frame => Sys2Proof.Machine.execRosterSlotOutbound c frame s
  | .rosterSlotReturn c frame => Sys2Proof.Machine.execRosterSlotReturn c frame s
  | .rosterAbsentExpiry node => Sys2Proof.Machine.execRosterAbsentExpiry node s
  | .sequencerReceived c frame => Sys2Proof.Machine.execSequencerReceived c frame s
  | .serviceSlotOutbound c frame => Sys2Proof.Machine.execServiceSlotOutbound c frame s
  | .serviceSlotReturn c frame => Sys2Proof.Machine.execServiceSlotReturn c frame s
  | .minislotClaim c frame queue dest stream => Sys2Proof.Machine.execMinislotClaim c frame queue dest stream s
  | .minislotMessageReceived c frame queue => Sys2Proof.Machine.execMinislotMessageReceived c frame queue s
  | .starvedSet c => Sys2Proof.Machine.execStarvedSet c s
  | .dreqTransmit p dreqEgress drspEgress => Sys2Proof.Machine.execDreqTransmit p dreqEgress drspEgress s
  | .dreqReceived p frame ingress => Sys2Proof.Machine.execDreqReceived p frame ingress s
  | .drspReceived p frame ingress rawTicks => Sys2Proof.Machine.execDrspReceived p frame ingress rawTicks s
  | .receivedFrameViolation p kind => Sys2Proof.Machine.execReceivedFrameViolation p kind s
  | .quarantineExpiry p => Sys2Proof.Machine.execQuarantineExpiry p s
  | .quarantineClearWrite p => Sys2Proof.Machine.execQuarantineClearWrite p s
  | .previousKeyExpiry => Sys2Proof.Machine.execPreviousKeyExpiry s
  | .linkWaitExpiry => Sys2Proof.Machine.execLinkWaitExpiry s
  | .fallbackWaitExpiry => Sys2Proof.Machine.execFallbackWaitExpiry s
  | .beaconSend => Sys2Proof.Machine.execBeaconSend s
  | .beaconReceived p frame => Sys2Proof.Machine.execBeaconReceived p frame s
  | .beaconWindowExpiry => Sys2Proof.Machine.execBeaconWindowExpiry s
  | .formwaitExpiry => Sys2Proof.Machine.execFormwaitExpiry s
  | .prepareSend slotA slotB => Sys2Proof.Machine.execPrepareSend slotA slotB s
  | .prepareReceived c frame => Sys2Proof.Machine.execPrepareReceived c frame s
  | .segmentHeadPrepareCopy c slot => Sys2Proof.Machine.execSegmentHeadPrepareCopy c slot s
  | .ringBCopyComplete slot => Sys2Proof.Machine.execRingBCopyComplete slot s
  | .prepareReturned c frame => Sys2Proof.Machine.execPrepareReturned c frame s
  | .prepareReturnTimeout => Sys2Proof.Machine.execPrepareReturnTimeout s
  | .commitSend slotA slotB => Sys2Proof.Machine.execCommitSend slotA slotB s
  | .commitReceived c frame => Sys2Proof.Machine.execCommitReceived c frame s
  | .admissionRecordSend p => Sys2Proof.Machine.execAdmissionRecordSend p s
  | .admissionRecordReceived p record => Sys2Proof.Machine.execAdmissionRecordReceived p record s
  | .coupleSend p => Sys2Proof.Machine.execCoupleSend p s
  | .coupleReceived c frame => Sys2Proof.Machine.execCoupleReceived c frame s
  | .mergePrepareSend slotA slotB => Sys2Proof.Machine.execMergePrepareSend slotA slotB s
  | .planReceived c frame => Sys2Proof.Machine.execPlanReceived c frame s
  | .proposalSubmit value => Sys2Proof.Machine.execProposalSubmit value s
  | .proposalReceived c frame => Sys2Proof.Machine.execProposalReceived c frame s
  | .commitListPublish => Sys2Proof.Machine.execCommitListPublish s
  | .proposalTimeout pseq => Sys2Proof.Machine.execProposalTimeout pseq s
  | .resyncSend => Sys2Proof.Machine.execResyncSend s
  | .resyncReceived c frame => Sys2Proof.Machine.execResyncReceived c frame s
  | .snapChainSend slotA slotB => Sys2Proof.Machine.execSnapChainSend slotA slotB s
  | .snapReceived c frame => Sys2Proof.Machine.execSnapReceived c frame s
  | .snapMissed => Sys2Proof.Machine.execSnapMissed s
  | .holdoverEntry => Sys2Proof.Machine.execHoldoverEntry s
  | .nsWrap => Sys2Proof.Machine.execNsWrap s
  | .toutArm num periodic activeLow => Sys2Proof.Machine.execToutArm num periodic activeLow s
  | .toutDisarm num => Sys2Proof.Machine.execToutDisarm num s
  | .toutPulseStart num => Sys2Proof.Machine.execToutPulseStart num s
  | .toutPulseEnd num => Sys2Proof.Machine.execToutPulseEnd num s
  | .tcapEdge num rise ns => Sys2Proof.Machine.execTcapEdge num rise ns s
  | .tcapHiRead num => Sys2Proof.Machine.execTcapHiRead num s
  | .tcapLoRead num => Sys2Proof.Machine.execTcapLoRead num s
  | .incrLoRead => Sys2Proof.Machine.execIncrLoRead s
  | .nowNsRead => Sys2Proof.Machine.execNowNsRead s
  | .returnLoss p => Sys2Proof.Machine.execReturnLoss p s
  | .moveQuery value => Sys2Proof.Machine.execMoveQuery value s
  | .pairFormTimeout => Sys2Proof.Machine.execPairFormTimeout s
  | .neighbourSignalSend p => Sys2Proof.Machine.execNeighbourSignalSend p s
  | .neighbourSignalReceived p signal => Sys2Proof.Machine.execNeighbourSignalReceived p signal s
  | .pairRecordReceived record => Sys2Proof.Machine.execPairRecordReceived record s
  | .grantReceived => Sys2Proof.Machine.execGrantReceived s
  | .noArbiterTakeover => Sys2Proof.Machine.execNoArbiterTakeover s
  | .checkpointSend => Sys2Proof.Machine.execCheckpointSend s
  | .checkpointReceived checkpoint => Sys2Proof.Machine.execCheckpointReceived checkpoint s
  | .revdlyExpiry => Sys2Proof.Machine.execRevdlyExpiry s
  | .handbackRequest => Sys2Proof.Machine.execHandbackRequest s
  | .handbackRequestRepeat => Sys2Proof.Machine.execHandbackRequestRepeat s
  | .arbRequestReceived => Sys2Proof.Machine.execArbRequestReceived s
  | .declineReceived => Sys2Proof.Machine.execDeclineReceived s
  | .handoverReceived => Sys2Proof.Machine.execHandoverReceived s
  | .pairRetry => Sys2Proof.Machine.execPairRetry s
  | .linePathBist c failed => Sys2Proof.Machine.execLinePathBist c failed s
  | .dramScrub ce0 ce1 uncorrectable => Sys2Proof.Machine.execDramScrub ce0 ce1 uncorrectable s
  | .standbyMilnakSelftest => Sys2Proof.Machine.execStandbyMilnakSelftest s
  | .cycleProgramStart k => Sys2Proof.Machine.execCycleProgramStart k s
  | .eventProgramStart e => Sys2Proof.Machine.execEventProgramStart e s
  | .mkOverrun e => Sys2Proof.Machine.execMkOverrun e s
  | .programRestart k => Sys2Proof.Machine.execProgramRestart k s
  | .eventPost num => Sys2Proof.Machine.execEventPost num s
  | .selftestRequest e => Sys2Proof.Machine.execSelftestRequest e s
  | .mkIllegal num word => Sys2Proof.Machine.execMkIllegal num word s
  | .mkAdd num rd rs rt => Sys2Proof.Machine.execMkAdd num rd rs rt s
  | .mkSub num rd rs rt => Sys2Proof.Machine.execMkSub num rd rs rt s
  | .mkAnd num rd rs rt => Sys2Proof.Machine.execMkAnd num rd rs rt s
  | .mkOr num rd rs rt => Sys2Proof.Machine.execMkOr num rd rs rt s
  | .mkXor num rd rs rt => Sys2Proof.Machine.execMkXor num rd rs rt s
  | .mkSll num rd rs rt => Sys2Proof.Machine.execMkSll num rd rs rt s
  | .mkSrl num rd rs rt => Sys2Proof.Machine.execMkSrl num rd rs rt s
  | .mkSra num rd rs rt => Sys2Proof.Machine.execMkSra num rd rs rt s
  | .mkSlt num rd rs rt => Sys2Proof.Machine.execMkSlt num rd rs rt s
  | .mkSltu num rd rs rt => Sys2Proof.Machine.execMkSltu num rd rs rt s
  | .mkMul num rd rs rt => Sys2Proof.Machine.execMkMul num rd rs rt s
  | .mkMulh num rd rs rt => Sys2Proof.Machine.execMkMulh num rd rs rt s
  | .mkMulhu num rd rs rt => Sys2Proof.Machine.execMkMulhu num rd rs rt s
  | .mkAdds num rd rs rt => Sys2Proof.Machine.execMkAdds num rd rs rt s
  | .mkSubs num rd rs rt => Sys2Proof.Machine.execMkSubs num rd rs rt s
  | .mkMin num rd rs rt => Sys2Proof.Machine.execMkMin num rd rs rt s
  | .mkMax num rd rs rt => Sys2Proof.Machine.execMkMax num rd rs rt s
  | .mkClz num rd rs => Sys2Proof.Machine.execMkClz num rd rs s
  | .mkDivu num rd rs rt => Sys2Proof.Machine.execMkDivu num rd rs rt s
  | .mkRemu num rd rs rt => Sys2Proof.Machine.execMkRemu num rd rs rt s
  | .mkSlli num rd rs sh => Sys2Proof.Machine.execMkSlli num rd rs sh s
  | .mkSrli num rd rs sh => Sys2Proof.Machine.execMkSrli num rd rs sh s
  | .mkSrai num rd rs sh => Sys2Proof.Machine.execMkSrai num rd rs sh s
  | .mkMulq num rd rs rt => Sys2Proof.Machine.execMkMulq num rd rs rt s
  | .mkAddi num rd rs imm => Sys2Proof.Machine.execMkAddi num rd rs imm s
  | .mkAndi num rd rs imm => Sys2Proof.Machine.execMkAndi num rd rs imm s
  | .mkOri num rd rs imm => Sys2Proof.Machine.execMkOri num rd rs imm s
  | .mkXori num rd rs imm => Sys2Proof.Machine.execMkXori num rd rs imm s
  | .mkSlti num rd rs imm => Sys2Proof.Machine.execMkSlti num rd rs imm s
  | .mkSltiu num rd rs imm => Sys2Proof.Machine.execMkSltiu num rd rs imm s
  | .mkLui num rd imm => Sys2Proof.Machine.execMkLui num rd imm s
  | .mkLw num rd rs off => Sys2Proof.Machine.execMkLw num rd rs off s
  | .mkLh num rd rs off => Sys2Proof.Machine.execMkLh num rd rs off s
  | .mkLhu num rd rs off => Sys2Proof.Machine.execMkLhu num rd rs off s
  | .mkLb num rd rs off => Sys2Proof.Machine.execMkLb num rd rs off s
  | .mkLbu num rd rs off => Sys2Proof.Machine.execMkLbu num rd rs off s
  | .mkSw num rt rs off => Sys2Proof.Machine.execMkSw num rt rs off s
  | .mkSh num rt rs off => Sys2Proof.Machine.execMkSh num rt rs off s
  | .mkSb num rt rs off => Sys2Proof.Machine.execMkSb num rt rs off s
  | .mkBeq num rs rt off => Sys2Proof.Machine.execMkBeq num rs rt off s
  | .mkBne num rs rt off => Sys2Proof.Machine.execMkBne num rs rt off s
  | .mkBlt num rs rt off => Sys2Proof.Machine.execMkBlt num rs rt off s
  | .mkBge num rs rt off => Sys2Proof.Machine.execMkBge num rs rt off s
  | .mkBltu num rs rt off => Sys2Proof.Machine.execMkBltu num rs rt off s
  | .mkBgeu num rs rt off => Sys2Proof.Machine.execMkBgeu num rs rt off s
  | .mkJal num rd imm => Sys2Proof.Machine.execMkJal num rd imm s
  | .mkJalr num rd rs => Sys2Proof.Machine.execMkJalr num rd rs s
  | .mkLoop num rc bound len => Sys2Proof.Machine.execMkLoop num rc bound len s
  | .mkQpush num rd rs rt => Sys2Proof.Machine.execMkQpush num rd rs rt s
  | .mkQpop num rd rs rt => Sys2Proof.Machine.execMkQpop num rd rs rt s
  | .mkQlen num rd rs => Sys2Proof.Machine.execMkQlen num rd rs s
  | .mkWaitc num => Sys2Proof.Machine.execMkWaitc num s
  | .mkEnd num => Sys2Proof.Machine.execMkEnd num s
  | .mkRdt num rd imm => Sys2Proof.Machine.execMkRdt num rd imm s
  | .mkRaise num rs imm => Sys2Proof.Machine.execMkRaise num rs imm s
  | .mkLog num rs imm => Sys2Proof.Machine.execMkLog num rs imm s
  | .mkPropose num rd rs => Sys2Proof.Machine.execMkPropose num rd rs s
  | .mkPrstat num rd rs => Sys2Proof.Machine.execMkPrstat num rd rs s
  | .mkCsrr num rd imm => Sys2Proof.Machine.execMkCsrr num rd imm s
  | .mkCsrw num rs imm => Sys2Proof.Machine.execMkCsrw num rs imm s
  | .mkFence num => Sys2Proof.Machine.execMkFence num s
  | .mkBrk num => Sys2Proof.Machine.execMkBrk num s
  | .mkVadd num vd va vb => Sys2Proof.Machine.execMkVadd num vd va vb s
  | .mkVsub num vd va vb => Sys2Proof.Machine.execMkVsub num vd va vb s
  | .mkVadds num vd va vb => Sys2Proof.Machine.execMkVadds num vd va vb s
  | .mkVsubs num vd va vb => Sys2Proof.Machine.execMkVsubs num vd va vb s
  | .mkVmulq num vd va vb => Sys2Proof.Machine.execMkVmulq num vd va vb s
  | .mkVmin num vd va vb => Sys2Proof.Machine.execMkVmin num vd va vb s
  | .mkVmax num vd va vb => Sys2Proof.Machine.execMkVmax num vd va vb s
  | .mkVabs num vd va => Sys2Proof.Machine.execMkVabs num vd va s
  | .mkVand num vd va vb => Sys2Proof.Machine.execMkVand num vd va vb s
  | .mkVor num vd va vb => Sys2Proof.Machine.execMkVor num vd va vb s
  | .mkVxor num vd va vb => Sys2Proof.Machine.execMkVxor num vd va vb s
  | .mkVslli num vd va imm => Sys2Proof.Machine.execMkVslli num vd va imm s
  | .mkVsrai num vd va imm => Sys2Proof.Machine.execMkVsrai num vd va imm s
  | .mkVbcast num vd rs => Sys2Proof.Machine.execMkVbcast num vd rs s
  | .mkVext num rd va imm => Sys2Proof.Machine.execMkVext num rd va imm s
  | .mkVins num vd rs imm => Sys2Proof.Machine.execMkVins num vd rs imm s
  | .mkVmac num va vb => Sys2Proof.Machine.execMkVmac num va vb s
  | .mkVmac2 num va vb => Sys2Proof.Machine.execMkVmac2 num va vb s
  | .mkVclra num => Sys2Proof.Machine.execMkVclra num s
  | .mkVrda num vd imm => Sys2Proof.Machine.execMkVrda num vd imm s
  | .mkVsum num rd va => Sys2Proof.Machine.execMkVsum num rd va s
  | .mkVld num vd rs off => Sys2Proof.Machine.execMkVld num vd rs off s
  | .mkVst num vs rs off => Sys2Proof.Machine.execMkVst num vs rs off s
  | .mkLrd num vd rs => Sys2Proof.Machine.execMkLrd num vd rs s
  | .mkLout num vs rs => Sys2Proof.Machine.execMkLout num vs rs s
  | .mixerPass => Sys2Proof.Machine.execMixerPass s
  | .tdmFrameStart port frame inputs => Sys2Proof.Machine.execTdmFrameStart port frame inputs s
  | .converterFrameStart outputs frame inputs => Sys2Proof.Machine.execConverterFrameStart outputs frame inputs s
  | .libraryScan => Sys2Proof.Machine.execLibraryScan s
  | .libraryScanComplete => Sys2Proof.Machine.execLibraryScanComplete s
  | .playerGo j => Sys2Proof.Machine.execPlayerGo j s
  | .playerStop j => Sys2Proof.Machine.execPlayerStop j s
  | .qselRead q => Sys2Proof.Machine.execQselRead q s
  | .qselWrite q => Sys2Proof.Machine.execQselWrite q s
  | .qselFlush q => Sys2Proof.Machine.execQselFlush q s
  | .qselPush q => Sys2Proof.Machine.execQselPush q s
  | .qselPop q => Sys2Proof.Machine.execQselPop q s
  | .qselLen q => Sys2Proof.Machine.execQselLen q s
  | .qselAdvance q => Sys2Proof.Machine.execQselAdvance q s
  | .qselReservedOp q => Sys2Proof.Machine.execQselReservedOp q s
  | .wselRead w => Sys2Proof.Machine.execWselRead w s
  | .wselWrite w => Sys2Proof.Machine.execWselWrite w s
  | .wselForgive w => Sys2Proof.Machine.execWselForgive w s
  | .wselReservedOp w => Sys2Proof.Machine.execWselReservedOp w s
  | .descriptorTableWrite addr => Sys2Proof.Machine.execDescriptorTableWrite addr s
  | .safetyRecordPersist => Sys2Proof.Machine.execSafetyRecordPersist s
  | .safetyRecordDeliver line => Sys2Proof.Machine.execSafetyRecordDeliver line s
  | .historyBatchWrite => Sys2Proof.Machine.execHistoryBatchWrite s
  | .summaryRecordEmit k => Sys2Proof.Machine.execSummaryRecordEmit k s
  | .msLogReceived c frame => Sys2Proof.Machine.execMsLogReceived c frame s
  | .blendStage role bad => Sys2Proof.Machine.execBlendStage role bad s
  | .stageComplete bad differs => Sys2Proof.Machine.execStageComplete bad differs s
  | .blendCommit role live bad => Sys2Proof.Machine.execBlendCommit role live bad s
  | .blendRollback role live bad => Sys2Proof.Machine.execBlendRollback role live bad s
  | .blendAbort role bad => Sys2Proof.Machine.execBlendAbort role bad s
  | .blendVerify role => Sys2Proof.Machine.execBlendVerify role s
  | .cfReservedOp role op => Sys2Proof.Machine.execCfReservedOp role op s
  | .safetyBlockSetpend role => Sys2Proof.Machine.execSafetyBlockSetpend role s
  | .safetyBlockExpiry => Sys2Proof.Machine.execSafetyBlockExpiry s
  | .partialWrite addr enables => Sys2Proof.Machine.execPartialWrite addr enables s
  | .dramApertureAccess iface off len data => Sys2Proof.Machine.execDramApertureAccess iface off len data s
  | .functionLevelReset => Sys2Proof.Machine.execFunctionLevelReset s
  | .perstAssert => Sys2Proof.Machine.execPerstAssert s
  | .qspiRead addr words late => Sys2Proof.Machine.execQspiRead addr words late s
  | .qspiWrite addr words => Sys2Proof.Machine.execQspiWrite addr words s
  | .qspiStatus => Sys2Proof.Machine.execQspiStatus s
  | .irqAck v => Sys2Proof.Machine.execIrqAck v s
  | .cmdDoorbell iface k tail => Sys2Proof.Machine.execCmdDoorbell iface k tail s
  | .rspDoorbell iface k head => Sys2Proof.Machine.execRspDoorbell iface k head s
  | .ringFlush k => Sys2Proof.Machine.execRingFlush k s
  | .commandStart k => Sys2Proof.Machine.execCommandStart k s
  | .cmdNop k => Sys2Proof.Machine.execCmdNop k s
  | .cmdSummary k => Sys2Proof.Machine.execCmdSummary k s
  | .cmdRegread k => Sys2Proof.Machine.execCmdRegread k s
  | .cmdRegwrite k => Sys2Proof.Machine.execCmdRegwrite k s
  | .cmdRegmodify k => Sys2Proof.Machine.execCmdRegmodify k s
  | .cmdImageread k => Sys2Proof.Machine.execCmdImageread k s
  | .cmdLogread k => Sys2Proof.Machine.execCmdLogread k s
  | .proposeCommand k => Sys2Proof.Machine.execProposeCommand k s
  | .protectedWrite iface addr => Sys2Proof.Machine.execProtectedWrite iface addr s
  | .consoleLogin role password => Sys2Proof.Machine.execConsoleLogin role password s
  | .consoleLogout => Sys2Proof.Machine.execConsoleLogout s
  | .consoleSummary => Sys2Proof.Machine.execConsoleSummary s
  | .consoleRead addr words => Sys2Proof.Machine.execConsoleRead addr words s
  | .consoleWrite addr value => Sys2Proof.Machine.execConsoleWrite addr value s
  | .consoleLog area first num => Sys2Proof.Machine.execConsoleLog area first num s
  | .consoleConfirm entry bad => Sys2Proof.Machine.execConsoleConfirm entry bad s
  | .consoleRetire => Sys2Proof.Machine.execConsoleRetire s
  | .remoteWindowRead iface addr => Sys2Proof.Machine.execRemoteWindowRead iface addr s
  | .remoteWindowWrite iface addr value => Sys2Proof.Machine.execRemoteWindowWrite iface addr value s
  | .bridgeRequestSend slotA slotB => Sys2Proof.Machine.execBridgeRequestSend slotA slotB s
  | .bridgeReadReceived c frame => Sys2Proof.Machine.execBridgeReadReceived c frame s
  | .bridgeWriteReceived c frame => Sys2Proof.Machine.execBridgeWriteReceived c frame s
  | .bridgePollReceived c frame => Sys2Proof.Machine.execBridgePollReceived c frame s
  | .bridgeResponseSend slotA slotB => Sys2Proof.Machine.execBridgeResponseSend slotA slotB s
  | .bridgeReadResponse c frame => Sys2Proof.Machine.execBridgeReadResponse c frame s
  | .bridgeWriteResponse c frame => Sys2Proof.Machine.execBridgeWriteResponse c frame s
  | .bridgePollResponse c frame => Sys2Proof.Machine.execBridgePollResponse c frame s
  | .fetchTimeout => Sys2Proof.Machine.execFetchTimeout s
  | .fetchEntryExpiry => Sys2Proof.Machine.execFetchEntryExpiry s
  | .busyRetry => Sys2Proof.Machine.execBusyRetry s
  | .pollSend slotA slotB => Sys2Proof.Machine.execPollSend slotA slotB s
  | .pollStale k => Sys2Proof.Machine.execPollStale k s
  | .sessionOpen k => Sys2Proof.Machine.execSessionOpen k s
  | .sessionProve k => Sys2Proof.Machine.execSessionProve k s
  | .sessionClose k => Sys2Proof.Machine.execSessionClose k s
  | .cmdKeyset k => Sys2Proof.Machine.execCmdKeyset k s
  | .cmdRetire k => Sys2Proof.Machine.execCmdRetire k s
  | .sessionPendingExpiry => Sys2Proof.Machine.execSessionPendingExpiry s
  | .sessionIdleClose => Sys2Proof.Machine.execSessionIdleClose s
  | .lockoutExpiry num secs => Sys2Proof.Machine.execLockoutExpiry num secs s
  | .lockoutLevelReset num secs => Sys2Proof.Machine.execLockoutLevelReset num secs s
  | .branchLinkTrained b => Sys2Proof.Machine.execBranchLinkTrained b s
  | .syncSend b egress => Sys2Proof.Machine.execSyncSend b egress s
  | .statusReceived b frame ingress => Sys2Proof.Machine.execStatusReceived b frame ingress s
  | .statusLost b => Sys2Proof.Machine.execStatusLost b s
  | .branchLinkLoss b => Sys2Proof.Machine.execBranchLinkLoss b s
  | .starViolation b => Sys2Proof.Machine.execStarViolation b s
  | .disconnectExpiry b => Sys2Proof.Machine.execDisconnectExpiry b s
  | .branchAdmit b => Sys2Proof.Machine.execBranchAdmit b s
  | .branchReconnect b => Sys2Proof.Machine.execBranchReconnect b s
  | .downlinkSlotSend b slot => Sys2Proof.Machine.execDownlinkSlotSend b slot s
  | .uplinkAudioReceived b frame => Sys2Proof.Machine.execUplinkAudioReceived b frame s
  | .uplinkMessageReceived b frame ingress => Sys2Proof.Machine.execUplinkMessageReceived b frame ingress s
  | .emFrameReceived m frame codeErr reasm preemptable ingress => Sys2Proof.Machine.execEmFrameReceived m frame codeErr reasm preemptable ingress s
  | .emFrameTransmit m egress fragments => Sys2Proof.Machine.execEmFrameTransmit m egress fragments s
  | .emTxDoorbell m k tail => Sys2Proof.Machine.execEmTxDoorbell m k tail s
  | .emRxDoorbell m k head => Sys2Proof.Machine.execEmRxDoorbell m k head s
  | .emQueueFlush m flush => Sys2Proof.Machine.execEmQueueFlush m flush s
  | .emLinkUp m speed => Sys2Proof.Machine.execEmLinkUp m speed s
  | .emLinkDown m => Sys2Proof.Machine.execEmLinkDown m s
  | .verifyFrameSend m => Sys2Proof.Machine.execVerifyFrameSend m s
  | .verifyResponseReceived m => Sys2Proof.Machine.execVerifyResponseReceived m s
  | .verifyFail m => Sys2Proof.Machine.execVerifyFail m s
  | .verifyFrameReceived m => Sys2Proof.Machine.execVerifyFrameReceived m s
  | .pauseReceived m quanta => Sys2Proof.Machine.execPauseReceived m quanta s
  | .pauseExpiry m => Sys2Proof.Machine.execPauseExpiry m s
  | .controlFrameReceived m => Sys2Proof.Machine.execControlFrameReceived m s
  | .wakePatternMatch frames => Sys2Proof.Machine.execWakePatternMatch frames s
  | .canFrameReceived c f how ts => Sys2Proof.Machine.execCanFrameReceived c f how ts s
  | .protocolException c => Sys2Proof.Machine.execProtocolException c s
  | .canFrameTransmit c ts delay => Sys2Proof.Machine.execCanFrameTransmit c ts delay s
  | .canTransmitComplete c how => Sys2Proof.Machine.execCanTransmitComplete c how s
  | .busoffRecoveryComplete c => Sys2Proof.Machine.execBusoffRecoveryComplete c s
  | .canRecover c => Sys2Proof.Machine.execCanRecover c s
  | .canAbort c => Sys2Proof.Machine.execCanAbort c s
  | .canSleep c => Sys2Proof.Machine.execCanSleep c s
  | .canWake c => Sys2Proof.Machine.execCanWake c s
  | .canDominantWake c us => Sys2Proof.Machine.execCanDominantWake c us s
  | .canWakeFrame frames => Sys2Proof.Machine.execCanWakeFrame frames s
  | .objectLock c o => Sys2Proof.Machine.execObjectLock c o s
  | .objectRelease c o => Sys2Proof.Machine.execObjectRelease c o s
  | .objectLockTimeout c => Sys2Proof.Machine.execObjectLockTimeout c s
  | .canTxDoorbell c k tail => Sys2Proof.Machine.execCanTxDoorbell c k tail s
  | .canRxDoorbell c head => Sys2Proof.Machine.execCanRxDoorbell c head s
  | .ttReferenceSend c ts => Sys2Proof.Machine.execTtReferenceSend c ts s
  | .ttReferenceReceived c prio k ts => Sys2Proof.Machine.execTtReferenceReceived c prio k ts s
  | .ttColumnOpen c j ts delay => Sys2Proof.Machine.execTtColumnOpen c j ts delay s
  | .ttReferenceMissed c => Sys2Proof.Machine.execTtReferenceMissed c s
  | .wakeEvent src => Sys2Proof.Machine.execWakeEvent src s
  | .islandReset => Sys2Proof.Machine.execIslandReset s
  | .islandSupplyLoss => Sys2Proof.Machine.execIslandSupplyLoss s
  | .resetPin => Sys2Proof.Machine.execResetPin s
  | .softwareReset role => Sys2Proof.Machine.execSoftwareReset role s
  | .watchdogExpiry ticks => Sys2Proof.Machine.execWatchdogExpiry ticks s
  | .thermalReset => Sys2Proof.Machine.execThermalReset s
  | .thermalRelease => Sys2Proof.Machine.execThermalRelease s
  | .railReset => Sys2Proof.Machine.execRailReset s
  | .bootStart waited bad => Sys2Proof.Machine.execBootStart waited bad s
  | .targetParked role => Sys2Proof.Machine.execTargetParked role s
  | .targetDoze role => Sys2Proof.Machine.execTargetDoze role s
  | .targetLineOnly role => Sys2Proof.Machine.execTargetLineOnly role s
  | .targetRun role => Sys2Proof.Machine.execTargetRun role s
  | .roundWrite role => Sys2Proof.Machine.execRoundWrite role s
  | .roundCancel role => Sys2Proof.Machine.execRoundCancel role s
  | .roundTimerExpiry => Sys2Proof.Machine.execRoundTimerExpiry s
  | .roundRetryExpiry => Sys2Proof.Machine.execRoundRetryExpiry s
  | .roundRequestReceived c frame => Sys2Proof.Machine.execRoundRequestReceived c frame s
  | .consentReceived c frame => Sys2Proof.Machine.execConsentReceived c frame s
  | .consentTimeout => Sys2Proof.Machine.execConsentTimeout s
  | .parkReceived c frame => Sys2Proof.Machine.execParkReceived c frame s
  | .parkReturned c frame => Sys2Proof.Machine.execParkReturned c frame s
  | .roundAbortSend => Sys2Proof.Machine.execRoundAbortSend s
  | .roundAbortReceived c frame => Sys2Proof.Machine.execRoundAbortReceived c frame s
  | .cancelReceived c frame => Sys2Proof.Machine.execCancelReceived c frame s
  | .parkVetoWake => Sys2Proof.Machine.execParkVetoWake s
  | .aloneExpiry => Sys2Proof.Machine.execAloneExpiry s
  | .powerFailure => Sys2Proof.Machine.execPowerFailure s
  | .gaspReceived c frame => Sys2Proof.Machine.execGaspReceived c frame s
  | .holdupLow => Sys2Proof.Machine.execHoldupLow s
  | .slowLoRead ticks => Sys2Proof.Machine.execSlowLoRead ticks s
  | .recentRead k => Sys2Proof.Machine.execRecentRead k s
  | .safetyInputSample vbat contacts r0 r1 => Sys2Proof.Machine.execSafetyInputSample vbat contacts r0 r1 s
  | .testPulse o rest => Sys2Proof.Machine.execTestPulse o rest s
  | .discrepancyExpiry k => Sys2Proof.Machine.execDiscrepancyExpiry k s
  | .darkTest k high => Sys2Proof.Machine.execDarkTest k high s
  | .startupTest contacts high diag => Sys2Proof.Machine.execStartupTest contacts high diag s
  | .vbatRecovery vbat => Sys2Proof.Machine.execVbatRecovery vbat s
  | .sresetRelease low counted => Sys2Proof.Machine.execSresetRelease low counted s
  | .sfrstRequest role => Sys2Proof.Machine.execSfrstRequest role s
  | .resetCodeExpiry => Sys2Proof.Machine.execResetCodeExpiry s
  | .safetyNodeTimeout k => Sys2Proof.Machine.execSafetyNodeTimeout k s
  | .periodicDiagnostic test pass => Sys2Proof.Machine.execPeriodicDiagnostic test pass s
  | .swinChange k high => Sys2Proof.Machine.execSwinChange k high s
  | .limpHomeStart => Sys2Proof.Machine.execLimpHomeStart s
  | .limpHomeEnd => Sys2Proof.Machine.execLimpHomeEnd s
  | .channelFailure k => Sys2Proof.Machine.execChannelFailure k s
  | .retryPauseExpiry k => Sys2Proof.Machine.execRetryPauseExpiry k s
  | .latchClear clr => Sys2Proof.Machine.execLatchClear clr s
  | .failureCountReset k => Sys2Proof.Machine.execFailureCountReset k s
  | .overloadShed => Sys2Proof.Machine.execOverloadShed s
  | .vswUndervoltage => Sys2Proof.Machine.execVswUndervoltage s
  | .vswRestored => Sys2Proof.Machine.execVswRestored s
  | .openLoadCompare k above => Sys2Proof.Machine.execOpenLoadCompare k above s
  | .groundLoss lost => Sys2Proof.Machine.execGroundLoss lost s
  | .reverseSupply reversed => Sys2Proof.Machine.execReverseSupply reversed s
  | .perstRelease link => Sys2Proof.Machine.execPerstRelease link s
  | .holdupCharged => Sys2Proof.Machine.execHoldupCharged s

end Sys2Proof.Machine
end

