-- ==== Sys2Proof/WellFormed.lean ====
section
/-! DEFINITION. Well-formed commands: what a sender can put on the wire or the pins.  The types of the operands carry the ranges
of fields; here stand the lengths of frames and lists (R64, R112, R175, Tables IN-3, DU-3, ST-4, ST-5) and the shape of a CAN frame
(Table CB-1).  A meaning is total all the same: it reads bytes that are missing as 0. -/

namespace Sys2Proof

/-- A container: 1,484 bytes, in forerunner mode 1,196 (R64). -/
def containerOk (frame : List Byte) : Bool := frame.length == 1484 || frame.length == 1196

/-- Data bytes of a CAN frame by its DLC (ISO 11898-1; log entry 23). -/
def CanFrame.dataLength (f : CanFrame) : Nat :=
  let d := f.dlc.toNat
  if d ≤ 8 then d else if !f.fdf then 8
  else ([12, 16, 20, 24, 32, 48, 64] : List Nat).getD (d - 9) 64

/-- A CAN frame: a base identifier has 11 bits, BRS and ESI belong to FD frames, which are never remote, and the data is as
long as the DLC says. -/
def CanFrame.wf (f : CanFrame) : Bool :=
  (f.ide || decide (f.id.toNat < 2048)) && (f.fdf || (!f.brs && !f.esi)) && !(f.fdf && f.rtr)
    && f.data.length == (if f.rtr then 0 else f.dataLength)

/-- The operands of a boundary: at most two channels, eight dies, twelve load switches and 512 nodes. -/
def BoundaryIn.wf (b : BoundaryIn) : Bool :=
  decide (b.egress.length ≤ 2) && decide (b.ids.length ≤ 512) && decide (b.temps.length ≤ 8) && decide (b.ces.length ≤ 8)
    && decide (b.ma.length ≤ 12)

/-- Is a command well formed? -/
def Instr.wf : Instr → Bool
  | .localBoundary b => b.wf
  | .imageHoldExpiry => true
  | .dieFailure _ _ _ => true
  | .cxHeartbeatStop => true
  | .loadSwitchCxLoss => true
  | .reservedAddressAccess _ _ _ => true
  | .registerWrite _ _ _ => true
  | .rcRead _ _ => true
  | .pllLocked _ => true
  | .partnerEnergyDetect _ => true
  | .ratesAgreed _ _ _ => true
  | .trainingConverged _ => true
  | .blockLockAcquired _ => true
  | .identitiesExchanged _ _ _ _ _ => true
  | .trainingStepFailure _ _ => true
  | .backoffExpiry _ => true
  | .linkLoss _ _ => true
  | .linkDropReceived _ _ => true
  | .reentryHoldExpiry _ => true
  | .wakeToneDetect _ => true
  | .wakeBlankingExpiry => true
  | .originatorSlotTransmit _ _ _ _ _ => true
  | .csfReceived _ frame _ _ => frame.length == 100
  | .csfFlywheel _ _ => true
  | .upstreamLoss _ => true
  | .audioContainerOutbound _ frame => containerOk frame
  | .audioContainerReturn _ frame => containerOk frame
  | .dataSlotOutbound _ frame _ _ _ _ => containerOk frame
  | .rosterSlotOutbound _ frame => containerOk frame
  | .rosterSlotReturn _ frame => containerOk frame
  | .rosterAbsentExpiry _ => true
  | .sequencerReceived _ frame => containerOk frame
  | .serviceSlotOutbound _ frame => containerOk frame
  | .serviceSlotReturn _ frame => containerOk frame
  | .minislotClaim _ frame _ _ _ => frame.length == 188
  | .minislotMessageReceived _ frame _ => frame.length == 188
  | .starvedSet _ => true
  | .dreqTransmit _ _ _ => true
  | .dreqReceived _ frame _ => frame.length == 48
  | .drspReceived _ frame _ rawTicks => frame.length == 48 && decide (rawTicks < 2 ^ 48)
  | .receivedFrameViolation _ _ => true
  | .quarantineExpiry _ => true
  | .quarantineClearWrite _ => true
  | .previousKeyExpiry => true
  | .linkWaitExpiry => true
  | .fallbackWaitExpiry => true
  | .beaconSend => true
  | .beaconReceived _ frame => frame.length == 52
  | .beaconWindowExpiry => true
  | .formwaitExpiry => true
  | .prepareSend _ _ => true
  | .prepareReceived _ frame => frame.length == 188
  | .segmentHeadPrepareCopy _ _ => true
  | .ringBCopyComplete _ => true
  | .prepareReturned _ frame => frame.length == 188
  | .prepareReturnTimeout => true
  | .commitSend _ _ => true
  | .commitReceived _ frame => frame.length == 188
  | .admissionRecordSend _ => true
  | .admissionRecordReceived _ record => record.length == 56
  | .coupleSend _ => true
  | .coupleReceived _ frame => frame.length == 188
  | .mergePrepareSend _ _ => true
  | .planReceived _ frame => frame.length == 188
  | .proposalSubmit _ => true
  | .proposalReceived _ frame => frame.length == 188
  | .commitListPublish => true
  | .proposalTimeout _ => true
  | .resyncSend => true
  | .resyncReceived _ frame => frame.length == 188
  | .snapChainSend _ _ => true
  | .snapReceived _ frame => frame.length == 188
  | .snapMissed => true
  | .holdoverEntry => true
  | .nsWrap => true
  | .toutArm _ _ _ => true
  | .toutDisarm _ => true
  | .toutPulseStart _ => true
  | .toutPulseEnd _ => true
  | .tcapEdge _ _ _ => true
  | .tcapHiRead _ => true
  | .tcapLoRead _ => true
  | .incrLoRead => true
  | .nowNsRead => true
  | .returnLoss _ => true
  | .moveQuery _ => true
  | .pairFormTimeout => true
  | .neighbourSignalSend _ => true
  | .neighbourSignalReceived _ signal => signal.length == 28
  | .pairRecordReceived record => decide (14 ≤ record.length)
  | .grantReceived => true
  | .noArbiterTakeover => true
  | .checkpointSend => true
  | .checkpointReceived checkpoint => decide (36 ≤ checkpoint.length)
  | .revdlyExpiry => true
  | .handbackRequest => true
  | .handbackRequestRepeat => true
  | .arbRequestReceived => true
  | .declineReceived => true
  | .handoverReceived => true
  | .pairRetry => true
  | .linePathBist _ _ => true
  | .dramScrub _ _ _ => true
  | .standbyMilnakSelftest => true
  | .cycleProgramStart _ => true
  | .eventProgramStart _ => true
  | .mkOverrun _ => true
  | .programRestart _ => true
  | .eventPost _ => true
  | .selftestRequest _ => true
  | .mkIllegal _ _ => true
  | .mkAdd _ _ _ _ => true
  | .mkSub _ _ _ _ => true
  | .mkAnd _ _ _ _ => true
  | .mkOr _ _ _ _ => true
  | .mkXor _ _ _ _ => true
  | .mkSll _ _ _ _ => true
  | .mkSrl _ _ _ _ => true
  | .mkSra _ _ _ _ => true
  | .mkSlt _ _ _ _ => true
  | .mkSltu _ _ _ _ => true
  | .mkMul _ _ _ _ => true
  | .mkMulh _ _ _ _ => true
  | .mkMulhu _ _ _ _ => true
  | .mkAdds _ _ _ _ => true
  | .mkSubs _ _ _ _ => true
  | .mkMin _ _ _ _ => true
  | .mkMax _ _ _ _ => true
  | .mkClz _ _ _ => true
  | .mkDivu _ _ _ _ => true
  | .mkRemu _ _ _ _ => true
  | .mkSlli _ _ _ _ => true
  | .mkSrli _ _ _ _ => true
  | .mkSrai _ _ _ _ => true
  | .mkMulq _ _ _ _ => true
  | .mkAddi _ _ _ _ => true
  | .mkAndi _ _ _ _ => true
  | .mkOri _ _ _ _ => true
  | .mkXori _ _ _ _ => true
  | .mkSlti _ _ _ _ => true
  | .mkSltiu _ _ _ _ => true
  | .mkLui _ _ _ => true
  | .mkLw _ _ _ _ => true
  | .mkLh _ _ _ _ => true
  | .mkLhu _ _ _ _ => true
  | .mkLb _ _ _ _ => true
  | .mkLbu _ _ _ _ => true
  | .mkSw _ _ _ _ => true
  | .mkSh _ _ _ _ => true
  | .mkSb _ _ _ _ => true
  | .mkBeq _ _ _ _ => true
  | .mkBne _ _ _ _ => true
  | .mkBlt _ _ _ _ => true
  | .mkBge _ _ _ _ => true
  | .mkBltu _ _ _ _ => true
  | .mkBgeu _ _ _ _ => true
  | .mkJal _ _ _ => true
  | .mkJalr _ _ _ => true
  | .mkLoop _ _ bound len => decide (1 ≤ bound) && decide (bound ≤ 4095) && decide (1 ≤ len) && decide (len ≤ 511)
  | .mkQpush _ _ _ _ => true
  | .mkQpop _ _ _ _ => true
  | .mkQlen _ _ _ => true
  | .mkWaitc _ => true
  | .mkEnd _ => true
  | .mkRdt _ _ _ => true
  | .mkRaise _ _ _ => true
  | .mkLog _ _ _ => true
  | .mkPropose _ _ _ => true
  | .mkPrstat _ _ _ => true
  | .mkCsrr _ _ _ => true
  | .mkCsrw _ _ _ => true
  | .mkFence _ => true
  | .mkBrk _ => true
  | .mkVadd _ _ _ _ => true
  | .mkVsub _ _ _ _ => true
  | .mkVadds _ _ _ _ => true
  | .mkVsubs _ _ _ _ => true
  | .mkVmulq _ _ _ _ => true
  | .mkVmin _ _ _ _ => true
  | .mkVmax _ _ _ _ => true
  | .mkVabs _ _ _ => true
  | .mkVand _ _ _ _ => true
  | .mkVor _ _ _ _ => true
  | .mkVxor _ _ _ _ => true
  | .mkVslli _ _ _ _ => true
  | .mkVsrai _ _ _ _ => true
  | .mkVbcast _ _ _ => true
  | .mkVext _ _ _ _ => true
  | .mkVins _ _ _ _ => true
  | .mkVmac _ _ _ => true
  | .mkVmac2 _ _ _ => true
  | .mkVclra _ => true
  | .mkVrda _ _ _ => true
  | .mkVsum _ _ _ => true
  | .mkVld _ _ _ _ => true
  | .mkVst _ _ _ _ => true
  | .mkLrd _ _ _ => true
  | .mkLout _ _ _ => true
  | .mixerPass => true
  | .tdmFrameStart _ _ inputs => decide (inputs.length ≤ 16)
  | .converterFrameStart _ _ inputs => decide (inputs.length ≤ 8)
  | .libraryScan => true
  | .libraryScanComplete => true
  | .playerGo _ => true
  | .playerStop _ => true
  | .qselRead _ => true
  | .qselWrite _ => true
  | .qselFlush _ => true
  | .qselPush _ => true
  | .qselPop _ => true
  | .qselLen _ => true
  | .qselAdvance _ => true
  | .qselReservedOp _ => true
  | .wselRead _ => true
  | .wselWrite _ => true
  | .wselForgive _ => true
  | .wselReservedOp _ => true
  | .descriptorTableWrite _ => true
  | .safetyRecordPersist => true
  | .safetyRecordDeliver _ => true
  | .historyBatchWrite => true
  | .summaryRecordEmit _ => true
  | .msLogReceived _ frame => frame.length == 188
  | .blendStage _ _ => true
  | .stageComplete _ _ => true
  | .blendCommit _ _ _ => true
  | .blendRollback _ _ _ => true
  | .blendAbort _ _ => true
  | .blendVerify _ => true
  | .cfReservedOp _ _ => true
  | .safetyBlockSetpend _ => true
  | .safetyBlockExpiry => true
  | .partialWrite _ enables => enables != 0#4 && enables != 15#4
  | .dramApertureAccess _ _ len data => data.all (fun d => d.length == len.val)
  | .functionLevelReset => true
  | .perstAssert => true
  | .qspiRead _ words _ => decide (1 ≤ words.val)
  | .qspiWrite _ words => decide (1 ≤ words.length) && decide (words.length ≤ 256)
  | .qspiStatus => true
  | .irqAck _ => true
  | .cmdDoorbell _ _ _ => true
  | .rspDoorbell _ _ _ => true
  | .ringFlush _ => true
  | .commandStart _ => true
  | .cmdNop _ => true
  | .cmdSummary _ => true
  | .cmdRegread _ => true
  | .cmdRegwrite _ => true
  | .cmdRegmodify _ => true
  | .cmdImageread _ => true
  | .cmdLogread _ => true
  | .proposeCommand _ => true
  | .protectedWrite _ _ => true
  | .consoleLogin _ password => decide (password.length ≤ 64)
  | .consoleLogout => true
  | .consoleSummary => true
  | .consoleRead _ words => decide (1 ≤ words.val)
  | .consoleWrite _ _ => true
  | .consoleLog _ _ _ => true
  | .consoleConfirm _ _ => true
  | .consoleRetire => true
  | .remoteWindowRead _ _ => true
  | .remoteWindowWrite _ _ _ => true
  | .bridgeRequestSend _ _ => true
  | .bridgeReadReceived _ frame => frame.length == 188
  | .bridgeWriteReceived _ frame => frame.length == 188
  | .bridgePollReceived _ frame => frame.length == 188
  | .bridgeResponseSend _ _ => true
  | .bridgeReadResponse _ frame => frame.length == 188
  | .bridgeWriteResponse _ frame => frame.length == 188
  | .bridgePollResponse _ frame => frame.length == 188
  | .fetchTimeout => true
  | .fetchEntryExpiry => true
  | .busyRetry => true
  | .pollSend _ _ => true
  | .pollStale _ => true
  | .sessionOpen _ => true
  | .sessionProve _ => true
  | .sessionClose _ => true
  | .cmdKeyset _ => true
  | .cmdRetire _ => true
  | .sessionPendingExpiry => true
  | .sessionIdleClose => true
  | .lockoutExpiry _ _ => true
  | .lockoutLevelReset _ _ => true
  | .branchLinkTrained _ => true
  | .syncSend _ _ => true
  | .statusReceived _ frame _ => frame.length == 28
  | .statusLost _ => true
  | .branchLinkLoss _ => true
  | .starViolation _ => true
  | .disconnectExpiry _ => true
  | .branchAdmit _ => true
  | .branchReconnect _ => true
  | .downlinkSlotSend _ _ => true
  | .uplinkAudioReceived _ frame => frame.length == 176
  | .uplinkMessageReceived _ frame _ => frame.length == 176
  | .emFrameReceived _ frame _ _ _ _ => !frame.isEmpty
  | .emFrameTransmit _ _ _ => true
  | .emTxDoorbell _ _ _ => true
  | .emRxDoorbell _ _ _ => true
  | .emQueueFlush _ _ => true
  | .emLinkUp _ _ => true
  | .emLinkDown _ => true
  | .verifyFrameSend _ => true
  | .verifyResponseReceived _ => true
  | .verifyFail _ => true
  | .verifyFrameReceived _ => true
  | .pauseReceived _ _ => true
  | .pauseExpiry _ => true
  | .controlFrameReceived _ => true
  | .wakePatternMatch frames => frames.all (fun e => !e.2.isEmpty)
  | .canFrameReceived _ f _ _ => f.wf
  | .protocolException _ => true
  | .canFrameTransmit _ _ _ => true
  | .canTransmitComplete _ _ => true
  | .busoffRecoveryComplete _ => true
  | .canRecover _ => true
  | .canAbort _ => true
  | .canSleep _ => true
  | .canWake _ => true
  | .canDominantWake _ _ => true
  | .canWakeFrame frames => frames.all (fun e => e.2.wf)
  | .objectLock _ _ => true
  | .objectRelease _ _ => true
  | .objectLockTimeout _ => true
  | .canTxDoorbell _ _ _ => true
  | .canRxDoorbell _ _ => true
  | .ttReferenceSend _ _ => true
  | .ttReferenceReceived _ _ _ _ => true
  | .ttColumnOpen _ _ _ _ => true
  | .ttReferenceMissed _ => true
  | .wakeEvent _ => true
  | .islandReset => true
  | .islandSupplyLoss => true
  | .resetPin => true
  | .softwareReset _ => true
  | .watchdogExpiry _ => true
  | .thermalReset => true
  | .thermalRelease => true
  | .railReset => true
  | .bootStart _ _ => true
  | .targetParked _ => true
  | .targetDoze _ => true
  | .targetLineOnly _ => true
  | .targetRun _ => true
  | .roundWrite _ => true
  | .roundCancel _ => true
  | .roundTimerExpiry => true
  | .roundRetryExpiry => true
  | .roundRequestReceived _ frame => frame.length == 188
  | .consentReceived _ frame => frame.length == 188
  | .consentTimeout => true
  | .parkReceived _ frame => frame.length == 188
  | .parkReturned _ frame => frame.length == 188
  | .roundAbortSend => true
  | .roundAbortReceived _ frame => frame.length == 188
  | .cancelReceived _ frame => frame.length == 188
  | .parkVetoWake => true
  | .aloneExpiry => true
  | .powerFailure => true
  | .gaspReceived _ frame => frame.length == 188
  | .holdupLow => true
  | .slowLoRead _ => true
  | .recentRead _ => true
  | .safetyInputSample _ contacts _ _ => contacts.length == 16
  | .testPulse _ _ => true
  | .discrepancyExpiry _ => true
  | .darkTest _ _ => true
  | .startupTest _ _ _ => true
  | .vbatRecovery _ => true
  | .sresetRelease _ _ => true
  | .sfrstRequest _ => true
  | .resetCodeExpiry => true
  | .safetyNodeTimeout _ => true
  | .periodicDiagnostic _ _ => true
  | .swinChange _ _ => true
  | .limpHomeStart => true
  | .limpHomeEnd => true
  | .channelFailure _ => true
  | .retryPauseExpiry _ => true
  | .latchClear _ => true
  | .failureCountReset _ => true
  | .overloadShed => true
  | .vswUndervoltage => true
  | .vswRestored => true
  | .openLoadCompare _ _ => true
  | .groundLoss _ => true
  | .reverseSupply _ => true
  | .perstRelease _ => true
  | .holdupCharged => true

end Sys2Proof
end

