-- ==== Sys2Proof/Safety.lean ====
section
/-! DEFINITION. The terms the claims are stated in: what a command completes with, frames over the parts of a node and
over its registers, and the canonical form of the node's stores. -/

namespace Sys2Proof.Machine

/-- The command completes: it answers a next state whose queue is the one it found and whose node satisfies `P`. -/
def Completes (c : Instr) (s : State) (P : Node → Prop) : Prop :=
  ∃ t, exec c s = .next t ∧ t.pending = s.pending ∧ P t.node

/-- The parts of a node other than its registers.  `progs` is the loaded programs with their pending firings, `mil`
everything else of Milnak; `free` is the free-value counter and `out` the outputs of the last command. -/
inductive Part where
  | uid | force | shadow | dram | image | view | free | out | qm | progs | mil | tb | line | inn | du | au | cf | se | st
  | em | cb | sa | ls | pw | hb | holdRun | up
  deriving DecidableEq, Repr

/-- The part is the same in two nodes. -/
def Part.same : Part → Node → Node → Prop
  | .uid, n, m => m.uid = n.uid
  | .force, n, m => m.force = n.force
  | .shadow, n, m => m.shadow = n.shadow
  | .dram, n, m => m.dram = n.dram
  | .image, n, m => m.image = n.image
  | .view, n, m => m.view = n.view
  | .free, n, m => m.free = n.free
  | .out, n, m => m.out = n.out
  | .qm, n, m => m.qm = n.qm
  | .progs, n, m => m.mil.progs = n.mil.progs
  | .mil, n, m => { m.mil with progs := [] } = { n.mil with progs := [] }
  | .tb, n, m => m.tb = n.tb
  | .line, n, m => m.line = n.line
  | .inn, n, m => m.inn = n.inn
  | .du, n, m => m.du = n.du
  | .au, n, m => m.au = n.au
  | .cf, n, m => m.cf = n.cf
  | .se, n, m => m.se = n.se
  | .st, n, m => m.st = n.st
  | .em, n, m => m.em = n.em
  | .cb, n, m => m.cb = n.cb
  | .sa, n, m => m.sa = n.sa
  | .ls, n, m => m.ls = n.ls
  | .pw, n, m => m.pw = n.pw
  | .hb, n, m => m.hb = n.hb
  | .holdRun, n, m => m.holdRun = n.holdRun
  | .up, n, m => m.up = n.up

/-- The block of a register address (Table SC-5). -/
def blockOf (a : Nat) : Nat := a / 0x100000

/-- Node `m` differs from node `n` at most in the named parts and in the registers `touched` names. -/
def Frame (parts : List Part) (touched : Nat → Bool) (n m : Node) : Prop :=
  (∀ p, p ∉ parts → p.same n m) ∧ ∀ a, touched a = false → rd m a = rd n a

/-- The registers of some blocks of Table SC-5. -/
def blocks (bs : List Nat) (a : Nat) : Bool := bs.contains (blockOf a)

/-- The parts an event record, a push, a pop or a firing touches: queues and logs, the cells of queues in DRAM, pending
firings, the free-value counter. -/
def logParts : List Part := [.qm, .dram, .free, .progs]

/-- Blocks MK and QM, whose counters and flags an event record, a push, a pop or a firing touches. -/
def logBlocks : List Nat := [6, 8]

/-- Node `m` differs from node `n` at most in what an event record, a push, a pop or a firing touches. -/
abbrev OnlyLog (n m : Node) : Prop := Frame logParts (blocks logBlocks) n m

/-- The counter at an address counts one, stopping at all ones (R11). -/
def Counted (n m : Node) (a : Nat) : Prop := rd m a = BitVec.ofNat 32 (min ((rd n a).toNat + 1) 0xFFFFFFFF)

/-- The registers of line port `p`, or of the pair port for 4. -/
def portRegs (p a : Nat) : Bool :=
  if p = 4 then a == R.DU_PPSTAT else decide (R.LP_PORTCFG p ≤ a) && decide (a < R.LP_PORTCFG p + 0x1000)

/-- The stores of a node are in their one canonical form: keys rising, and no entry equal to what an unlisted key reads
as (registers, values in force, DRAM, the image and its host view, the instruction memories and the two SRAMs). -/
def Node.wf (n : Node) : Bool :=
  canonical resetValue n.regs && canonical resetValue n.force && canonical (fun _ => 0#8) n.dram
    && canonical (fun _ => 0#8) n.image && canonical (fun _ => 0#8) n.view && canonical (fun _ => 0#8) n.mil.imem
    && canonical (fun _ => 0#8) n.mil.cxram && canonical (fun _ => 0#8) n.mil.axram

/-- The factory identity is one the spec allows (R33). -/
def State.idOk (s : State) : Prop := s.node.uid ≠ 0#64 ∧ s.node.uid ≠ BitVec.allOnes 64

/-- While the safety channel is locked out, both of its outputs are off (R426, R428). -/
abbrev Node.lockSafe (n : Node) : Prop := n.sa.lock ≠ none → (safeOut n 0).on = false ∧ (safeOut n 1).on = false

end Sys2Proof.Machine
end

