-- ==== Sys2Proof/Certificates/Slice0/Obligations.lean ====
section
/-! DEFINITION. The statements for the provers.  `Completes` says that a command answers a next state and what that
state holds; `Frame` says what it leaves unchanged (Sys2Proof/Safety.lean). -/

open Sys2Proof Sys2Proof.Machine

/-- The step: the command at the front of the queue is run on the state with the queue's rest. -/
def Obligations.StepRunsCommand : Prop :=
  ∀ (c : Instr) (cs : List Instr) (s : State), step { s with pending := c :: cs } = exec c { s with pending := cs }

/-- Commands that wait are taken first in, first out, and none ever stops the block: so many steps as there are commands end in a
state whose queue is what stood behind them, and what stands behind them changes nothing of what they do. -/
def Obligations.QueueDrains : Prop :=
  (∀ (cs ds : List Instr) (n : Node), ∃ m : Node, core.run cs.length (⟨n, cs ++ ds⟩ : State) = .next (⟨m, ds⟩ : State)) ∧
  (∀ (cs ds : List Instr) (n m : Node), core.run cs.length (⟨n, cs ++ ds⟩ : State) = .next (⟨m, ds⟩ : State) →
    core.run cs.length (⟨n, cs⟩ : State) = .next (⟨m, []⟩ : State))

/-- The node right after reset: no command waits, no RW-S write is pending, the identity is one the spec allows, the stores are in
their canonical form, the safety channel is locked out with its outputs off, every branch, MAC and controller is idle, and the registers
whose reset value is not 0 stand at it (the register tables of spec/01 to spec/18). -/
def Obligations.ResetState : Prop :=
  ∀ n, n = State.reset.node → State.reset.pending = [] ∧ n.shadow = [] ∧ State.reset.idOk ∧ n.wf = true ∧ n.lockSafe ∧ n.sa.lock.isSome ∧
    (∀ b, (branch n b).st = .off) ∧ (∀ a, rd n a = resetValue a) ∧
    (∀ e ∈ [(R.AC_PARTID, 0x0E5D8400#32), (R.LP_PORTCFG 3, 0x9#32), (R.LP_WAKECFG, 0xFF#32), (R.LC_CFG 1, 0x00100222#32),
        (R.LC_SLUICECFG 1, 0x1F400008#32), (R.IN_CFG, 0x01F41040#32), (R.IN_SEQCFG, 0x00402000#32), (R.TB_CFG, 0x012C6440#32),
        (R.DU_PAIRCFG, 0x0A08#32), (R.AU_CFG, 0x00032028#32), (R.AU_CFG2, 0x00FA00C8#32), (R.AU_ZONECFG 15, 0x003F0000#32),
        (R.AU_ZONEAMB 15, 0x18C4C648#32), (R.AU_ZONESTAT 15, 0x80001C00#32), (R.AU_PLAYCTL 15, 0x20000000#32), (R.AU_PLAYSTAT 15, 0xFF00#32),
        (R.QM_POOLCFG, 0x4080#32), (R.QM_LOGCFG, 0x0203#32), (R.HB_CFG, 0x6#32), (R.HB_RACFG, 0x28#32), (R.SE_CFG, 0x012C0258#32),
        (R.ST_CFG, 0x07D00000#32), (R.ST_CFG2, 0x000A0804#32), (R.EM_MACCFG 5, 0x05EE0200#32), (R.EM_PREEMPT 5, 0x0A00#32),
        (R.CB_CFG 3, 0x40#32), (R.PW_STAT, 0x3#32), (R.PW_WAKECFG, 0x0100#32), (R.PW_SLEEPCFG, 0x000A0000#32),
        (R.PW_ROUNDCFG, 0x003C0320#32), (R.PW_WDCFG, 0x80001F40#32), (R.SF_STAT, 0x40000000#32), (R.SF_LOCK, 0x6#32),
        (R.LS_CHCFG 11, 0x0700#32)], rd n e.1 = e.2)

/-- No step changes the factory identity, so it stays one the spec allows: never all zeros or all ones (R33). -/
def Obligations.IdentityKept : Prop :=
  ∀ s t : State, s.idOk → step s = .next t → t.node.uid = s.node.uid ∧ t.idOk

/-- No step, whatever the command, leaves a safety output on while the channel is locked out (R426, R428). -/
def Obligations.LockedOutIsOff : Prop :=
  ∀ s t : State, s.node.lockSafe → step s = .next t → t.node.lockSafe

/-- The node has recorded one class G event that carries an address: as its offset with the block in SOURCE, or whole where no block
has it; nothing but the logs is touched. -/
def TellsAddress (n m : Node) (a : Nat) : Prop :=
  OnlyLog n m ∧ ∃ r : EventRecord, m.qm.log.batch = n.qm.log.batch ++ [r] ∧ r.cls = .g
    ∧ (a < 0x1200000 → le r.data 0 4 = a % 0x100000 ∧ r.source = blockSource (a / 0x100000) 0)
    ∧ (0x1200000 ≤ a → a < 2 ^ 32 → le r.data 0 4 = a)

/-- A read of a reserved address returns 0, a write to one or to the SF view has no effect, and each records one class G event that
carries the address (R7), whichever interface or session it comes from. -/
def Obligations.ReservedAddresses : Prop :=
  ∀ (n : Node) (x : Access) (addr a : Nat) (v : BitVec 32), a = addr - addr % 4 → x.iface ≠ 4 → nvFailed n = false →
    (isRegister a = false → (readReg n x addr).2 = 0#32 ∧ TellsAddress n (readReg n x addr).1 a) ∧
    (isRegister a = false ∨ a / 0x100000 = 16 → TellsAddress n (writeReg n x addr v).1 a)

/-- A frame stored into a receive object replaces all of it with the layout of Table CB-2: VALID, LOST where VALID was already 1,
identifier, stamp, flags, length, the frame count, and the data with zeros beyond LEN (R381). -/
def Obligations.StoredObject : Prop :=
  ∀ (n m : Node) (c o : Nat) (f : CanFrame) (ts : BitVec 32) (dom : Bool), o < 2048 → m = objStore n c o f ts dom false →
    (objWord m c o 0).getLsbD 31 = true ∧ (objWord m c o 0).getLsbD 30 = (objWord n c o 0).getLsbD 31
    ∧ (objWord m c o 0).getLsbD 29 = f.ide ∧ (objWord m c o 0).toNat % 2 ^ 29 = f.id.toNat
    ∧ (objWord m c o 1).toNat = stampCnlo n ts * 65536 + 1024 * b2n f.esi + 512 * b2n (f.brs && f.fdf) + 256 * b2n f.fdf + canLen f
    ∧ objWord m c o 2 = ts ∧ (objWord m c o 3).toNat = 65536 * b2n dom + ((objWord n c o 3).toNat % 65536 + 1) % 65536
    ∧ (∀ i < 64, ((objWord m c o (4 + i / 4)).toNat / 256 ^ (i % 4)) % 256 = if i < canLen f then (f.data.getD i 0#8).toNat else 0)
    ∧ (∀ p w, p < 2048 → w < 20 → p ≠ o → objWord m c p w = objWord n c p w)

/-- ABORT while a frame is on the bus: the frame is removed with TSTAT 2 when its attempt ends without success, however it failed;
when the attempt succeeds it counts as sent, and the abort has no effect (R387). -/
def Obligations.AbortEndsAttempt : Prop :=
  ∀ (s : State) (c : Fin 4) (x : Can) (j : CanJob) (js : List CanJob), x = can s.node c.val → canOn s.node c.val → x.jobs = j :: js → j.active →
    Completes (.canAbort c) s (fun m => can m c.val = { x with jobs := { j with abort := true } :: js } ∧ Frame [.out, .cb] (fun _ => false) s.node m) ∧
    (j.abort → x.done.length < 7 → 256 ≤ ff s.node (R.CB_TXCQ c.val) F.CB_TXCQ_QUEUE →
      (∀ how : CanTx, how ≠ .sent → Completes (.canTransmitComplete c how) s (fun m => (can m c.val).jobs = js ∧ Counted s.node m (R.CB_CNT c.val 6)
        ∧ (can m c.val).done = x.done ++ [emRecord j.tag 0 0 (c.val + 16) 2 0])) ∧
      Completes (.canTransmitComplete c .sent) s (fun m => (can m c.val).jobs = js ∧ Counted s.node m (R.CB_CNT c.val 5)
        ∧ rd m (R.CB_CNT c.val 6) = rd s.node (R.CB_CNT c.val 6)
        ∧ (can m c.val).done = x.done ++ (if j.tsreq then [emRecord j.tag j.ts.toNat (stampCnlo s.node j.ts) (c.val + 16) 0 (b2n (tsdom s.node))] else [])))

/-- Every load-switch channel is on exactly where its demand says so and protection allows it (R446). -/
def Driven (n : Node) : Prop :=
  ∀ k < 12, (switch n k).on = ((switchDemand n k).2 && switchAllowed n (switch n k))

/-- The load-switch commands while PX drives the channels: what each records, and that every channel is then at its
demand as far as protection allows (R446 to R458). -/
def Clause.LoadSwitchDemands : Prop :=
  ∀ s : State, lsOn s.node →
    (∀ (k : Fin 12) high, Completes (.swinChange k high) s (fun m => bitOf m.ls.swin k.val = high
      ∧ (∀ j < 12, j ≠ k.val → bitOf m.ls.swin j = bitOf s.node.ls.swin j) ∧ Driven m)) ∧
    (s.node.ls.limp = false → Completes .limpHomeStart s (fun m => m.ls.limp = true ∧ m.ls.lhomeLow = true
      ∧ gf m R.LS_EVT F.LS_EVT_LHON = 1 ∧ Counted s.node m (R.LS_CNT 4) ∧ Driven m)) ∧
    (s.node.ls.limp = true → Completes .limpHomeEnd s (fun m => m.ls.limp = false ∧ m.ls.lhomeLow = false
      ∧ gf m R.LS_EVT F.LS_EVT_LHOFF = 1 ∧ Counted s.node m (R.LS_CNT 4) ∧ Driven m)) ∧
    (s.node.ls.vswUv = false → Completes .vswUndervoltage s (fun m => m.ls.vswUv = true
      ∧ gf m R.LS_EVT F.LS_EVT_VSWUV = 1 ∧ ∀ k < 12, (switch m k).on = false)) ∧
    (s.node.ls.vswUv = true → Completes .vswRestored s (fun m => m.ls.vswUv = false ∧ Driven m)) ∧
    (∀ lost, Completes (.groundLoss lost) s (fun m => m.ls.noGround = lost ∧ Driven m
      ∧ (lost = true → ∀ k < 12, (switch m k).on = false))) ∧
    (∀ rev, Completes (.reverseSupply rev) s (fun m => m.ls.reversed = rev)) ∧
    (cxAlive s.node = false → Completes .loadSwitchCxLoss s (fun m => m.ls.cxOff = true
      ∧ ∀ k < 12, underLimp m k = false → (switch m k).on = false))

/-- Protection of a load-switch channel: failures, pauses, latches, sheds and open loads (R450 to R453, R456). -/
def Clause.LoadSwitchProtection : Prop :=
  ∀ (s : State) (k : Fin 12), lsOn s.node →
    ((switch s.node k.val).on = true → s.node.ls.reversed = false → Completes (.channelFailure k) s (fun m =>
      (switch m k.val).on = false ∧ (switch m k.val).fails = (switch s.node k.val).fails + 1
        ∧ gf m R.LS_EVT F.LS_EVT_FAIL = 1 ∧ Counted s.node m (R.LS_CNT 0)
        ∧ (nlatch s.node k.val ≤ (switch s.node k.val).fails + 1 → (switch m k.val).latched = true
          ∧ gf m R.LS_EVT F.LS_EVT_LATCH = 1 ∧ Counted s.node m (R.LS_CNT 1))
        ∧ ((switch s.node k.val).fails + 1 < nlatch s.node k.val →
          (switch m k.val).pause = some (8 * min 512 (2 ^ (switch s.node k.val).fails))))) ∧
    ((switch s.node k.val).pause.isSome → Completes (.retryPauseExpiry k) s (fun m =>
      (switch m k.val).pause = none ∧ Driven m)) ∧
    (∀ clr, Completes (.latchClear clr) s (fun m => Driven m ∧ ∀ j < 12, bitOf clr.toNat j = true →
      (switch m j).latched = false ∧ (switch m j).shed = false ∧ (switch m j).fails = 0)) ∧
    ((switch s.node k.val).pause = none → (switch s.node k.val).latched = false → (switch s.node k.val).shed = false →
      Completes (.failureCountReset k) s (fun m => (switch m k.val).fails = 0 ∧ Driven m)) ∧
    ((which 12 (fun j => (switch s.node j).on && !underLimp s.node j)).getLast? = some k.val →
      Completes .overloadShed s (fun m => (switch m k.val).shed = true ∧ (switch m k.val).on = false
        ∧ gf m R.LS_EVT F.LS_EVT_SHED = 1 ∧ Counted s.node m (R.LS_CNT 3))) ∧
    ((switch s.node k.val).on = false → ff s.node (R.LS_CHCFG k.val) F.LS_CHCFG_OLEN = 1 →
      Completes (.openLoadCompare k true) s (fun m =>
        (switch m k.val).above = min 8 ((switch s.node k.val).above + 1)
          ∨ ((switch m k.val).on = true ∧ (switch m k.val).above = 0)) ∧
      (7 ≤ (switch s.node k.val).above → (switch s.node k.val).open_ = false →
        Completes (.openLoadCompare k true) s (fun m => (switch m k.val).open_ = true
          ∧ gf m R.LS_EVT F.LS_EVT_OPEN = 1 ∧ Counted s.node m (R.LS_CNT 2))) ∧
      (7 ≤ (switch s.node k.val).below → Completes (.openLoadCompare k false) s (fun m =>
        (switch m k.val).open_ = false)))

/-- The frame of the load-switch commands: the registers of LS, what the node keeps of its channels, its outputs and the
logs; everything else stays. -/
def Clause.LoadSwitchFrame : Prop :=
  ∀ (s t : State) (k : Fin 12) (b : Bool) (clr : BitVec 12) (c : Instr),
    c ∈ ([.swinChange k b, .limpHomeStart, .limpHomeEnd, .channelFailure k, .retryPauseExpiry k, .latchClear clr,
      .failureCountReset k, .overloadShed, .vswUndervoltage, .vswRestored, .openLoadCompare k b, .groundLoss b,
      .reverseSupply b, .loadSwitchCxLoss] : List Instr) → exec c s = .next t →
    Frame (logParts ++ [.out, .ls]) (blocks [6, 8, 17]) s.node t.node ∧ t.pending = s.pending

/-- Ring `k` runs command `c`, which waits for nothing and whose response, with no session to end and no reset asked for, is
all that follows it. -/
def Running (s : State) (k : Fin 8) (op : Nat) (c : Cmd) : Prop :=
  hostOn s.node ∧ (ring s.node k.val).cur = some c ∧ c.opcode = op ∧ (ring s.node k.val).wait = .none
    ∧ s.node.pw.softReset = false

/-- The command of ring `k` has ended: `m` is the node after `respond` from a node `n` whose registers, but for the named
change, are those before. -/
def Answered (s : State) (k : Fin 8) (status : Nat) (results : List Byte) (m : Node) : Prop :=
  m = keepId s.node (respond (quiet s.node) k.val status results)

/-- The response of a command frees its ring, is counted, once more when its STATUS is not 0, raises DONE by one modulo its
width, and lies in the response queue where that has room (R313, Table HB-5). -/
def Clause.ResponseEndsCommand : Prop :=
  ∀ (n : Node) (k status : Nat) (results : List Byte) (c : Cmd), k < 7 → (ring n k).cur = some c →
    (ring n k).flush = false → c.session = 0 → c.tagged = false → n.pw.softReset = false →
    ring (respond n k status results) k = {}
      ∧ Counted n (respond n k status results) (R.HB_CNT 0)
      ∧ (status ≠ 0 → Counted n (respond n k status results) (R.HB_CNT 1))
      ∧ (status = 0 → rd (respond n k status results) (R.HB_CNT 1) = rd n (R.HB_CNT 1))
      ∧ gf (respond n k status results) (R.HB_RINGSTAT k) F.HB_RINGSTAT_DONE =
          (gf n (R.HB_RINGSTAT k) F.HB_RINGSTAT_DONE + 1) % 2 ^ 16
      ∧ ((desc n (rspQueue k)).room (frameCells (24 + results.length)) → (desc n (rspQueue k)).kind = .frame →
          24 + results.length ≤ 16368 →
          (desc (respond n k status results) (rspQueue k)).tail =
            ((desc n (rspQueue k)).tail + frameCells (24 + results.length)) % 2 ^ 24)

/-- The command set of Table HB-6: what each command answers, from the registers, the host view and the logs (R314). -/
def Clause.CommandSet : Prop :=
  ∀ (s : State) (k : Fin 8) (c : Cmd),
    (Running s k 1 c → c.params.length ≤ 1024 → Completes (.cmdNop k) s (Answered s k 0 c.params)) ∧
    (Running s k 2 c → c.params = [] → Completes (.cmdSummary k) s (fun m =>
      (ring m k.val).wait = .summary ∧ (ring m k.val).cur = some c ∧ Frame [.out, .hb] (fun _ => false) s.node m)) ∧
    (∀ a, Running s k 3 c → c.params.length = 8 → countOk c.params → le c.params 4 2 = 1 →
      reach s.node (le c.params 0 4) = .here a → Completes (.cmdRegread k) s (fun m =>
        m = keepId s.node (respond (readReg (quiet s.node) (cmdAccess s.node k.val) a).1 k.val 0
          (leBytes 4 (cnNow (readReg (quiet s.node) (cmdAccess s.node k.val) a).1)
            ++ leBytes 4 (readReg (quiet s.node) (cmdAccess s.node k.val) a).2.toNat)))) ∧
    (∀ a n', Running s k 4 c → c.params.length = 12 → countOk c.params → le c.params 4 2 = 1 →
      reach s.node (le c.params 0 4) = .here a → isRegister a → a / 0x100000 ≠ 16 →
      writeReg (quiet s.node) (cmdAccess s.node k.val) a (BitVec.ofNat 32 (le c.params 8 4)) = (n', true) →
      Completes (.cmdRegwrite k) s (fun m => m = keepId s.node (respond n' k.val 0 (writeResults 1)))) ∧
    (∀ n' old, Running s k 5 c → c.params.length = 12 → le c.params 0 4 % 4 = 0 → inWindows (le c.params 0 4) = false →
      isRegister (le c.params 0 4) → readReg (quiet s.node) (cmdAccess s.node k.val) (le c.params 0 4) = (n', old) →
      Completes (.cmdRegmodify k) s (fun m => ∃ x ok,
        writeReg n' (cmdAccess n' k.val) (le c.params 0 4)
            ((old &&& ~~~ (BitVec.ofNat 32 (le c.params 4 4)))
              ||| (BitVec.ofNat 32 (le c.params 8 4) &&& BitVec.ofNat 32 (le c.params 4 4))) = (x, ok)
          ∧ m = keepId s.node (respond x k.val (if ok then 0 else 5) (leBytes 4 old.toNat)))) ∧
    (Running s k 6 c → c.params.length = 8 → le c.params 4 4 % 4 = 0 → 4 ≤ le c.params 4 4 → le c.params 4 4 ≤ 16000 →
      le c.params 0 4 + le c.params 4 4 ≤ 0x20000 → Completes (.cmdImageread k) s (Answered s k 0
        (readBytes s.node.view 0 6 ++ leBytes 2 0 ++ (List.range (le c.params 4 4)).map (fun i =>
          if le c.params 0 4 + i < imgEnd then look 0#8 s.node.view (le c.params 0 4 + i) else 0#8)))) ∧
    (Running s k 7 c → c.params.length = 6 → le c.params 0 1 ≤ 1 → 1 ≤ le c.params 4 2 → le c.params 4 2 ≤ 128 →
      Completes (.cmdLogread k) s (Answered s k 0
        ((((logArea s.node (le c.params 0 1)).drop (le c.params 2 2)).take (le c.params 4 2)).flatMap EventRecord.bytes))) ∧
    (Running s k 8 c → c.params.length = 40 → (le c.params 1 1 = 1 ∨ le c.params 1 1 = 2) → le c.params 5 1 ≤ 32 →
      mayPropose s.node → Completes (.proposeCommand k) s (fun m =>
        (ring m k.val).wait = .proposal ((s.node.inn.pseq + 1) % 65536)
          ∧ m.inn.pseq = (s.node.inn.pseq + 1) % 65536 ∧ Counted s.node m (R.IN_CNT 2)))

/-- A command starts when its ring is idle and its response ring has room: it leaves the command queue and becomes the ring's
command in progress; one with an opcode that does not exist is answered at once (R313, R314). -/
def Clause.CommandStarts : Prop :=
  ∀ (s : State) (k : Fin 8) (h : FrameHeader) (b : List Byte), hostOn s.node → k.val ≠ 7 → ringStopped s.node k.val = false →
    (ring s.node k.val).cur = none → peekFrame s.node (cmdQueue k.val) = some (h, b) →
    (desc s.node (rspQueue k.val)).room (responseCells (parseCmd b)) → (parseCmd b).session = 0 → (parseCmd b).tagged = false →
    (commandRoles (parseCmd b).opcode = none → (parseCmd b).lenOk → opcodes.contains (parseCmd b).opcode →
      Completes (.commandStart k) s (fun m =>
        (ring m k.val).cur = some ((parseCmd b).cmd 0 false) ∧ (ring m k.val).wait = .none
          ∧ (desc m (cmdQueue k.val)).head = (desc (popFrame s.node (cmdQueue k.val)).1 (cmdQueue k.val)).head)) ∧
    (opcodes.contains (parseCmd b).opcode = false → Completes (.commandStart k) s (fun m =>
      m = keepId s.node (respond (setRing (popFrame (quiet s.node) (cmdQueue k.val)).1 k.val
        { cur := some ((parseCmd b).cmd 0 false) }) k.val 1 [])))

/-- Training of a line port step by step, with what each step writes (R38, R40, R41, R44; Tables LP-3, LP-5). -/
def Clause.LinePortTraining : Prop :=
  ∀ (s : State) (p : Fin 5), p.val < 4 →
    (portState s.node p.val = 1 → Completes (.pllLocked p) s (fun m => portState m p.val = 2 ∧
      m.out = if ff s.node (R.LP_PORTCFG p.val) F.LP_PORTCFG_WAKEFIRST = 1 then [.wakeTone p.val] else [])) ∧
    (portState s.node p.val = 2 → (port s.node p.val).hold = false → Completes (.partnerEnergyDetect p) s (fun m =>
      portState m p.val = 3 ∧ Counted s.node m (R.LP_CNT p.val 5))) ∧
    (∀ p10 p1, portState s.node p.val = 3 → (offeredRates s.node p.val).1 && p10 →
      Completes (.ratesAgreed p p10 p1) s (fun m =>
        portState m p.val = 4 ∧ gf m (R.LP_PORTSTAT p.val) F.LP_PORTSTAT_RATE = 1)) ∧
    (∀ p10 p1, portState s.node p.val = 3 → ((offeredRates s.node p.val).1 && p10) = false →
      (offeredRates s.node p.val).2 && p1 → Completes (.ratesAgreed p p10 p1) s (fun m =>
        portState m p.val = 4 ∧ gf m (R.LP_PORTSTAT p.val) F.LP_PORTSTAT_RATE = 2)) ∧
    (portState s.node p.val = 4 → Completes (.trainingConverged p) s (fun m => portState m p.val = 5)) ∧
    (portState s.node p.val = 5 → Completes (.blockLockAcquired p) s (fun m => portState m p.val = 6)) ∧
    (∀ u vt ch side, portState s.node p.val = 6 → Completes (.identitiesExchanged p u vt ch side) s (fun m =>
      portState m p.val = 7 ∧ partnerUid m p.val = u.toNat
        ∧ gf m (R.LP_PARTNERPORT p.val) F.LP_PARTNERPORT_VALID = 1
        ∧ gf m (R.LP_PARTNERPORT p.val) F.LP_PARTNERPORT_KIND = b2n vt
        ∧ gf m (R.LP_PARTNERPORT p.val) F.LP_PARTNERPORT_CHAN = ch.val
        ∧ gf m (R.LP_PARTNERPORT p.val) F.LP_PARTNERPORT_SIDE = side.val
        ∧ gf m (R.LP_PORTSTAT p.val) F.LP_PORTSTAT_FAILCNT = 0
        ∧ gf m (R.LP_PORTEVT p.val) F.LP_PORTEVT_UP = 1)) ∧
    (∀ nr, 3 ≤ portState s.node p.val → portState s.node p.val ≤ 6 →
      Completes (.trainingStepFailure p nr) s (fun m => portState m p.val = 8
        ∧ gf m (R.LP_PORTSTAT p.val) F.LP_PORTSTAT_FAILCAUSE =
            (if portState s.node p.val = 3 then (if nr then 2 else 1) else portState s.node p.val - 1)
        ∧ gf m (R.LP_PORTSTAT p.val) F.LP_PORTSTAT_FAILCNT =
            min (gf s.node (R.LP_PORTSTAT p.val) F.LP_PORTSTAT_FAILCNT + 1) 15
        ∧ gf m (R.LP_PORTEVT p.val) F.LP_PORTEVT_TRAINFAIL = 1
        ∧ Counted s.node m (R.LP_CNT p.val 6))) ∧
    (portState s.node p.val = 8 → Completes (.backoffExpiry p) s (fun m => portState m p.val = 2))

/-- Training of the pair port, port 4 of the training commands (R174). -/
def Clause.PairPortTraining : Prop :=
  ∀ s : State,
    (pairPortState s.node = 1 → Completes (.pllLocked 4) s (fun m => pairPortState m = 2)) ∧
    (pairPortState s.node = 2 → Completes (.partnerEnergyDetect 4) s (fun m => pairPortState m = 4)) ∧
    (pairPortState s.node = 4 → Completes (.trainingConverged 4) s (fun m => pairPortState m = 5)) ∧
    (pairPortState s.node = 5 → Completes (.blockLockAcquired 4) s (fun m => pairPortState m = 6)) ∧
    (∀ u vt ch side, pairPortState s.node = 6 → Completes (.identitiesExchanged 4 u vt ch side) s (fun m =>
      pairPortState m = 7 ∧ m.du.partnerId = u.toNat
        ∧ gf m R.DU_PPSTAT F.DU_PPSTAT_IDOK = b2n (u.toNat == pairId s.node))) ∧
    (∀ nr, 4 ≤ pairPortState s.node → pairPortState s.node ≤ 6 →
      Completes (.trainingStepFailure 4 nr) s (fun m => pairPortState m = 8)) ∧
    (pairPortState s.node = 8 → Completes (.backoffExpiry 4) s (fun m => pairPortState m = 2)) ∧
    (∀ mid, pairPortState s.node = 7 → Completes (.linkLoss 4 mid) s (fun m =>
      pairPortState m = 2 ∧ gf m R.DU_PPSTAT F.DU_PPSTAT_IDOK = 0)) ∧
    (∀ mid, pairPortState s.node = 7 → Completes (.linkDropReceived 4 mid) s (fun m =>
      pairPortState m = 2 ∧ gf m R.DU_PPSTAT F.DU_PPSTAT_IDOK = 0))

/-- A port in UP that loses its link, or is told to drop it, leaves UP for DETECT: the partner is no longer valid, the
port no longer forwards and shows no hold reason, and the re-entry hold begins until its expiry (R42, R43). -/
def Clause.LinePortLinkLoss : Prop :=
  ∀ (s : State) (p : Fin 5) (mid : Bool), p.val < 4 → portUp s.node p.val →
    Completes (.linkLoss p mid) s (fun m => portState m p.val = 2 ∧ portFwd m p.val = false
      ∧ holdReason m p.val = 0 ∧ gf m (R.LP_PARTNERPORT p.val) F.LP_PARTNERPORT_VALID = 0
      ∧ gf m (R.LP_PORTEVT p.val) F.LP_PORTEVT_DOWN = 1 ∧ Counted s.node m (R.LP_CNT p.val 4)
      ∧ (port m p.val).hold = true) ∧
    Completes (.linkDropReceived p mid) s (fun m => portState m p.val = 2 ∧ portFwd m p.val = false
      ∧ holdReason m p.val = 0 ∧ gf m (R.LP_PARTNERPORT p.val) F.LP_PARTNERPORT_VALID = 0
      ∧ gf m (R.LP_PORTEVT p.val) F.LP_PORTEVT_DOWN = 1 ∧ gf m (R.LP_PORTEVT p.val) F.LP_PORTEVT_DROP = 1
      ∧ (port m p.val).hold = true) ∧
    (∀ q : Fin 4, Completes (.reentryHoldExpiry q) s (fun m => (port m q.val).hold = false))

/-- The frame of the training and link commands: only the port's own registers and, where its delay average ends, its
TB_LINKDLY; only the records of the line and of what the node keeps of its ports and partner; and the logs. -/
def Clause.LinePortFrame : Prop :=
  ∀ (s t : State) (p : Fin 5) (c : Instr) (u : Uid) (vt a b : Bool) (ch : Fin 2) (side : Fin 4),
    c ∈ ([.pllLocked p, .partnerEnergyDetect p, .ratesAgreed p a b, .trainingConverged p, .blockLockAcquired p,
      .identitiesExchanged p u vt ch side, .trainingStepFailure p a, .backoffExpiry p, .linkLoss p a,
      .linkDropReceived p a] : List Instr) → exec c s = .next t →
    Frame (logParts ++ [.out, .line, .inn, .du]) (fun r => portRegs p.val r || r == R.TB_LINKDLY p.val
      || blocks logBlocks r) s.node t.node ∧ t.pending = s.pending

/-- A boundary exists while the time base of a powered node runs.  With the application plane up it runs the whole
sequence, without it what the line dies and PX do alone; elsewhere nothing but the outputs of the last command changes
(R17, Table AC-4, Table AC-7). -/
def Clause.BoundaryRuns : Prop :=
  ∀ (s : State) (b : BoundaryIn),
    (lineOn s.node → s.node.tb.running → cxAlive s.node →
      Completes (.localBoundary b) s (fun m => m = keepId s.node (liveBoundary (quiet s.node) b))) ∧
    (lineOn s.node → s.node.tb.running → cxAlive s.node = false →
      Completes (.localBoundary b) s (fun m => m = keepId s.node (stoppedBoundary (quiet s.node) b))) ∧
    (lineOn s.node = false ∨ s.node.tb.running = false →
      Completes (.localBoundary b) s (fun m => Frame [.out] (fun _ => false) s.node m))

/-- After 64 boundaries with HOLD the node releases the host view and records it (R26). -/
def Clause.ImageHoldExpires : Prop :=
  ∀ s : State, gf s.node R.AC_IMGCTL F.AC_IMGCTL_HOLD = 1 → 64 ≤ s.node.holdRun →
    Completes .imageHoldExpiry s (fun m => gf m R.AC_IMGCTL F.AC_IMGCTL_HOLD = 0
      ∧ gf m R.AC_IMGSTAT F.AC_IMGSTAT_HELD = 0 ∧ gf m R.AC_IMGSTAT F.AC_IMGSTAT_HOLDEXP = 1 ∧ m.holdRun = 0
      ∧ m.qm.log.lseq = s.node.qm.log.lseq + 1#16
      ∧ Frame (logParts ++ [.out, .holdRun]) (fun a => a == R.AC_IMGCTL || a == R.AC_IMGSTAT || blocks logBlocks a) s.node m)

/-- A die in use that fails shows FAILED with the lower of its causes and sets its bits of AC_HEALTHSUM; a failed die
stays failed.  A node whose CX heartbeat stops halts every engine (R30, R31, R76; Tables AC-7, AC-8). -/
def Clause.DiesFail : Prop :=
  ∀ s : State, lineOn s.node →
    (∀ (die : Fin 8) (cause : Fin 7) (other : Option (Fin 7)), dieFailed s.node die.val = false →
      (die.val = 3 → isRun s.node) → Completes (.dieFailure die cause other) s (fun m =>
        dieState m die.val = 4
          ∧ gf m (R.AC_DIEHEALTH die.val) F.AC_DIEHEALTH_CAUSE = min (cause.val + 1) (other.elim 8 (fun o => o.val + 1))
          ∧ gf m R.AC_HEALTHSUM ⟨die.val, 1⟩ = 1 ∧ gf m R.AC_HEALTHSUM ⟨16 + die.val, 1⟩ = 1)) ∧
    (∀ (die : Fin 8) (cause : Fin 7) (other : Option (Fin 7)), dieFailed s.node die.val →
      Completes (.dieFailure die cause other) s (fun m => Frame [.out] (fun _ => false) s.node m)) ∧
    (cxAlive s.node → Completes .cxHeartbeatStop s (fun m => cxAlive m = false ∧ (∀ e < 32, executing (engine m e) = false)
      ∧ Frame [.out, .line, .mil] (fun _ => false) s.node m))

/-- The operations of QM_QSEL on a powered node: what each leaves in the descriptor, in the queue's cells and in the
registers it shows (R260 to R262, R265, R268). -/
def Clause.QueueOperations : Prop :=
  ∀ (s : State) (q : Fin 1048576), lineOn s.node →
    Completes (.qselRead q) s (fun m => (∀ k < 4, rd m (R.QM_QDATA k) = BitVec.ofNat 32 (le (desc s.node q.val).bytes (4 * k) 4))
      ∧ gf m R.QM_QSEL F.QM_QSEL_RESULT = 0 ∧ desc m q.val = desc s.node q.val) ∧
    ((qdataDesc s.node).size ≤ 23 → 256 ≤ q.val →
      (qdataDesc s.node).base + 2 ^ (qdataDesc s.node).size ≤ poolCells s.node →
      (desc s.node q.val).kind = .off ∨ (desc s.node q.val).fill = 0 →
      Completes (.qselWrite q) s (fun m => desc m q.val = qdataDesc s.node ∧ gf m R.QM_QSEL F.QM_QSEL_RESULT = 0)) ∧
    (256 ≤ q.val → Completes (.qselFlush q) s (fun m => (desc m q.val).fill = 0
      ∧ (desc m q.val).head = (desc s.node q.val).tail ∧ gf m R.QM_QSEL F.QM_QSEL_RESULT = 0)) ∧
    ((q.val < 16 ∨ 23 < q.val) → (desc s.node q.val).room 1 →
      ((desc s.node q.val).kind = .frame → hdrLen (qmCell s.node) ≤ 112) →
      Completes (.qselPush q) s (fun m => gf m R.QM_QSEL F.QM_QSEL_RESULT = 0
        ∧ (desc m q.val).tail = ((desc s.node q.val).tail + 1) % 2 ^ 24 ∧ (desc m q.val).head = (desc s.node q.val).head
        ∧ ∀ i < 128, look 0#8 m.dram (cellAddr s.node (desc s.node q.val) (desc s.node q.val).tail + i)
            = (qmCell s.node).getD i 0#8)) ∧
    (∀ h, headEntry s.node q.val = some h → h.damaged = false → h.cells = 1 →
      Completes (.qselPop q) s (fun m => gf m R.QM_QSEL F.QM_QSEL_RESULT = 0
        ∧ (∀ k < 32, rd m (R.QM_CELL k) = BitVec.ofNat 32 (le (cut h.bytes 0 128) (4 * k) 4))
        ∧ (desc m q.val).head = ((desc s.node q.val).head + 1) % 2 ^ 24 ∧ Counted s.node m (R.QM_CNT 1))) ∧
    Completes (.qselLen q) s (fun m => rd m R.QM_QLEN = BitVec.ofNat 32 (desc s.node q.val).fill
      ∧ desc m q.val = desc s.node q.val) ∧
    (∀ h, headEntry s.node q.val = some h → h.damaged = false → Completes (.qselAdvance q) s (fun m =>
      gf m R.QM_QSEL F.QM_QSEL_RESULT = 0
        ∧ (desc m q.val).head = ((desc s.node q.val).head + h.cells) % 2 ^ 24)) ∧
    Completes (.qselReservedOp q) s (fun m => gf m R.QM_QSEL F.QM_QSEL_RESULT = 6 ∧ gf m R.QM_EVT F.QM_EVT_REFUSED = 1
      ∧ desc m q.val = desc s.node q.val)

/-- A cell pushed into a cell queue that has room comes after the cells already there and leaves them in their order: the
cell in every earlier place reads as before, and the new place reads the pushed bytes (R259, R262). -/
def Obligations.QueueKeepsOrder : Prop :=
  ∀ (n : Node) (q : Nat) (bs : List Byte), (desc n q).kind = .cell → (desc n q).size ≤ 23 → (desc n q).fill < 2 ^ (desc n q).size →
    bs.length = 128 → (∀ k i, i < 128 → inTable n (cellAddr n (desc n q) k + i) = false) →
    (pushCell n q bs).2 = true
    ∧ (desc (pushCell n q bs).1 q).fill = (desc n q).fill + 1
    ∧ readCells (pushCell n q bs).1 (desc n q) ((desc n q).head + (desc n q).fill) 1 = bs
    ∧ ∀ i < (desc n q).fill, readCells (pushCell n q bs).1 (desc n q) ((desc n q).head + i) 1
        = readCells n (desc n q) ((desc n q).head + i) 1

/-- Weirs and the descriptor table (R260, R267, R269). -/
def Clause.WeirOperations : Prop :=
  ∀ (s : State) (w : Fin 65536), lineOn s.node →
    Completes (.wselRead w) s (fun m => rd m R.QM_WRATE = BitVec.ofNat 32 (weir s.node w.val).rate
      ∧ rd m R.QM_WBURST = BitVec.ofNat 32 (weir s.node w.val).burst
      ∧ rd m R.QM_WTOK = BitVec.ofInt 32 ((weir s.node w.val).tok / 256)) ∧
    Completes (.wselWrite w) s (fun m => weir m w.val = { weir s.node w.val with
      writes := (weir s.node w.val).writes ++
        [((rd s.node R.QM_WRATE).toNat, bits (rd s.node R.QM_WBURST).toNat 0 24, shadowWait s.node)] }) ∧
    Completes (.wselForgive w) s (fun m => weir m w.val = { weir s.node w.val with forgive := true }) ∧
    Completes (.wselReservedOp w) s (fun m => gf m R.QM_EVT F.QM_EVT_REFUSED = 1 ∧ weir m w.val = weir s.node w.val) ∧
    (∀ a : BitVec 32, inTable s.node a.toNat → Completes (.descriptorTableWrite a) s (fun m =>
      gf m R.QM_EVT F.QM_EVT_TABWR = 1 ∧ Counted s.node m (R.QM_CNT 10) ∧ m.qm.tabWrLogged = true))

/-- The log paths: a class S record becomes visible, with its event bit, when its caddy write completes; batches join the
history ring, of which the newest 16,384 records stay, and are dropped while NV is FAILED; a read of QM_RECENT[0] latches
the recent buffer (R274 to R277). -/
def Clause.LogPaths : Prop :=
  ∀ s : State, lineOn s.node →
    (∀ w rest, s.node.qm.log.waiting = w :: rest →
      (s.node.qm.log.safety.filter (fun e => e.kept == !nvFailed s.node)).length < 256 →
      Completes .safetyRecordPersist s (fun m => m.qm.log.waiting = rest
        ∧ m.qm.log.safety = s.node.qm.log.safety ++
            [⟨s.node.qm.log.safetyNum, { w.record with unpersisted := nvFailed s.node }, !nvFailed s.node⟩]
        ∧ m.qm.log.recent.head? = some { w.record with unpersisted := nvFailed s.node }
        ∧ (∀ a b, w.evtReg = some (a, b) → b < 32 → rbit m a b = true))) ∧
    (∀ e, s.node.qm.log.safety.find? (fun e => decide ((logPath s.node 16).next ≤ e.num)) = some e →
      (desc s.node 16).room 1 → Completes (.safetyRecordDeliver false) s (fun m => (logPath m 16).next = e.num + 1)) ∧
    (nvFailed s.node = false → Completes .historyBatchWrite s (fun m => m.qm.log.batch = []
      ∧ m.qm.log.history = (s.node.qm.log.history ++ s.node.qm.log.batch).drop
          ((s.node.qm.log.history ++ s.node.qm.log.batch).length - 16384))) ∧
    (nvFailed s.node → Completes .historyBatchWrite s (fun m => m.qm.log.batch = []
      ∧ m.qm.log.history = s.node.qm.log.history)) ∧
    (∀ (k : Fin 8) x xs, (logPath s.node (16 + k.val)).supp = x :: xs → (desc s.node (16 + k.val)).room 1 →
      Completes (.summaryRecordEmit k) s (fun m => gf m R.QM_EVT F.QM_EVT_SUMMARY = 1
        ∧ (logPath m (16 + k.val)).supp.length ≤ xs.length)) ∧
    (∀ k : Fin 128, Completes (.recentRead k) s (fun m =>
      m.out = [.word (readRecent s.node k.val).2]
        ∧ m.qm.log.latched = if k.val = 0 then s.node.qm.log.recent else s.node.qm.log.latched))

/-- The frame of the queue manager's commands: only registers of QM and MK, queues, weirs and logs, the cells of queues in
DRAM, firings and outputs change; a class S record's own event bit is set besides. -/
def Clause.QueueManagerFrame : Prop :=
  ∀ (s t : State) (q : Fin 1048576) (w : Fin 65536) (a : BitVec 32) (line : Bool) (k : Fin 8) (j : Fin 128) (c : Instr),
    c ∈ ([.qselRead q, .qselWrite q, .qselFlush q, .qselPush q, .qselPop q, .qselLen q, .qselAdvance q, .qselReservedOp q,
      .wselRead w, .wselWrite w, .wselForgive w, .wselReservedOp w, .descriptorTableWrite a, .safetyRecordPersist,
      .safetyRecordDeliver line, .historyBatchWrite, .summaryRecordEmit k, .recentRead j] : List Instr) →
    exec c s = .next t →
    Frame (.out :: logParts) (fun r => blocks logBlocks r
      || (c == .safetyRecordPersist && s.node.qm.log.waiting.head?.any (fun w => w.evtReg.any (fun e => e.1 == r))))
      s.node t.node ∧ t.pending = s.pending

/-- The address a direct access uses: the low two bits are not used (R6). -/
def wordAddr (a : BitVec 32) : Nat := a.toNat - a.toNat % 4

/-- A direct read of a register without a read effect of its own puts out the word it shows and clears its RC bits; a read
of an address with nothing there returns 0, and a read or write there only records an event with the address (R7, R8, R10). -/
def Clause.RegisterReads : Prop :=
  ∀ (s : State) (i : Fin 2) (addr : BitVec 32), ifaceOn s.node i.val → inWindows addr.toNat = false →
    (∀ r, isRegister (wordAddr addr) → readEffect s.node (wordAddr addr) = none → regSpec (wordAddr addr) = some r →
      Completes (.rcRead i addr) s (fun m => m.out = [.word (peek s.node { iface := i.val } (wordAddr addr))]
        ∧ (r.rc ≠ 0 → rd m (wordAddr addr) = peek s.node { iface := i.val } (wordAddr addr) &&& ~~~ (BitVec.ofNat 32 r.rc))
        ∧ Frame [.out, .hb] (fun a => a == wordAddr addr && r.rc != 0) s.node m)) ∧
    (isRegister (wordAddr addr) = false → inWindows (wordAddr addr) = false →
      Completes (.reservedAddressAccess i addr false) s (fun m => m.out = [.word 0#32]
        ∧ m.qm.log.lseq = s.node.qm.log.lseq + 1#16 ∧ Frame (.out :: logParts) (blocks logBlocks) s.node m) ∧
      Completes (.reservedAddressAccess i addr true) s (fun m => m.out = []
        ∧ m.qm.log.lseq = s.node.qm.log.lseq + 1#16 ∧ Frame (.out :: logParts) (blocks logBlocks) s.node m)) ∧
    (inWindows (wordAddr addr) = false → wordAddr addr / 0x100000 = 16 → isRegister (wordAddr addr) →
      Completes (.reservedAddressAccess i addr true) s (fun m =>
        m.qm.log.lseq = s.node.qm.log.lseq + 1#16 ∧ rd m (wordAddr addr) = rd s.node (wordAddr addr)))

/-- A direct write of a plain register: RW and RW-S bits take the written value, W1C bits written with 1 clear, other bits
stay; an RW-S write waits for its boundary and does not change the value in force (R8, R9, R18, Table SC-6).  Stated for
the blocks whose registers have no further effect of a write: LC, IN, DU, AU, CF, SE, ST and LS. -/
def Clause.RegisterWrites : Prop :=
  ∀ (s : State) (i : Fin 2) (addr v : BitVec 32) (r : RegSpec), ifaceOn s.node i.val → inWindows addr.toNat = false →
    regSpec (wordAddr addr) = some r → blockOf (wordAddr addr) ∈ [3, 4, 5, 7, 9, 11, 12, 17] →
    writeLocked s.node { iface := i.val } (wordAddr addr) = false → protectedRoles (wordAddr addr) v = none →
    writeCommand (defaultEvents (quiet s.node) (wordAddr addr) v) { iface := i.val } (wordAddr addr) v = none →
    lineMode s.node ≠ 2 →
    Completes (.registerWrite i addr v) s (fun m =>
      rd m (wordAddr addr) = ((rd s.node (wordAddr addr) &&& ~~~ (BitVec.ofNat 32 (r.rw ||| r.rws)))
          ||| (v &&& BitVec.ofNat 32 (r.rw ||| r.rws))) &&& ~~~ (v &&& BitVec.ofNat 32 r.w1c)
        ∧ inForce m (wordAddr addr) = inForce s.node (wordAddr addr)
        ∧ (r.rws ≠ 0 → (⟨wordAddr addr, rd m (wordAddr addr), shadowWait s.node⟩ : ShadowWrite) ∈ m.shadow)
        ∧ Frame (logParts ++ [.out, .hb, .shadow])
            (fun a => a == wordAddr addr || (a == R.AC_SHADOWSTAT && r.rws != 0) || blocks logBlocks a) s.node m)

/-- A direct write to a protected register is counted and reported and changes nothing else; so is a write with some but not
all byte enables, and a write through a remote window that cannot be used (R303, R315, R323). -/
def Clause.RefusedWrites : Prop :=
  ∀ (s : State) (i : Fin 2) (addr v : BitVec 32), ifaceOn s.node i.val →
    ((isRegister (wordAddr addr) || inWindows (wordAddr addr)) → ((protectedRoles (wordAddr addr) 0#32).isSome
        || writeLocked s.node { iface := i.val } (wordAddr addr)) →
      Completes (.protectedWrite i addr) s (fun m => gf m R.HB_EVT F.HB_EVT_PROTWR = 1 ∧ Counted s.node m (R.HB_CNT 12)
        ∧ Frame (.out :: logParts) (fun a => a == R.HB_EVT || a == R.HB_CNT 12 || blocks logBlocks a) s.node m)) ∧
    (∀ e : BitVec 4, ifaceOn s.node 0 → e ≠ 0#4 → e ≠ 15#4 → Completes (.partialWrite addr e) s (fun m =>
      Counted s.node m (R.HB_CNT 12)
        ∧ Frame (.out :: logParts) (fun a => a == R.HB_CNT 12 || blocks logBlocks a) s.node m)) ∧
    (inWindows addr.toNat → writeLocked s.node { iface := i.val } addr.toNat = false → reach s.node addr.toNat = .unusable →
      Completes (.remoteWindowWrite i addr v) s (fun m => gf m R.HB_EVT F.HB_EVT_RWDROP = 1 ∧ Counted s.node m (R.HB_CNT 7)
        ∧ rd m R.HB_RAWERR = BitVec.ofNat 32 (7 * 2 ^ 29 + addr.toNat % 0x10000000 % 2 ^ 29)))

/-- Remote windows: a first read of another node opens a fetch and returns all ones with RESULT 1, a read of a fetch that
holds its data returns it and frees the entry, and a write is posted behind those before it (R321 to R323). -/
def Clause.RemoteWindows : Prop :=
  ∀ (s : State) (i : Fin 2) (addr v : BitVec 32) (node ra : Nat), ifaceOn s.node i.val → inWindows addr.toNat →
    reach s.node addr.toNat = .there node ra →
    (fetchFor s.node i.val (windowOffset addr.toNat) = none → s.node.hb.fetch.length < 32 →
      Completes (.remoteWindowRead i addr) s (fun m => m.out = [.word 0xFFFFFFFF#32]
        ∧ m.hb.fetch = s.node.hb.fetch ++ [newRequest s.node i.val (windowOffset addr.toNat) node ra none]
        ∧ look (0, 0) m.hb.ralast i.val = (1, addr.toNat) ∧ Frame [.out, .hb] (fun _ => false) s.node m)) ∧
    (∀ r d left, fetchFor s.node i.val (windowOffset addr.toNat) = some r → r.st = .data d left →
      Completes (.remoteWindowRead i addr) s (fun m => m.out = [.word d]
        ∧ m.hb.fetch = s.node.hb.fetch.filter (fun q => q.ord != r.ord)
        ∧ look (0, 0) m.hb.ralast i.val = (0, addr.toNat) ∧ Frame [.out, .hb] (fun _ => false) s.node m)) ∧
    (writeLocked s.node { iface := i.val } addr.toNat = false → s.node.hb.writes.length < 64 →
      Completes (.remoteWindowWrite i addr v) s (fun m =>
        m.hb.writes = s.node.hb.writes ++ [newRequest s.node i.val (windowOffset addr.toNat) node ra (some v)]
          ∧ m.hb.ord = s.node.hb.ord + 1 ∧ Frame [.out, .hb] (fun _ => false) s.node m))

/-- Doorbells, flushes and acknowledgements: a valid doorbell moves its queue's count, an invalid one stops the ring until
a FLUSH, which empties both queues; an acknowledgement arms its vectors (R311 to R313, R318). -/
def Clause.RingDoorbells : Prop :=
  ∀ (s : State) (i : Fin 2) (k : Fin 8), ifaceOn s.node i.val → ownsRing i.val k.val →
    (∀ tail : BitVec 24, ringStopped s.node k.val = false → (tailDoorbell s.node (cmdQueue k.val) tail.toNat).isSome →
      Completes (.cmdDoorbell i k tail) s (fun m => gf m (R.HB_CMDDB k.val) F.HB_CMDDB_COUNT = tail.toNat
        ∧ (desc m (cmdQueue k.val)).tail = tail.toNat ∧ ringStopped m k.val = false)) ∧
    (∀ tail : BitVec 24, ringStopped s.node k.val = false → tailDoorbell s.node (cmdQueue k.val) tail.toNat = none →
      Completes (.cmdDoorbell i k tail) s (fun m => ringStopped m k.val = true ∧ gf m R.HB_EVT F.HB_EVT_RINGERR = 1
        ∧ m.qm = s.node.qm)) ∧
    (∀ head : BitVec 24, ringStopped s.node k.val = false → headDoorbell s.node (rspQueue k.val) head.toNat = none →
      Completes (.rspDoorbell i k head) s (fun m => ringStopped m k.val = true ∧ gf m R.HB_EVT F.HB_EVT_RINGERR = 1
        ∧ m.qm = s.node.qm)) ∧
    (∀ head : BitVec 24, ringStopped s.node k.val = false → (headDoorbell s.node (rspQueue k.val) head.toNat).isSome →
      Completes (.rspDoorbell i k head) s (fun m => gf m (R.HB_RSPDB k.val) F.HB_RSPDB_COUNT = head.toNat
        ∧ ringStopped m k.val = false)) ∧
    Completes (.ringFlush k) s (fun m => ringStopped m k.val = false ∧ (desc m (cmdQueue k.val)).fill = 0
      ∧ (desc m (rspQueue k.val)).fill = 0 ∧ ((ring s.node k.val).cur.isSome → (ring m k.val).flush = true)) ∧
    (∀ v : BitVec 16, Completes (.irqAck v) s (fun m => m = keepId s.node (sendInterrupts (irqAck (quiet s.node) (v.setWidth 32)))))

/-- The DRAM aperture and QSPI: a read returns the bytes of DRAM, a write stores them outside the descriptor table, a word
that is late is held for the next READ of its address, and a STATUS returns the status of the last WRITE (R304, R306 to
R308). -/
def Clause.ApertureAndQspi : Prop :=
  ∀ s : State, hostOn s.node →
    (∀ (i : Fin 2) (off : BitVec 28) (len : Fin 4097), ifaceOn s.node i.val →
      Completes (.dramApertureAccess i off len none) s (fun m =>
        m.out = [.bytes (dramRead s.node (apertureAddr s.node off.toNat) (min len.val (0x10000000 - off.toNat)))]
          ∧ Frame [.out] (fun _ => false) s.node m)) ∧
    (∀ (i : Fin 2) (off : BitVec 28) (len : Fin 4097) (bs : List Byte), ifaceOn s.node i.val →
      off.toNat + bs.length ≤ 0x10000000 →
      (∀ j < bs.length, inTable s.node (apertureAddr s.node off.toNat + j) = false) →
      Completes (.dramApertureAccess i off len (some bs)) s (fun m =>
        (∀ j < bs.length, look 0#8 m.dram (apertureAddr s.node off.toNat + j) = bs.getD j 0#8)
          ∧ (∀ a, a < apertureAddr s.node off.toNat ∨ apertureAddr s.node off.toNat + bs.length ≤ a →
              look 0#8 m.dram a = look 0#8 s.node.dram a)
          ∧ Frame [.out, .dram] (fun _ => false) s.node m)) ∧
    (∀ addr : BitVec 32, s.node.hb.held = none → qspiDram (wordAddr addr) →
      Completes (.qspiRead addr 1 false) s (fun m => m.out = [.bytes (0x80#8 ::
        leBytes 4 (BitVec.ofNat 32 (le (dramRead s.node (apertureAddr s.node (wordAddr addr - 0x80000000)) 4) 0 4)).toNat)]) ∧
      Completes (.qspiRead addr 1 true) s (fun m => m.out = [.bytes [0x40#8, 0xFF#8, 0xFF#8, 0xFF#8, 0xFF#8]]
        ∧ m.hb.held.map (fun h => h.1) = some (wordAddr addr))) ∧
    (∀ (addr : BitVec 32) v rc, s.node.hb.held = some (wordAddr addr, v, rc) →
      Completes (.qspiRead addr 1 false) s (fun m => m.out = [.bytes (0x80#8 :: leBytes 4 v.toNat)] ∧ m.hb.held = none)) ∧
    (∀ (addr v : BitVec 32), qspiDram (wordAddr addr) → Completes (.qspiWrite addr [v]) s (fun m =>
      m.hb.qspiLast = 0x80 ∧ m.hb.qspiAct = true
        ∧ ((∀ j < 4, inTable s.node (apertureAddr s.node (wordAddr addr - 0x80000000) + j) = false) →
          ∀ j < 4, look 0#8 m.dram (apertureAddr s.node (wordAddr addr - 0x80000000) + j) = (leBytes 4 v.toNat).getD j 0#8))) ∧
    (∀ (addr v : BitVec 32), qspiDram (wordAddr addr) = false → qspiReg (wordAddr addr) = false →
      Completes (.qspiWrite addr [v]) s (fun m => m.hb.qspiLast = 0x90 ∧ m.dram = s.node.dram)) ∧
    Completes .qspiStatus s (fun m => m.out = [.bytes [BitVec.ofNat 8 s.node.hb.qspiLast]] ∧ m.hb.qspiAct = true)

/-- A function level reset returns the PCI Express registers to their reset values, empties its rings, forgets its MSI-X
table and its fetches and closes its sessions; PERST does the same and holds the link down until its release (R305). -/
def Clause.InterfaceResets : Prop :=
  ∀ s : State, hostOn s.node → s.node.hb.perst = false →
    (∀ c, c = .functionLevelReset ∨ c = .perstAssert → Completes c s (fun m =>
      gf m R.HB_EVT F.HB_EVT_FLR = 1 ∧ m.hb.msix = [] ∧ (∀ r ∈ m.hb.fetch, r.who ≠ 0)
        ∧ (∀ a ∈ [R.HB_DWIN, R.HB_IRQEN, R.HB_IRQMAP 0, R.HB_IRQMAP 1, R.HB_IRQMAP 2], rd m a = resetValue a)
        ∧ (∀ k < 6, ringStopped m k = false ∧ (desc m (cmdQueue k)).fill = 0)
        ∧ (∀ x ∈ m.se.sessions, x.iface = 0 → x.id = 0))) ∧
    Completes .perstAssert s (fun m => m.hb.perst = true ∧ gf m R.HB_STAT F.HB_STAT_LINKUP = 0) ∧
    (∀ (w g : Fin 3), Completes (.perstRelease (some (w, g))) { s with node := { s.node with hb := { s.node.hb with perst := true } } }
      (fun m => m.hb.perst = false ∧ gf m R.HB_STAT F.HB_STAT_LINKUP = 1 ∧ gf m R.HB_STAT F.HB_STAT_WIDTH = 2 ^ w.val
        ∧ gf m R.HB_STAT F.HB_STAT_SPEED = g.val + 1))

/-- OPEN, PROVE and CLOSE, where the lock-out admits them: a new pending entry with a number of its own, the session opened
for the right proof, the entry gone and the failure counted for a wrong one, the refusal that begins with the fifth
(R331, R332, R335, R337). -/
def Clause.SessionCommands : Prop :=
  ∀ (s : State) (k : Fin 8) (c : Cmd), c.session = 0 → c.tagged = false →
    (Running s k 0x10 c → c.params.length = 20 → 1 ≤ le c.params 0 1 → le c.params 0 1 ≤ 4 →
      (keyOf s.node (le c.params 0 1)).isSome → refusing s.node (ringIface k.val) = false → s.node.se.sessions.length < 8 →
      Completes (.sessionOpen k) s (fun m => ∃ id chal, id ≠ 0 ∧ (∀ x ∈ s.node.se.sessions, x.id ≠ id) ∧ chal.length = 16
        ∧ m.se.sessions = s.node.se.sessions ++ [{ id := id, role := le c.params 0 1, iface := ringIface k.val, hnonce := cut c.params 4 16, chal := chal, cnOpen := cnNow s.node, cnLast := cnNow s.node }])) ∧
    (Running s k 0x10 c → c.params.length = 20 → 1 ≤ le c.params 0 1 → le c.params 0 1 ≤ 4 →
      (keyOf s.node (le c.params 0 1)).isSome → refusing s.node (ringIface k.val) →
      Completes (.sessionOpen k) s (fun m => m.se.sessions = s.node.se.sessions ∧ Counted s.node m (R.SE_CNT 5)
        ∧ lockOf m (ringIface k.val) = lockOf s.node (ringIface k.val))) ∧
    (∀ x key, Running s k 0x11 c → c.params.length = 36 → session s.node (le c.params 0 4) = some x → x.isOpen = false →
      x.iface = ringIface k.val → keyOf s.node x.role = some key →
      (proofOf s.node key x = cut c.params 4 32 → Completes (.sessionProve k) s (fun m =>
        session m x.id = some { x with isOpen := true, ks := sessionKey s.node key x, idle := 0, cnOpen := cnNow s.node, cnLast := cnNow s.node }
        ∧ gf m R.SE_EVT F.SE_EVT_SESSOPEN = 1 ∧ Counted s.node m (R.SE_CNT 0) ∧ (lockOf m x.iface).fails = 0)) ∧
      (proofOf s.node key x ≠ cut c.params 4 32 → Completes (.sessionProve k) s (fun m =>
        session m x.id = none ∧ gf m R.SE_EVT F.SE_EVT_AUTHFAIL = 1 ∧ Counted s.node m (R.SE_CNT 1)
        ∧ ((lockOf s.node x.iface).fails < 4 → (lockOf m x.iface).fails = (lockOf s.node x.iface).fails + 1)
        ∧ (4 ≤ (lockOf s.node x.iface).fails → gf m R.SE_EVT F.SE_EVT_LOCKOUT = 1 ∧ (lockOf m x.iface).fails = 0
          ∧ (lockOf m x.iface).remain = 60 * 2 ^ min 7 (lockOf s.node x.iface).level
          ∧ (lockOf m x.iface).level = min 7 ((lockOf s.node x.iface).level + 1))))) ∧
    (∀ c', Running s k 0x12 c' → c'.params = [] → Completes (.sessionClose k) s (fun m => session m c'.session = none))

/-- Sessions end with time: pending entries after 16,000 cycles, open ones idle for their limit; refusals end, and their
level after 24 h without a failure (R331, R335, R337). -/
def Clause.SessionTimes : Prop :=
  ∀ s : State,
    Completes .sessionPendingExpiry s (fun m => (∀ x ∈ m.se.sessions, x ∈ s.node.se.sessions ∧ (x.isOpen ∨ x.idle < 16000))
      ∧ ((s.node.se.sessions.map Session.id).Nodup →
        ∀ x ∈ s.node.se.sessions, x.isOpen ∨ x.idle < 16000 → x ∈ m.se.sessions)) ∧
    ((∀ x ∈ s.node.se.sessions, x.id ≠ 0) → Completes .sessionIdleClose s (fun m =>
      (∀ x ∈ m.se.sessions, x ∈ s.node.se.sessions ∧ (x.isOpen → x.idle < 8000 * idleLimit s.node x))
      ∧ (∀ x ∈ s.node.se.sessions, x.isOpen → 8000 * idleLimit s.node x ≤ x.idle → gf m R.SE_EVT F.SE_EVT_SESSCLOSE = 1))) ∧
    (∀ (i : Fin 3) (secs : BitVec 16), lineOn s.node → refusing s.node i.val →
      (lockOf s.node i.val).remain ≤ secs.toNat + 1 → Completes (.lockoutExpiry i secs) s (fun m =>
        refusing m i.val = false ∧ (lockOf m i.val).level = (lockOf s.node i.val).level)) ∧
    (∀ (i : Fin 3) (secs : BitVec 32), lineOn s.node → 86400 ≤ look 0 s.node.se.quiet i.val + secs.toNat →
      Completes (.lockoutLevelReset i secs) s (fun m => (lockOf m i.val).level = 0
        ∧ (lockOf m i.val).fails = (lockOf s.node i.val).fails))

/-- A change of the key area goes to the copy that is not valid, and makes it the valid one, so the old keys stand until then
(R330). -/
def Obligations.KeyAreaWrite : Prop :=
  ∀ (n : Node) (a : KeyArea),
    keyArea (writeKeys n a) = { a with kseq := if n.cf.ka.isSome ∨ n.cf.kb.isSome then (keyArea n).kseq + 1#32 else 1#32 }
    ∧ (keyInB n = true → (writeKeys n a).cf.kb = n.cf.kb) ∧ (keyInB n = false → n.cf.ka.isSome → (writeKeys n a).cf.ka = n.cf.ka)
    ∧ Frame [.cf] (fun _ => false) n (writeKeys n a)

/-- KEYSET and RETIRE: a first INSTALLER key in plain, an erased slot with the sessions of its role closed, and retirement,
which leaves no key and no session (R328 to R330, R341). -/
def Clause.KeyCommands : Prop :=
  ∀ (s : State) (k : Fin 8) (c : Cmd), (∀ x ∈ s.node.se.sessions, x.id ≠ 0) → nvFailed s.node = false →
    (Running s k 0x13 c → c.session = 0 → c.tagged = false → c.params.length = 40 → le c.params 0 1 = 3 →
      keyOf s.node 3 = none → ringIface k.val ≠ 2 → Completes (.cmdKeyset k) s (fun m =>
        keyOf m 3 = some (c.params.drop 8) ∧ (keyArea m).provisioned = true
          ∧ (∀ j, j ≠ 3 → keyOf m j = keyOf s.node j) ∧ gf m R.SE_EVT F.SE_EVT_KEYSET = 1
          ∧ Counted s.node m (R.SE_CNT 6))) ∧
    (∀ kid len, Running s k 0x13 c → c.session ≠ 0 → c.params.length = 8 → le c.params 0 1 = kid → kid ≠ 3 →
      keyBytes kid = some len → mayKeyset s.node c.role kid → Completes (.cmdKeyset k) s (fun m =>
        keyOf m kid = none ∧ (∀ j, j ≠ kid → keyOf m j = keyOf s.node j) ∧ gf m R.SE_EVT F.SE_EVT_KEYSET = 1
          ∧ (∀ x ∈ m.se.sessions, x.isOpen → keyRole kid ≠ 0 → x.role ≠ keyRole kid))) ∧
    (Running s k 0x20 c → c.params = leBytes 8 s.node.uid.toNat → Completes (.cmdRetire k) s (fun m =>
      (∀ j, keyOf m j = none) ∧ (keyArea m).retired = true ∧ (keyArea m).locks = (keyArea s.node).locks
        ∧ m.se.sessions = [] ∧ m.cf.slot0 = s.node.cf.slot0 ∧ m.cf.slot1 = s.node.cf.slot1)) ∧
    (Running s k 0x20 c → c.params.length = 8 → le c.params 0 8 ≠ s.node.uid.toNat →
      Completes (.cmdRetire k) s (Answered s k 2 []))

/-- The console: log-in, log-out, its commands through ring 7 under its session, and confirmation of the code shown
(R301, R310, R336, R433). -/
def Clause.ConsoleCommands : Prop :=
  ∀ s : State, hostOn s.node → (∀ x ∈ s.node.se.sessions, x.id ≠ 0) →
    (∀ (role : Fin 5) p, 1 ≤ role.val → refusing s.node 2 = false → passwordOk s.node role.val p → s.node.se.sessions.length < 8 →
      Completes (.consoleLogin role p) s (fun m => m.out = [.bytes prompt] ∧ Counted s.node m (R.SE_CNT 0)
        ∧ (∃ x, consoleSession m = some x ∧ x.role = role.val) ∧ (m.se.sessions.filter (fun x => x.isOpen && x.iface == 2)).length = 1
        ∧ (lockOf m 2).fails = 0)) ∧
    (∀ (role : Fin 5) p, refusing s.node 2 = false → (role.val = 0 ∨ passwordOk s.node role.val p = false) →
      Completes (.consoleLogin role p) s (fun m => m.out = [.bytes (ascii "login refused" ++ crlf ++ prompt)]
        ∧ m.se.sessions = s.node.se.sessions ∧ Counted s.node m (R.SE_CNT 1)
        ∧ ((lockOf s.node 2).fails < 4 → (lockOf m 2).fails = (lockOf s.node 2).fails + 1)
        ∧ (4 ≤ (lockOf s.node 2).fails → refusing m 2 = true))) ∧
    Completes .consoleLogout s (fun m => consoleSession m = none ∧ m.out = [.bytes prompt]) ∧
    (∀ (addr v : BitVec 32) (words : Fin 65) (area : Fin 2) (first num : BitVec 16),
      ∀ e ∈ ([(.consoleSummary, 2, [], summaryCommand),
          (.consoleRead addr words, 3, leBytes 4 addr.toNat ++ leBytes 2 words.val ++ leBytes 2 0, regreadCommand),
          (.consoleWrite addr v, 4, leBytes 4 addr.toNat ++ leBytes 2 1 ++ leBytes 2 0 ++ leBytes 4 v.toNat, regwriteCommand),
          (.consoleLog area first num, 7, leBytes 1 area.val ++ leBytes 1 0 ++ leBytes 2 first.toNat ++ leBytes 2 num.toNat,
            logreadCommand),
          (.consoleRetire, 0x20, leBytes 8 s.node.uid.toNat, retireCommand)]
          : List (Instr × Nat × List Byte × (Node → Nat → Cmd → Node))),
      (ring s.node 7).cur = none →
      ((commandRoles e.2.1).all (fun rs => rs.contains ((consoleSession s.node).elim 0 Session.role))) →
      Completes e.1 s (fun m => ∃ n c, c.opcode = e.2.1 ∧ c.params = e.2.2.1 ∧ c.tagged = false
        ∧ c.session = (consoleSession s.node).elim 0 Session.id ∧ c.role = (consoleSession s.node).elim 0 Session.role
        ∧ (ring n 7).cur = some c ∧ Frame (logParts ++ [.out, .hb, .se]) (blocks logBlocks) s.node n
        ∧ m = keepId s.node (e.2.2.2 n 7 c))) ∧
    (∀ x (v : BitVec 32) bad, consoleSession s.node = some x → x.role = 4 → Completes (.consoleConfirm v bad) s (fun m =>
      m = keepId s.node (consoleText (consoleEntry (touchSession (quiet s.node) x.id) v bad) prompt))) ∧
    (∀ (v : BitVec 32) bad, ((consoleSession s.node).elim 0 Session.role ≠ 4) → Completes (.consoleConfirm v bad) s (fun m =>
      m.out = [.bytes prompt] ∧ Frame [.out] (fun _ => false) s.node m))

/-- The frame of the session, key and lock-out commands, while no software reset is asked for: sessions, rings, the key area,
the registers of HB and SE, the logs. -/
def Clause.SecurityFrame : Prop :=
  ∀ (s t : State) (k : Fin 8) (i : Fin 3) (secs : BitVec 16) (secs' : BitVec 32) (role : Fin 5) (p : List Byte) (c : Instr),
    s.node.pw.softReset = false →
    c ∈ ([.sessionOpen k, .sessionProve k, .sessionClose k, .cmdKeyset k, .cmdRetire k, .sessionPendingExpiry, .sessionIdleClose,
      .lockoutExpiry i secs, .lockoutLevelReset i secs', .consoleLogin role p, .consoleLogout, .cmdNop k, .cmdImageread k,
      .cmdLogread k] : List Instr) → exec c s = .next t →
    Frame (logParts ++ [.out, .hb, .se, .cf]) (blocks [6, 8, 10, 11]) s.node t.node ∧ t.pending = s.pending

/-- What a node does with one bridge record for it that has a good tag: it serves a READ, WRITE or POLL as one access of the
bridge and holds the answer, or answers BUSY while it holds 16; a READ answer gives its fetch the data, a WRITE answer ends
its write, a late answer is counted (R320, R322 to R326). -/
def Clause.BridgeRecords : Prop :=
  ∀ (n : Node) (src : Nat) (r : BridgeRec),
    (16 ≤ n.hb.inbound.length → (takeRequest n src r).hb.inbound = n.hb.inbound
      ∧ (takeRequest n src r).hb.busyOut = n.hb.busyOut ++ [{ r with op := r.op + 0x80, rstat := 1, peer := src, data := 0 }]
      ∧ Counted n (takeRequest n src r) (R.HB_CNT 9)) ∧
    (n.hb.inbound.length < 16 → serveStatus n r ≠ 0 → (takeRequest n src r).hb.inbound = n.hb.inbound ++
        [{ r with op := r.op + 0x80, rstat := serveStatus n r, peer := src, addr := if r.op = 3 then 0 else r.addr,
                  data := if r.op = 2 then r.data else 0 }]
      ∧ Frame [.hb] (fun _ => false) n (takeRequest n src r)) ∧
    (gf n R.HB_CFG F.HB_CFG_TGTEN = 0 → serveStatus n r = 2) ∧
    (r.op = 2 → gf n R.HB_CFG F.HB_CFG_TGTWR = 0 → serveStatus n r = 2) ∧
    (r.addr / 0x100000 = 11 → serveStatus n r = 2) ∧
    (∀ q, n.hb.fetch.find? (fun q => q.rseq == r.rseq && q.target == src && q.open_) = some q → q.who < 8 →
      (r.rstat = 0 → Counted n (readResponse n src r) (R.HB_CNT 2)
        ∧ ∀ x ∈ (readResponse n src r).hb.fetch, x.ord = q.ord → x.st = .data (BitVec.ofNat 32 r.data) 64) ∧
      (r.rstat = 1 → ∀ x ∈ (readResponse n src r).hb.fetch, x.ord = q.ord →
        x.st = .busy (2 ^ min 5 x.tries)) ∧
      (2 ≤ r.rstat → gf (readResponse n src r) R.HB_EVT F.HB_EVT_RREFUSED = 1 ∧ Counted n (readResponse n src r) (R.HB_CNT 5)
        ∧ ∀ x ∈ (readResponse n src r).hb.fetch, x.ord = q.ord → x.st = .failed 3 64)) ∧
    (n.hb.fetch.find? (fun q => q.rseq == r.rseq && q.target == src && q.open_) = none →
      Counted n (readResponse n src r) (R.HB_CNT 6) ∧ (readResponse n src r).hb = n.hb) ∧
    (∀ q, n.hb.writes.find? (fun q => q.rseq == r.rseq && q.target == src && q.open_) = some q → q.who < 8 →
      (r.rstat = 0 → Counted n (writeResponse n src r) (R.HB_CNT 3) ∧ ∀ x ∈ (writeResponse n src r).hb.writes, x.ord ≠ q.ord) ∧
      (2 ≤ r.rstat → r.rstat ≠ 7 → gf (writeResponse n src r) R.HB_EVT F.HB_EVT_RWERR = 1
        ∧ Counted n (writeResponse n src r) (R.HB_CNT 5) ∧ ∀ x ∈ (writeResponse n src r).hb.writes, x.ord ≠ q.ord))

/-- A bridge message that a node hears whole, that carries the bridge's STREAM and is no second copy: each of its records is
taken in turn (R57, R320). -/
def Clause.BridgeMessages : Prop :=
  ∀ (s : State) (c : Fin 2) (frame : List Byte) (n : Node) (m : Received),
    ∀ e ∈ ([(.bridgeReadReceived c frame, 1), (.bridgeWriteReceived c frame, 2), (.bridgePollReceived c frame, 3),
      (.bridgeReadResponse c frame, 0x81), (.bridgeWriteResponse c frame, 0x82), (.bridgePollResponse c frame, 0x83)]
      : List (Instr × Nat)),
    hears s.node c.val frame → fType frame = 9 → be frame 24 1 = e.2 → fStream frame = bridgeStream →
    receiveMini (quiet s.node) c.val frame = (n, some m) → hostOn n → m.stream = bridgeStream → msTaken n (sameRecords m) = false →
    Completes e.1 s (fun k => k = keepId s.node
      ((bridgeRecords m.payload).foldl (fun n b => takeRecord n c.val m b) (takeMs n (sameRecords m))))

/-- Requests, answers and polls go out in one mini-slot, and time ends what waits: a timeout fails a fetch and drops a write,
an entry read late is freed, a BUSY request is sent again, a poll whose age reaches TMO is stale (R320 to R326). -/
def Clause.BridgeTimes : Prop :=
  ∀ (s : State) (a b : Fin 118), 
    (bridgeOnLine s.node → (dueRequests (allRequests s.node)).length ≤ 6 ∧
      (dueRequests (allRequests s.node) ≠ [] → Completes (.bridgeRequestSend a b) s (fun m =>
        (∀ r ∈ m.hb.fetch, (dueRequests (allRequests s.node)).any (fun q => q.ord == r.ord) → r.st = .sent ∧ r.started = true)
        ∧ (∀ r ∈ m.hb.writes, (dueRequests (allRequests s.node)).any (fun q => q.ord == r.ord) → r.st = .sent ∧ r.started = true)))) ∧
    (bridgeOnLine s.node → s.node.hb.busyOut ++ s.node.hb.inbound ≠ [] → Completes (.bridgeResponseSend a b) s (fun m =>
      m.hb.busyOut ++ m.hb.inbound = (s.node.hb.busyOut ++ s.node.hb.inbound).drop 6)) ∧
    (bridgeOnLine s.node → enabledPolls s.node ≠ [] → Completes (.pollSend a b) s (fun m =>
      m.hb.polls.map (fun p => p.1) = enabledPolls s.node
        ∧ m.hb.rseq = (s.node.hb.rseq + (enabledPolls s.node).length) % 65536)) ∧
    (∀ k : Fin 6, k.val ∈ s.node.hb.staleDue → Completes (.pollStale k) s (fun m =>
      gf m R.HB_EVT F.HB_EVT_RPSTALE = 1 ∧ k.val ∉ m.hb.staleDue)) ∧
    Completes .busyRetry s (fun m => (∀ r ∈ m.hb.fetch ++ m.hb.writes, r.st ≠ .busy 0)
      ∧ m.hb.fetch.map Request.ord = s.node.hb.fetch.map Request.ord ∧ m.hb.writes.map Request.ord = s.node.hb.writes.map Request.ord) ∧
    Completes .fetchEntryExpiry s (fun m => (∀ r ∈ m.hb.fetch, r ∈ s.node.hb.fetch ∧ r.expired = false)
      ∧ m.hb.writes = s.node.hb.writes) ∧
    (hostOn s.node → (∀ r ∈ s.node.hb.fetch ++ s.node.hb.writes, r.who < 8) →
      (∀ q ∈ s.node.hb.fetch, ∀ r ∈ s.node.hb.writes, q.ord ≠ r.ord) → Completes .fetchTimeout s (fun m =>
      (∀ r ∈ m.hb.fetch ++ m.hb.writes, r.open_ → r.age < bridgeTmo s.node)
        ∧ (∀ r ∈ s.node.hb.fetch, r.open_ → bridgeTmo s.node ≤ r.age → gf m R.HB_EVT F.HB_EVT_RTMO = 1)
        ∧ (∀ r ∈ s.node.hb.writes, r.open_ → bridgeTmo s.node ≤ r.age → gf m R.HB_EVT F.HB_EVT_RWERR = 1)))

/-- The frame of what the bridge sends and of its time limits (no command of a ring waiting on them): requests and answers,
the line's sending state and its counters, the registers of HB, the logs; a register of another block is changed only by a
request served (BridgeRecords). -/
def Clause.BridgeFrame : Prop :=
  ∀ (s t : State) (a b : Fin 118) (k : Fin 6) (c : Instr), (∀ r ∈ s.node.hb.fetch ++ s.node.hb.writes, r.who < 8) →
    c ∈ ([.bridgeRequestSend a b, .bridgeResponseSend a b, .pollSend a b, .pollStale k, .busyRetry, .fetchEntryExpiry,
      .fetchTimeout] : List Instr) → exec c s = .next t →
    Frame (logParts ++ [.out, .hb, .line]) (blocks [2, 3, 6, 8, 10]) s.node t.node ∧ t.pending = s.pending

/-- Every reset of Table PW-3: the kind shows, the boot is due, the slow counter and the caddy's slots stand, and every
register outside the always-on island and the blocks EM and CB reads its reset value (R400 to R402, R416, R421, R464). -/
def Clause.NodeResets : Prop :=
  ∀ s : State,
    (∀ kind c, (kind, c) ∈ ([(3, .resetPin), (7, .railReset), (6, .thermalReset)] : List (Nat × Instr)) → powerState s.node ≠ 0 →
      Completes c s (fun m => gf m R.PW_RSTSTAT F.PW_RSTSTAT_KIND = kind ∧ m.pw.unbooted = true ∧ m.pw.slow = s.node.pw.slow
        ∧ m.cf.slot0 = s.node.cf.slot0 ∧ m.cf.slot1 = s.node.cf.slot1
        ∧ (kind = 6 → m.pw.thermal = true)
        ∧ ∀ a, islandReg a = false → blockOf a ≠ 13 → blockOf a ≠ 14 → rd m a = resetValue a)) ∧
    (∀ role : Fin 5, role.val = 2 ∨ role.val = 3 → lineOn s.node → Completes (.softwareReset role) s (fun m =>
      gf m R.PW_RSTSTAT F.PW_RSTSTAT_KIND = 4 ∧ m.pw.unbooted = true ∧ m.pw.softReset = false
        ∧ ∀ a, islandReg a = false → blockOf a ≠ 13 → blockOf a ≠ 14 → rd m a = resetValue a)) ∧
    (∀ ticks : BitVec 16, lineOn s.node → gf s.node R.PW_WDCFG F.PW_WDCFG_EN = 1 → cxAlive s.node = false →
      wdTime s.node ≤ s.node.pw.beatLost → gf s.node R.PW_RSTSTAT F.PW_RSTSTAT_WDSTOP = 0 →
      Completes (.watchdogExpiry ticks) s (fun m => gf m R.PW_RSTSTAT F.PW_RSTSTAT_KIND = 5 ∧ m.pw.unbooted = true
        ∧ (2 ≤ (s.node.pw.wdTimes.filter (fun t =>
            decide ((s.node.pw.slow + BitVec.ofNat 48 ticks.toNat).toNat < t + 60 * 32768))).length →
          gf m R.PW_RSTSTAT F.PW_RSTSTAT_WDSTOP = 1))) ∧
    Completes .islandReset s (fun m => gf m R.PW_RSTSTAT F.PW_RSTSTAT_BKLOST = 1 ∧ gf m R.PW_RSTSTAT F.PW_RSTSTAT_KIND = 0
      ∧ m.pw.unbooted = true ∧ m.pw.slow = 0 ∧ rd m R.PW_WAKECFG = resetValue R.PW_WAKECFG) ∧
    Completes .islandSupplyLoss s (fun m => powerState m = 0) ∧
    Completes .thermalRelease s (fun m => m.pw.thermal = false ∧ Frame [.out, .pw] (fun _ => false) s.node m)

/-- The boot: not while the node runs or is held in a THERMAL reset; otherwise the sequence of Table PW-4, which on an empty
caddy leaves LINE-ONLY without a blend, with the time base running and inauguration in LISTEN (R282, R296, R403, R404). -/
def Clause.Boots : Prop :=
  ∀ (s : State) (waited bad : Bool),
    (s.node.pw.unbooted = false ∨ s.node.pw.thermal = true → Completes (.bootStart waited bad) s (fun m =>
      Frame [.out] (fun _ => false) s.node m)) ∧
    (s.node.pw.unbooted = true → s.node.pw.thermal = false → Completes (.bootStart waited bad) s (fun m =>
      m = keepId s.node (boot (quiet s.node) waited bad)
        ∧ (s.node.cf.j0 = none → s.node.cf.j1 = none → lineOn m ∧ powerState m = 3 ∧ m.tb.running = true
          ∧ gf m R.CF_STAT F.CF_STAT_NOBLEND = 1 ∧ m.pw.moveTo = s.node.pw.moveTo)))

/-- Wakes: each source that is armed latches itself as FIRST in PARKED or DOZE and makes the boot due; a wake tone received
while the line is powered is only shown and counted, one received asleep is relayed and begins the blanking (R50 to R52,
R372, R390, R391, R398, R399).  A parked node has no class S record waiting for the caddy. -/
def Clause.Wakes : Prop :=
  ∀ s : State, s.node.qm.log.waiting = [] →
    (∀ src : Fin 10, wakeArmed s.node src.val → src.val ≠ 6 → asleep s.node → s.node.pw.unbooted = false →
      Completes (.wakeEvent src) s (fun m => gf m R.PW_WAKESRC F.PW_WAKESRC_FIRST = src.val
        ∧ gf m R.PW_WAKESRC F.PW_WAKESRC_VALID = 1 ∧ m.pw.unbooted = true ∧ gf m R.PW_RSTSTAT F.PW_RSTSTAT_KIND = 2)) ∧
    (wakeArmed s.node 6 → s.node.pw.slow.toNat < alarmAt s.node → asleep s.node → s.node.pw.unbooted = false →
      Completes (.wakeEvent 6) s (fun m => gf m R.PW_WAKESRC F.PW_WAKESRC_FIRST = 6
        ∧ gf m R.PW_WAKECFG F.PW_WAKECFG_ALMEN = 0 ∧ m.pw.slow = BitVec.ofNat 48 (alarmAt s.node) ∧ m.pw.unbooted = true)) ∧
    (∀ p : Fin 4, bitOf (gf s.node R.LP_WAKECFG F.LP_WAKECFG_DETEN) p.val → lineOn s.node →
      Completes (.wakeToneDetect p) s (fun m => Counted s.node m (R.LP_CNT p.val 7)
        ∧ gf m (R.LP_PORTEVT p.val) F.LP_PORTEVT_WAKEDET = 1 ∧ gf m R.LP_WAKESTAT F.LP_WAKESTAT_FVALID = 1
        ∧ (gf s.node R.LP_WAKESTAT F.LP_WAKESTAT_FVALID = 0 → gf m R.LP_WAKESTAT F.LP_WAKESTAT_FIRST = p.val))) ∧
    (∀ p : Fin 4, bitOf (gf s.node R.LP_WAKECFG F.LP_WAKECFG_DETEN) p.val → asleep s.node → s.node.pw.unbooted = false →
      s.node.line.blanking = false → Completes (.wakeToneDetect p) s (fun m => m.line.blanking = true
        ∧ gf m R.PW_WAKESRC F.PW_WAKESRC_FIRST = 4 ∧ m.pw.unbooted = true
        ∧ (∀ q < 4, q ≠ p.val → bitOf (gf s.node R.LP_WAKECFG F.LP_WAKECFG_RELAY) q → Output.wakeTone q ∈ m.out
          ∧ gf m R.LP_WAKESTAT F.LP_WAKESTAT_RELAYED = 1))) ∧
    Completes .wakeBlankingExpiry s (fun m => m.line.blanking = false ∧ Frame [.out, .line] (fun _ => false) s.node m) ∧
    (∀ (frames : List (Fin 6 × List Byte)) f, ∀ i < 16, powerState s.node = 2 → s.node.pw.unbooted = false → f ∈ frames →
      patternMatches s.node f.1.val i f.2 → Completes (.wakePatternMatch frames) s (fun m =>
        gf m R.EM_EVT F.EM_EVT_WAKE = 1 ∧ gf m R.EM_WAKESTAT F.EM_WAKESTAT_VALID = 1 ∧ gf m R.EM_WAKESTAT F.EM_WAKESTAT_PAT ≤ i
          ∧ gf m R.PW_WAKESRC F.PW_WAKESRC_FIRST = 8 ∧ m.pw.unbooted = true)) ∧
    (∀ (frames : List (Fin 4 × CanFrame)) f, ∀ i < 4, powerState s.node = 2 → s.node.pw.unbooted = false → f ∈ frames →
      wakeFilterMatches s.node f.1.val f.2 i → Completes (.canWakeFrame frames) s (fun m =>
        gf m R.CB_WAKESTAT F.CB_WAKESTAT_VALID = 1 ∧ gf m R.CB_WAKESTAT F.CB_WAKESTAT_CTRL ≤ f.1.val
          ∧ gf m R.PW_WAKESRC F.PW_WAKESRC_FIRST = 9 ∧ m.pw.unbooted = true)) ∧
    (∀ (c : Fin 4) (us : BitVec 8), bitOf (gf s.node R.CB_WAKECFG F.CB_WAKECFG_WEDGE) c.val → domus s.node ≤ us.toNat →
      (asleep s.node → s.node.pw.unbooted = false → Completes (.canDominantWake c us) s (fun m =>
        gf m R.PW_WAKESRC F.PW_WAKESRC_FIRST = 5 ∧ m.pw.unbooted = true)) ∧
      (lineOn s.node → canAsleep s.node c.val → Completes (.canDominantWake c us) s (fun m =>
        gf m (R.CB_STAT c.val) F.CB_STAT_SLEEP = 0 ∧ gf m (R.CB_EVT c.val) F.CB_EVT_WAKE = 1)))

/-- The writes of PW_CTL that a session's command carries, by role, and a direct one, which is refused (R396, R397, R406,
R421). -/
def Clause.PowerTargets : Prop :=
  ∀ (s : State) (role : Fin 5), lineOn s.node → s.node.pw.failing = none → s.node.pw.softReset = false →
    (role.val = 2 ∨ role.val = 3 →
      (anyUp s.node = true → ∀ c ∈ ([.targetParked role, .targetDoze role] : List Instr), Completes c s (fun m =>
        gf m R.PW_EVT F.PW_EVT_REFUSED = 1 ∧ powerState m = powerState s.node)) ∧
      (anyUp s.node = false → Completes (.targetParked role) s (fun m => powerState m = 1 ∧ m.pw.unbooted = false
        ∧ m.pw.slow = s.node.pw.slow)) ∧
      (anyUp s.node = false → Completes (.targetDoze role) s (fun m => powerState m = 2 ∧ m.pw.unbooted = false
        ∧ m.pw.slow = s.node.pw.slow)) ∧
      (isRun s.node → Completes (.targetLineOnly role) s (fun m => m.pw.moveTo = some 3
        ∧ Frame [.out, .pw] (fun _ => false) s.node m)) ∧
      (isRun s.node = false → blendLoaded s.node → Completes (.targetRun role) s (fun m => m.pw.moveTo = some 4
        ∧ Frame [.out, .pw] (fun _ => false) s.node m))) ∧
    (role.val ≠ 0 → gf s.node R.PW_SLEEPCFG F.PW_SLEEPCFG_AUTH = 1 → s.node.pw.request = none →
      Completes (.roundWrite role) s (fun m => m.pw.requestDue = true
        ∧ m.pw.request = some (gf s.node R.PW_SLEEPCFG F.PW_SLEEPCFG_TARGET == 1) ∧ Frame [.out, .pw] (fun _ => false) s.node m)) ∧
    (role.val ≠ 0 → Completes (.roundCancel role) s (fun m => m.pw.request = none ∧ m.pw.requestDue = false
      ∧ (∀ h ∈ m.pw.held, h.1 ≠ ownNumber s.node) ∧ Frame [.out, .pw] (fun _ => false) s.node m)) ∧
    (role.val = 0 → ∀ c ∈ ([.softwareReset role, .targetParked role, .targetDoze role, .targetLineOnly role, .targetRun role,
        .roundWrite role, .roundCancel role] : List Instr), Completes c s (fun m => gf m R.HB_EVT F.HB_EVT_PROTWR = 1
          ∧ Counted s.node m (R.HB_CNT 12) ∧ Frame (.out :: logParts) (blocks [6, 8, 10]) s.node m))

/-- Power failure, hold-up, the slow counter and the timers that park or wake a node (R413, R415 to R420). -/
def Clause.PowerEvents : Prop :=
  ∀ s : State, lineOn s.node →
    (s.node.pw.failing = none → heldUp s.node → Completes .powerFailure s (fun m =>
      gf m R.PW_HOLDSTAT F.PW_HOLDSTAT_PFAIL = 1 ∧ m.pw.failing = some 0 ∧ m.cf.staging = none
        ∧ m.pw.gasp = if ownNumber s.node = 0 then none else some (3, cnNow s.node))) ∧
    (s.node.pw.failing = none → heldUp s.node = false → Completes .powerFailure s (fun m =>
      gf m R.PW_RSTSTAT F.PW_RSTSTAT_KIND = 1 ∧ m.pw.unbooted = true)) ∧
    (s.node.pw.failing = none → gf s.node R.PW_HOLDSTAT F.PW_HOLDSTAT_HOLDOK = 1 → Completes .holdupLow s (fun m =>
      gf m R.PW_HOLDSTAT F.PW_HOLDSTAT_HOLDOK = 0 ∧ gf m R.PW_EVT F.PW_EVT_HOLDLOW = 1)) ∧
    (s.node.pw.failing = none → Completes .holdupCharged s (fun m => gf m R.PW_HOLDSTAT F.PW_HOLDSTAT_HOLDOK = 1
      ∧ 128 ≤ gf m R.PW_STAT F.PW_STAT_VHOLD ∧ powerState m = powerState s.node)) ∧
    (∀ ticks : BitVec 16, Completes (.slowLoRead ticks) s (fun m =>
      m.out = [.word ((s.node.pw.slow + BitVec.ofNat 48 ticks.toNat).setWidth 32)]
        ∧ m.pw.slow = s.node.pw.slow + BitVec.ofNat 48 ticks.toNat
        ∧ m.pw.slowHi = BitVec.ofNat 32 ((s.node.pw.slow + BitVec.ofNat 48 ticks.toNat).toNat / 2 ^ 32))) ∧
    (∀ t, s.node.pw.vetoWake = some t → 160 ≤ t → anyUp s.node = false → Completes .parkVetoWake s (fun m =>
      m.pw.vetoWake = none ∧ Counted s.node m (R.PW_CNT 7)
        ∧ ∀ p < 4, bitOf (gf s.node R.LP_WAKECFG F.LP_WAKECFG_RELAY) p → Output.wakeTone p ∈ m.out)) ∧
    (s.node.pw.failing = none → aloneCycles s.node ≠ 0 → aloneCycles s.node ≤ s.node.pw.aloneFor → anyUp s.node = false →
      uVetoes s.node = [] → Completes .aloneExpiry s (fun m => m.pw.unbooted = false
        ∧ powerState m = if gf s.node R.PW_SLEEPCFG F.PW_SLEEPCFG_DOZEONLY = 1 then 2 else 1))

/-- The frame of the timers and hold-up commands of block PW that neither reset nor park the node. -/
def Clause.PowerFrame : Prop :=
  ∀ (s t : State) (ticks : BitVec 16) (c : Instr),
    c ∈ ([.holdupLow, .holdupCharged, .slowLoRead ticks, .parkVetoWake, .roundTimerExpiry, .roundRetryExpiry, .roundAbortSend,
      .thermalRelease, .wakeBlankingExpiry] : List Instr) → exec c s = .next t →
    Frame (logParts ++ [.out, .pw, .line]) (blocks [6, 8, 15]) s.node t.node ∧ t.pending = s.pending

/-- Table LC-10 lane by lane: NONE passes a lane, WRITE replaces it, ADD sums it, a lane that comes null takes the node's
own block, and a mode without a ready block leaves what the table says (R70, R71).  The sum of two samples is exact and
then limited to 32 bits (R71). -/
def Obligations.LaneOperations : Prop :=
  (∀ (inc own : LaneVal),
    laneOp 0 inc (some own) = { out := inc } ∧ laneOp 0 inc none = { out := inc }
    ∧ laneOp 2 inc (some own) = { out := ⟨.valid, own.samples⟩, overwrite := decide (inc.st ≠ .null) }
    ∧ laneOp 2 inc none = { out := {}, noBlock := true } ∧ laneOp 1 inc none = { out := inc, noBlock := true }
    ∧ (inc.st = .null → laneOp 1 inc (some own) = { out := ⟨.valid, own.samples⟩ })
    ∧ (inc.st ≠ .null → (laneOp 1 inc (some own)).out.samples = List.zipWith (fun x y => (laneAddSat x y).1) inc.samples own.samples
      ∧ ((laneOp 1 inc (some own)).clip = true ↔ ∃ p ∈ List.zip inc.samples own.samples,
          p.1.toInt + p.2.toInt < -(2 ^ 31) ∨ 2 ^ 31 ≤ p.1.toInt + p.2.toInt)
      ∧ (inc.st = .valid → (laneOp 1 inc (some own)).clip = false → (laneOp 1 inc (some own)).out.st = .valid)
      ∧ (inc.st ≠ .valid → (laneOp 1 inc (some own)).out.st = .clipped)))
  ∧ ∀ x y : BitVec 32, (laneAddSat x y).1.toInt = max (-(2 ^ 31)) (min (2 ^ 31 - 1) (x.toInt + y.toInt))

/-- A lane put into a container reads back as put, with its state as Table LC-9 codes it, and every other lane of the
container stays (R68 to R70). -/
def Obligations.LanePlaced : Prop :=
  ∀ (b : List Byte) (k j : Nat) (v : LaneVal), k < 60 → j < 60 → b.length = 1484 → v.samples.length = 6 → v.st ≠ .concealed →
    getLane (putLane b k v) k = v ∧ (j ≠ k → getLane (putLane b k v) j = getLane b j) ∧ (putLane b k v).length = 1484

/-- The node's CSF says what Table LC-8 says, with a good CRC: a node that reads it finds the cycle, the epoch, the leader,
the originator, the number of nodes and the flags (R61, R64, R67). -/
def Clause.CsfSaysItsCycle : Prop :=
  ∀ (n : Node) (c cn : Nat), cn < 2 ^ 48 → lineMode n < 256 →
    (parseCsf (makeCsf n c cn)).cn = cn ∧ (parseCsf (makeCsf n c cn)).epoch = epochAt n cn % 2 ^ 16
    ∧ (parseCsf (makeCsf n c cn)).origin = n.uid.toNat ∧ (parseCsf (makeCsf n c cn)).nodes = csfNodes n c % 2 ^ 16
    ∧ (parseCsf (makeCsf n c cn)).mode = lineMode n
    ∧ (isLeader n = true → role n c ≠ 2 → role n c ≠ 6 → (parseCsf (makeCsf n c cn)).leader = n.uid.toNat)
    ∧ crcClass (makeCsf n c cn) = .good ∧ (makeCsf n c cn).length = 100 ∧ fType (makeCsf n c cn) = 1
    ∧ fCnlo (makeCsf n c cn) = cn % 65536 ∧ fTagged (makeCsf n c cn) = true

/-- A CSF received on a port that passes: it is read at its corrected stamp and passed on; one of another type is not
forwarded.  A verified one opens its pass: the CSF is valid again, the run of missing ones and an upstream loss end
(R62, R66, R89). -/
def Clause.CsfReceive : Prop :=
  (∀ (s : State) (p : Fin 4) (frame : List Byte) (ingress egress : BitVec 40), lineOn s.node → lineDieOk s.node (p.val / 2) →
    portPasses s.node p.val →
    (fType frame = 1 → Completes (.csfReceived p frame ingress egress) s (fun m => ∃ n,
      n = setPort (countCrc (quiet s.node) p.val frame) p.val
        { port (countCrc (quiet s.node) p.val frame) p.val with csfIn := some ⟨stampIn (countCrc (quiet s.node) p.val frame) p.val ingress, fCnlo frame⟩ }
      ∧ ((fTurned frame && originates n (p.val / 2)) = false → m = keepId s.node (passCsf (readCsf n (p.val / 2) p.val
          (stampIn (countCrc (quiet s.node) p.val frame) p.val ingress) frame) (p.val / 2) frame egress)))) ∧
    (fType frame ≠ 1 → Completes (.csfReceived p frame ingress egress) s (fun m =>
      Counted s.node m (R.LC_CNT (p.val / 2) 14) ∧ gf m (R.LC_EVT (p.val / 2)) F.LC_EVT_RXVIOL = 1))) ∧
  (∀ (n : Node) (c : Nat) (f : Csf), c < 2 → (chan (openOutbound n c f) c).outCsf = some f
    ∧ (chan (openOutbound n c f) c).outMiss = 0 ∧ gf (openOutbound n c f) (R.LC_STAT c) F.LC_STAT_CSFVALID = 1
    ∧ gf (openOutbound n c f) (R.LC_STAT c) F.LC_STAT_UPLOSS = 0) ∧
  (∀ (n : Node) (c : Nat) (b : List Byte) (f : Csf), crcClass b ≠ .good ∨ n.line.kt = none → judgeCsf n c b f = .unusable)

/-- A pass without a CSF runs on with the next cycle number, the second such cycle of the outbound pass is an upstream loss,
and the end of a quarantine, of a previous key and of the two waits of LISTEN (R62, R88, R90, R96, R160). -/
def Clause.LineTimes : Prop :=
  ∀ s : State,
    (∀ (c : Fin 2) ret, lineOn s.node → originates s.node c.val = false → role s.node c.val ≠ 0 →
      Completes (.csfFlywheel c ret) s (fun m => Counted s.node m (R.LC_CNT c.val 16)
        ∧ gf m (R.LC_EVT c.val) F.LC_EVT_FLYWHEEL = 1
        ∧ (ret = false → (chan m c.val).outMiss = (chan s.node c.val).outMiss + 1
          ∧ gf m (R.LC_STAT c.val) F.LC_STAT_CSFVALID = 0
          ∧ ∀ f, (chan s.node c.val).outCsf = some f → (chan m c.val).outCsf = some { f with cn := cnWrap (f.cn + 1) })
        ∧ (ret = true → (chan m c.val).retMiss = (chan s.node c.val).retMiss + 1))) ∧
    (∀ c : Fin 2, 2 ≤ (chan s.node c.val).outMiss → gf s.node (R.LC_STAT c.val) F.LC_STAT_UPLOSS = 0 →
      originates s.node c.val = false → Completes (.upstreamLoss c) s (fun m =>
        gf m (R.LC_STAT c.val) F.LC_STAT_UPLOSS = 1 ∧ gf m (R.LC_EVT c.val) F.LC_EVT_UPLOSS = 1)) ∧
    (∀ c : Fin 2, (chan s.node c.val).starved = false →
      max 1 (ff s.node (R.LC_CFG (cfgChan s.node c.val)) F.LC_CFG_STARVEW) ≤ (chan s.node c.val).waited ∨ 2 ≤ (chan s.node c.val).abandoned →
      Completes (.starvedSet c) s (fun m => (chan m c.val).starved = true ∧ gf m (R.LC_EVT c.val) F.LC_EVT_STARVED = 1)) ∧
    (∀ p : Fin 4, (port s.node p.val).quar = some 0 → Completes (.quarantineExpiry p) s (fun m =>
      (port m p.val).quar = none ∧ (port m p.val).viols = [] ∧ gf m (R.LC_SLUICESTAT (p.val / 2)) (quarField p.val) = 0)) ∧
    (∀ p : Fin 4, (port s.node p.val).quar.isSome → Completes (.quarantineClearWrite p) s (fun m =>
      (port m p.val).quarClear = true ∧ (port m p.val).quar = (port s.node p.val).quar)) ∧
    (∀ k last, s.node.line.prevKey = some (k, last) → 0 ≤ cnDiff (cnNow s.node) last → Completes .previousKeyExpiry s (fun m =>
      m.line.prevKey = none)) ∧
    (inState s.node = 1 → Completes .linkWaitExpiry s (fun m => m.inn.linkWaitOver = true
      ∧ inState m = if isEndNode s.node ∧ s.node.line.kt.isSome ∧ (csCap s.node ∨ s.node.inn.fallbackOver) then 2 else 1)) ∧
    (inState s.node = 1 → s.node.inn.linkWaitOver = true → Completes .fallbackWaitExpiry s (fun m => m.inn.fallbackOver = true
      ∧ inState m = if isEndNode s.node ∧ s.node.line.kt.isSome then 2 else 1)) ∧
    (∀ p : Fin 4, lineOn s.node → role s.node (p.val / 2) ≠ 0 → originates s.node (p.val / 2) = false →
      p.val = outerPort s.node (p.val / 2) → portUp s.node p.val → portPasses s.node p.val → 2 ≤ (port s.node p.val).silent →
      Completes (.returnLoss p) s (fun m => (port m p.val).quar.isSome ∧ gf m R.DU_EVT F.DU_EVT_RETLOSS = 1
        ∧ Counted s.node m (R.DU_CNT 9) ∧ gf m (R.LC_SLUICESTAT (p.val / 2)) (quarField p.val) = 1)) ∧
    (∀ (p : Fin 4) (kind : RxViolation), lineOn s.node → lineDieOk s.node (p.val / 2) →
      Completes (.receivedFrameViolation p kind) s (fun m =>
        (kind = .aborted → Counted s.node m (R.LP_CNT p.val 3)) ∧ (kind = .badHeader → Counted s.node m (R.LP_CNT p.val 2))
        ∧ (kind ≠ .aborted → kind ≠ .badHeader → Counted s.node m (R.LC_CNT (p.val / 2) 14)
          ∧ gf m (R.LC_EVT (p.val / 2)) F.LC_EVT_RXVIOL = 1 ∧ (port m p.val).violNow = true))) ∧
    (∀ node : Fin 512, isLeader s.node → node.val + 1 ≤ nodesNow s.node → rosterPresent s.node (node.val + 1) →
      max 1 (gf s.node R.IN_CFG F.IN_CFG_ABSENT) ≤ (look {} s.node.inn.roster (node.val + 1)).missing →
      (look {} s.node.inn.roster (node.val + 1)).sent ≠ some [] → Completes (.rosterAbsentExpiry node) s (fun m =>
        (look {} m.inn.roster (node.val + 1)).absentDue = true))

/-- The static slots: a frame of the slot's type that is heard is counted, changed where the node writes, passed on and read
where the pass says so (R56, R57, R66, R70, R73 to R78, R124). -/
def Clause.StaticSlots : Prop :=
  ∀ (s : State) (c : Fin 2) (b : List Byte), hears s.node c.val b → ∀ n, n = countCrc (quiet s.node) (rxPort s.node c.val b) b →
    (fType b = 2 → slotTypeOk (lineMode s.node) (fIndex b) 2 →
      Completes (.audioContainerOutbound c b) s (fun m => m = keepId s.node (audioOutbound n c.val b)) ∧
      (passesCn n c.val b → Completes (.audioContainerReturn c b) s (fun m =>
        m = keepId s.node (readAudio (passFrame n c.val b b true).1 c.val b)))) ∧
    (fType b = 3 → slotTypeOk (lineMode s.node) (fIndex b) 3 → ∀ (q sink : Fin 1048576) (dest : BitVec 16) (stream : BitVec 32),
      Completes (.dataSlotOutbound c b q dest stream sink) s (fun m =>
        m = keepId s.node (dataOutbound n c.val b q.val dest.toNat stream.toNat sink.val))) ∧
    (fType b = 4 → slotTypeOk (lineMode s.node) (fIndex b) 4 → passesCn n c.val b →
      Completes (.rosterSlotReturn c b) s (fun m => m = keepId s.node (readRoster (passFrame n c.val b b true).1 c.val b)) ∧
      (ownNumber n = 0 ∨ rosterSlotOf (lineMode n) (ownNumber n) ≠ fIndex b → fTurned b = false → turns n c.val = false →
        Completes (.rosterSlotOutbound c b) s (fun m => m = keepId s.node (passFrame n c.val b b true).1)) ∧
      (ownNumber n ≠ 0 → rosterSlotOf (lineMode n) (ownNumber n) = fIndex b → fTurned b = false → turns n c.val = false →
        Completes (.rosterSlotOutbound c b) s (fun m =>
          m = keepId s.node (passFrame n c.val b (writeRosterLane n c.val (cnOf n c.val b) b) true).1))) ∧
    (fType b = 5 → fIndex b = sequencerSlot (lineMode s.node) → passesCn n c.val b → n.inn.published = none →
      Completes (.sequencerReceived c b) s (fun m => m = keepId s.node (if (passFrame n c.val b b true).2 then
        readSequencer (passFrame n c.val b b true).1 c.val (withCrc b (decide (crcClass b ≠ .good)))
        else (passFrame n c.val b b true).1))) ∧
    (fType b = 6 → fIndex b = serviceSlot (lineMode s.node) →
      (passesCn n c.val b → Completes (.serviceSlotOutbound c b) s (fun m => ∃ n' out, (n', out) = writeService n c.val (cnOf n c.val b) b
        ∧ m = keepId s.node (if (passFrame n' c.val b out true).2 then
          readService (tryKey (passFrame n' c.val b out true).1 c.val (turnedCopy b out)) c.val (turnedCopy b out)
          else (passFrame n' c.val b out true).1))) ∧
      (passesCn (tryKey n c.val b) c.val b → Completes (.serviceSlotReturn c b) s (fun m =>
        m = keepId s.node (readService (passFrame (tryKey n c.val b) c.val b b true).1 c.val b))))

/-- A frame heard at a position where its type is not permitted is not forwarded: idle goes out in its place and the
violation is counted (R89). -/
def Clause.NotPermittedDropped : Prop :=
  ∀ (s : State) (c : Fin 2) (b : List Byte) (q sink : Fin 1048576) (dest : BitVec 16) (stream : BitVec 32),
    hears s.node c.val b → fType b = 15 →
    ∀ cmd ∈ ([.audioContainerOutbound c b, .audioContainerReturn c b, .dataSlotOutbound c b q dest stream sink,
      .rosterSlotOutbound c b, .rosterSlotReturn c b, .sequencerReceived c b, .serviceSlotOutbound c b, .serviceSlotReturn c b,
      .minislotClaim c b q dest stream, .minislotMessageReceived c b q, .msLogReceived c b, .bridgeReadReceived c b] : List Instr),
    Completes cmd s (fun m =>
      m.out = [.lineIdle (if fTurned b then innerPort s.node c.val else outerPort s.node c.val)]
        ∧ Counted s.node m (R.LC_CNT (rxPort s.node c.val b / 2) 14)
        ∧ gf m (R.LC_EVT (rxPort s.node c.val b / 2)) F.LC_EVT_RXVIOL = 1
        ∧ Frame [.out, .line] (fun a => a == R.LC_CNT (rxPort s.node c.val b / 2) 14 || a == R.LC_EVT (rxPort s.node c.val b / 2))
            s.node m)

/-- Mini-slots: an empty one is claimed by a node with a number and something to send, and passed on otherwise; a message for
this node goes to the queue named, a log message to the collector's queue (R80 to R83, R266, R278). -/
def Clause.MiniSlots : Prop :=
  ∀ (s : State) (c : Fin 2) (b : List Byte) (q : Fin 1048576), hears s.node c.val b →
    ∀ n, n = countCrc (quiet s.node) (rxPort s.node c.val b) b →
    (∀ (dest : BitVec 16) (stream : BitVec 32), fType b = 8 → fTurned b = false → passesCn n c.val b → (chan n c.val).chain = none →
      (ownNumber n = 0 ∨ cxAlive n = false → Completes (.minislotClaim c b q dest stream) s (fun m =>
        m = keepId s.node (passFrame n c.val b b true).1)) ∧
      (∀ n', ownNumber n ≠ 0 → cxAlive n → claimSlot n c.val (fIndex b) (cnOf n c.val b) q.val dest.toNat stream.toNat = (n', true) →
        Completes (.minislotClaim c b q dest stream) s (fun m => m = keepId s.node n')) ∧
      (∀ n', ownNumber n ≠ 0 → cxAlive n → claimSlot n c.val (fIndex b) (cnOf n c.val b) q.val dest.toNat stream.toNat = (n', false) →
        Completes (.minislotClaim c b q dest stream) s (fun m => m = keepId s.node (passFrame n' c.val b b true).1))) ∧
    (∀ n' r, fType b = 9 → receiveMini (quiet s.node) c.val b = (n', some r) → forMe n' r.dest → msTaken n' r = false →
      Completes (.minislotMessageReceived c b q) s (fun m => m = keepId s.node (pushLineMessage (takeMs n' r) q.val r))) ∧
    (∀ n' r, fType b = 0x0D → receiveMini (quiet s.node) c.val b = (n', some r) → forMe n' r.dest → msTaken n' r = false →
      gf n' R.QM_LOGCFG F.QM_LOGCFG_RXEN = 1 → Completes (.msLogReceived c b) s (fun m =>
        m = keepId s.node (takeLogRecords (takeMs n' r) r.payload)))

/-- Delay exchanges: a request and the answer to the last request received go out on a forwarding port, a request received is
kept with its stamp, an answer to one of the node's own requests makes an exchange (R85, R136). -/
def Clause.DelayExchanges : Prop :=
  ∀ (s : State) (p : Fin 4), lineOn s.node → portPasses s.node p.val →
    (∀ a b, cxAlive s.node → Completes (.dreqTransmit p a b) s (fun m =>
      (port m p.val).seq = ((port s.node p.val).seq + 1) % 65536
        ∧ (port m p.val).dreqs = (((port s.node p.val).seq, stampOut s.node p.val a) :: (port s.node p.val).dreqs).take 4)) ∧
    (∀ frame t, fType frame = 0x10 → nitOk (countCrc (quiet s.node) p.val frame) p.val frame →
      Completes (.dreqReceived p frame t) s (fun m =>
        (port m p.val).rxDreq = some (be frame 24 2, stampIn s.node p.val t) ∧ (port m p.val).delayNow = true)) ∧
    (∀ frame t ticks e, fType frame = 0x11 → nitOk (countCrc (quiet s.node) p.val frame) p.val frame →
      (port s.node p.val).dreqs.find? (fun e => e.1 == be frame 24 2) = some e →
      Completes (.drspReceived p frame t ticks) s (fun m => Counted s.node m (R.TB_CNT 0)
        ∧ (port m p.val).exch = (makeExchange (port s.node p.val).exch e.2 (be frame 26 5) (be frame 31 5) (stampIn s.node p.val t) ticks
            :: (port s.node p.val).exch).take 9)) ∧
    (∀ frame t ticks, fType frame = 0x11 → (port s.node p.val).dreqs.find? (fun e => e.1 == be frame 24 2) = none →
      Completes (.drspReceived p frame t ticks) s (fun m => Counted s.node m (R.TB_CNT 1)
        ∧ (port m p.val).exch = (port s.node p.val).exch))

/-- What an originator sends at a position of its cycle (R61, R77 to R80). -/
def Clause.OriginatorSlots : Prop :=
  ∀ (s : State) (c : Fin 2) (pos : Fin 198) (q : Fin 1048576) (dest : BitVec 16) (stream : BitVec 32), lineOn s.node →
    lineDieOk s.node c.val → originates s.node c.val →
    (pos.val < sequencerSlot (lineMode s.node) → pos.val < 80 → pos.val < slotCount (lineMode s.node) →
      Completes (.originatorSlotTransmit c pos q dest stream) s (fun m =>
        m = keepId s.node (sendOwn (quiet s.node) c.val (originRoster (quiet s.node) c.val pos.val (cnNow s.node)) true))) ∧
    (80 ≤ pos.val → pos.val - 80 < miniCount (lineMode s.node) → (chan s.node c.val).chain = none →
      ownNumber s.node = 0 ∨ cxAlive s.node = false → Completes (.originatorSlotTransmit c pos q dest stream) s (fun m =>
        m = keepId s.node (sendOwn (quiet s.node) c.val (buildFrame (lineMode s.node) 8
          (headerOf s.node 8 (pos.val - 80) (cnNow s.node) 0 0 0 0 0) []) true)))

/-- The frame of the line-cycle commands that deliver nothing to the node's own image or time base. -/
def Clause.LineCycleFrame : Prop :=
  ∀ (s t : State) (c : Fin 2) (p : Fin 4) (b : List Byte) (q q' : Fin 1048576) (dest : BitVec 16) (stream : BitVec 32) (ret : Bool)
    (pos : Fin 198) (x y : BitVec 40) (ticks : Nat) (kind : RxViolation) (node : Fin 512) (cmd : Instr),
    cmd ∈ ([.originatorSlotTransmit c pos q dest stream, .csfFlywheel c ret, .upstreamLoss c, .audioContainerOutbound c b,
      .audioContainerReturn c b, .dataSlotOutbound c b q dest stream q', .minislotClaim c b q dest stream,
      .minislotMessageReceived c b q, .msLogReceived c b, .starvedSet c, .dreqTransmit p x y, .dreqReceived p b x,
      .drspReceived p b x ticks, .receivedFrameViolation p kind, .quarantineExpiry p, .quarantineClearWrite p, .previousKeyExpiry,
      .linkWaitExpiry, .fallbackWaitExpiry, .returnLoss p, .rosterAbsentExpiry node, .rosterSlotOutbound c b,
      .rosterSlotReturn c b] : List Instr) →
    exec cmd s = .next t →
    Frame (logParts ++ [.out, .line, .du, .sa, .inn]) (blocks [1, 2, 3, 4, 5, 6, 8, 16]) s.node t.node ∧ t.pending = s.pending

/-- The best beacon is decided: of two nodes of different identity exactly one is better than the other, and better than
goes on through a third node, so a contest has one winner (R99). -/
def Obligations.BeaconContest : Prop :=
  ∀ a b c : Node,
    (a.uid ≠ b.uid → (betterBeacon a (beaconFlags b) b.uid.toNat = true ↔ betterBeacon b (beaconFlags a) a.uid.toNat = false))
    ∧ (betterBeacon a (beaconFlags b) b.uid.toNat = true → betterBeacon b (beaconFlags c) c.uid.toNat = true →
        betterBeacon a (beaconFlags c) c.uid.toNat = true)
    ∧ betterBeacon a (beaconFlags a) a.uid.toNat = false

/-- Cold start: beacons, the end of contention at a better one, and the winner of a quiet window as leader and node 1 of
epoch 0 (R96 to R103). -/
def Clause.ColdStart : Prop :=
  ∀ s : State,
    (∀ kt, s.node.line.kt = some kt → inState s.node = 2 → Completes .beaconSend s (fun m =>
      m.inn.bseq = (s.node.inn.bseq + 1) % 2 ^ 32
        ∧ m.out.length = ((List.range 4).filter (fun p => portFwd s.node p)).length
        ∧ ∀ p < 4, portFwd s.node p → Counted s.node m (R.LP_CNT p 8))) ∧
    (∀ (p : Fin 4) frame kt, lineOn s.node → portPasses s.node p.val → role s.node (p.val / 2) = 0 → fType frame = 0x0E →
      s.node.line.kt = some kt → crcClass frame = .good → fTagged frame →
      beaconTag kt (p.val / 2) (headerBare frame) (cut frame 24 16) = cut frame 40 8 →
      s.node.inn.beacons.find? (fun x => x.1 == be frame 24 8) = none →
      Completes (.beaconReceived p frame) s (fun m => (be frame 24 8, be frame 36 4) ∈ m.inn.beacons
        ∧ (inState s.node = 2 → betterBeacon s.node (be frame 32 1) (be frame 24 8) → inState m = 1)
        ∧ (inState s.node ≠ 2 → inState m = inState s.node))) ∧
    (inState s.node = 2 → s.node.inn.portMoved = true → Completes .beaconWindowExpiry s (fun m =>
      m.inn.portMoved = false ∧ inState m = 2)) ∧
    (inState s.node = 2 → s.node.inn.portMoved = false → Completes .beaconWindowExpiry s (fun m =>
      inState m = 4 ∧ isLeader m ∧ ownNumber m = 1 ∧ nodesNow m = 1 ∧ epochNow m = 0 ∧ m.inn.forming = true
        ∧ gf m R.IN_EVT F.IN_EVT_LEADER = 1)) ∧
    (∀ w, s.node.inn.wonCn = some w → isLeader s.node → epochNow s.node = 0 → (formWait s.node : Int) ≤ cnDiff (cnNow s.node) w →
      Completes .formwaitExpiry s (fun m => m.inn.wanted = true ∧ m.inn.wonCn = none))

/-- A node's part in a PREPARE and a COMMIT: its count, the delay it adds, TOTAL and ENDTAIL where the lap turns, the number it
keeps, and one acknowledgement (R103, R105, R106, R115). -/
def Clause.LapChanges : Prop :=
  ∀ (n : Node) (c p : Nat) (l : Lap),
    (changePrepare n c p l).count = (if l.descend then l.count - 1 else l.count + 1)
    ∧ (changePrepare n c p l).delaySum = l.delaySum + linkDelay n p
    ∧ (changePrepare n c p l).epoch = l.epoch ∧ (changePrepare n c p l).leader = l.leader ∧ (changePrepare n c p l).tdom = l.tdom
    ∧ (endsLap n c → (changePrepare n c p l).total = (changePrepare n c p l).count)
    ∧ (endsLap n c = false → (changePrepare n c p l).total = l.total)
    ∧ (n.inn.prepared = none → ∃ pr, (takePrepare n p l).inn.prepared = some pr ∧ pr.epoch = l.epoch ∧ pr.number = l.count
        ∧ pr.leader = l.leader ∧ pr.tdom = l.tdom ∧ pr.orient = if l.reverse ∨ l.descend then 1 - p % 2 else p % 2)
    ∧ gf (takePrepare n p l) R.IN_STAT F.IN_STAT_INAUG = 1
    ∧ (∀ pr, n.inn.prepared = some pr → pr.epoch = l.epoch → ∃ pr', (takeCommit n l).inn.prepared = some pr'
        ∧ pr'.commitCn = some l.commitCn ∧ pr'.number = pr.number ∧ pr'.total = l.total ∧ pr'.d = l.d)
    ∧ (commitInPassing n p l).2 = { l with acks := l.acks + 1 }

/-- A lap frame with a good CRC, cycle number and tag: on the pass on which nodes change it its payload is changed and tagged
again, on the other it is read where it ends (R56, R80, R87, R103 to R106). -/
def Clause.LapFrames : Prop :=
  ∀ (s : State) (c : Fin 2) (b : List Byte) (n : Node), hears s.node c.val b → fType b = 0x0C →
    n = countCrc (quiet s.node) (rxPort s.node c.val b) b → crcClass b = .good → passesCn n c.val b → singleTagOk n c.val b →
    (∀ (cmd : Instr) (op : Nat) (change : Node → Nat → Lap → Node × Lap) (read : Node → Lap → Node),
      (cmd, op, change, read) ∈ ([(.prepareReceived c b, 1, prepareInPassing c.val, readTotal),
        (.commitReceived c b, 2, commitInPassing, readCommit)]
        : List (Instr × Nat × (Node → Nat → Lap → Node × Lap) × (Node → Lap → Node))) ∨
      (cmd = .prepareReturned c b ∧ op = 1 ∧ change = prepareInPassing c.val ∧ read = readTotal
        ∧ (isLeader n && n.inn.inaug.isSome) = false) ∨
      (cmd = .prepareReturned c b ∧ op = 1 ∧ change = (fun n _ l => (n, l)) ∧ read = leaderReadsPrepare
        ∧ (isLeader n && n.inn.inaug.isSome) = true) →
      (parseLap (cut b 24 152)).op = op →
      (changingPass n c.val b = false → Completes cmd s (fun m => m = keepId s.node
        (if (passFrame (noteClaimed n c.val b) c.val b b true).2 then read (passFrame (noteClaimed n c.val b) c.val b b true).1 (parseLap (cut b 24 152))
          else (passFrame (noteClaimed n c.val b) c.val b b true).1))) ∧
      (changingPass n c.val b → isRingB n c.val = false → isSegHead n (1 - c.val) = false → ∀ n' l',
        isSegHead n' (1 - c.val) = false → isRingB n' c.val = false →
        change (noteClaimed n c.val b) (rxPort n c.val b) (parseLap (cut b 24 152)) = (n', l') →
        Completes cmd s (fun m => m = keepId s.node
          (if (passFrame n' c.val b (rewriteLap n' c.val b l') true).2 then read (passFrame n' c.val b (rewriteLap n' c.val b l') true).1 l'
            else (passFrame n' c.val b (rewriteLap n' c.val b l') true).1))))

/-- What the leader and a segment head start themselves: PREPARE, its time limit, COMMIT, and the copies of a lap that a
segment head and the ring-B origin send on (R103 to R106, R480). -/
def Clause.LapStarts : Prop :=
  ∀ (s : State) (a b : Fin 118),
    (isLeader s.node → inState s.node = 4 → s.node.inn.inaug = none → s.node.inn.forming = false → canLap s.node → cxAlive s.node →
      s.node.inn.yield = none → s.node.inn.wanted = true → Completes (.prepareSend a b) s (fun m =>
        gf m R.IN_STAT F.IN_STAT_INAUG = 1 ∧ m.inn.wanted = false
          ∧ (∃ i, m.inn.inaug = some i ∧ i.epoch = nextEpoch s.node ∧ i.count0 = 1 ∧ i.leader = s.node.uid.toNat ∧ i.committed = false)
          ∧ (∃ pr, m.inn.prepared = some pr ∧ pr.epoch = nextEpoch s.node ∧ pr.number = 1))) ∧
    (∀ i, s.node.inn.inaug = some i → i.returned = false → (i.lm + 1 : Int) ≤ cnDiff (cnNow s.node) i.sentCn →
      Completes .prepareReturnTimeout s (fun m => m.inn.inaug = none ∧ m.inn.wanted = true ∧ i.epoch ≤ m.inn.maxEpoch
        ∧ gf m R.IN_STAT F.IN_STAT_INAUG = 0 ∧ gf m R.IN_EVT F.IN_EVT_RESTART = 1 ∧ Counted s.node m (R.IN_CNT 1))) ∧
    (∀ i, s.node.inn.inaug = some i → i.returned = true → i.committed = false → canLap s.node → cxAlive s.node →
      s.node.inn.abandonNow = false → bitOf i.flags 3 = false → Completes (.commitSend a b) s (fun m =>
        m.inn.inaug = some { i with committed := true, commitCn := cnWrap (cnNow s.node + i.lm + 1) })) ∧
    (∀ (c : Fin 2) x rest, s.node.inn.headCopy = x :: rest → isSegHead s.node c.val → mayClaim s.node c.val .control →
      Completes (.segmentHeadPrepareCopy c a) s (fun m => m.inn.headCopy = rest ∧ Counted s.node m (R.LC_CNT c.val 11))) ∧
    (∀ x rest, s.node.inn.ringBCopy = x :: rest → isRingB s.node 1 → originates s.node 1 → mayClaim s.node 1 .control →
      Completes (.ringBCopyComplete a) s (fun m => m.inn.ringBCopy = rest ∧ Counted s.node m (R.LC_CNT 1 11)))

/-- Coupling: admission records on a held port, COUPLE to the leader after two of them, the merge PREPARE of the winner and the
plan that reaches the yielding leader (R112 to R117). -/
def Clause.Coupling : Prop :=
  ∀ s : State,
    (∀ (p : Fin 4) kt, s.node.line.kt = some kt → portUp s.node p.val → holdReason s.node p.val = 1 → lineOn s.node →
      Completes (.admissionRecordSend p) s (fun m => m.out = [.admission p.val (makeAdmission s.node kt p.val)]
        ∧ (port m p.val).admTx = ((port s.node p.val).admTx + 1) % 256) ∧
      (∀ rec_, admTag kt (cut (cut rec_ 0 56) 0 48) = cut (cut rec_ 0 56) 48 8 → (port s.node p.val).admSeq ≠ some (be (cut rec_ 0 56) 39 1) →
        bitOf (be (cut rec_ 0 56) 38 1) 4 = false →
        Completes (.admissionRecordReceived p rec_) s (fun m => (port m p.val).admRec = cut rec_ 0 56
          ∧ (port m p.val).admSeq = some (be (cut rec_ 0 56) 39 1)
          ∧ (port m p.val).admUsed = if bitOf (be (cut rec_ 0 56) 38 1) 5 ∨ isBusy s.node then (port s.node p.val).admUsed
              else (port s.node p.val).admUsed + 1)) ∧
      (∀ rec_, admTag kt (cut (cut rec_ 0 56) 0 48) ≠ cut (cut rec_ 0 56) 48 8 → Completes (.admissionRecordReceived p rec_) s (fun m =>
        gf m R.IN_EVT F.IN_EVT_ADMITFAIL = 1 ∧ Counted s.node m (R.IN_CNT 11) ∧ port m p.val = port s.node p.val))) ∧
    (∀ p : Fin 4, portUp s.node p.val → holdReason s.node p.val = 1 → 2 ≤ (port s.node p.val).admUsed →
      (port s.node p.val).coupled = false → ownNumber s.node ≠ 0 → inState s.node = 4 → Completes (.coupleSend p) s (fun m =>
        (port m p.val).coupled = true
          ∧ (isLeader s.node = false → (chan m 0).control.length = (chan s.node 0).control.length + 1
            ∧ (chan m 1).control.length = (chan s.node 1).control.length + 1))) ∧
    (∀ (a b : Fin 118) x own fast rest, s.node.inn.couples = (x, own, fast) :: rest → isLeader s.node → inState s.node = 4 →
      s.node.inn.inaug = none → s.node.inn.wanted = false → s.node.inn.yield = none → epochNow s.node ≠ 0 → canLap s.node →
      cxAlive s.node → Completes (.mergePrepareSend a b) s (fun m => m.inn.couples = rest ∧ gf m R.IN_STAT F.IN_STAT_INAUG = 1
        ∧ gf m R.IN_STAT F.IN_STAT_MERGE = 1
        ∧ ∃ i, m.inn.inaug = some i ∧ i.epoch = nextEpoch s.node ∧ i.commitCn = cnWrap (cnNow s.node + mergeAhead s.node)
          ∧ bitOf i.flags 3 = true)) ∧
    (∀ (c : Fin 2) b n, hears s.node c.val b → fType b = 0x0C → fTurned b → passesCn (countCrc (quiet s.node) (rxPort s.node c.val b) b) c.val b →
      n = (passFrame (noteClaimed (countCrc (quiet s.node) (rxPort s.node c.val b) b) c.val b) c.val b b true).1 →
      usable n c.val b → singleTagOk n c.val b → isLeader n →
      ((parseLap (cut b 24 152)).op = 3 → Completes (.coupleReceived c b) s (fun m => m = keepId s.node
        (takeCouple n (fSrc b) (parseLap (cut b 24 152)).fast (parseLap (cut b 24 152)).partner))) ∧
      ((parseLap (cut b 24 152)).op = 4 → n.inn.inaug = none → Completes (.planReceived c b) s (fun m =>
        ∃ y, m.inn.yield = some y ∧ y.epoch = (parseLap (cut b 24 152)).epoch ∧ y.commitCn = (parseLap (cut b 24 152)).commitCn
          ∧ y.leader = (parseLap (cut b 24 152)).leader ∧ y.lfirst = be (parseLap (cut b 24 152)).partner 4 2)))

/-- The frame of inauguration: what the node keeps of it and of the line, the image's header and roster at a cold-start win, the
registers of LP, LC, IN and DU, the logs. -/
def Clause.InaugurationFrame : Prop :=
  ∀ (s t : State) (c : Fin 2) (p : Fin 4) (x y : Fin 118) (b : List Byte) (cmd : Instr),
    cmd ∈ ([.beaconSend, .beaconReceived p b, .beaconWindowExpiry, .formwaitExpiry, .prepareSend x y, .prepareReceived c b,
      .segmentHeadPrepareCopy c x, .ringBCopyComplete x, .prepareReturned c b, .prepareReturnTimeout, .commitSend x y,
      .commitReceived c b, .admissionRecordSend p, .admissionRecordReceived p b, .coupleSend p, .coupleReceived c b,
      .mergePrepareSend x y, .planReceived c b] : List Instr) → exec cmd s = .next t →
    Frame (logParts ++ [.out, .line, .inn, .image]) (blocks [2, 3, 4, 5, 6, 8]) s.node t.node ∧ t.pending = s.pending
    ∧ (cmd ≠ .beaconWindowExpiry → t.node.image = s.node.image)

/-- A commit list does the same at every node: two nodes with the same image hold the same image after it, whatever else they
hold, and a list changes nothing below the roster but its own LSEQ (R22, R125). -/
def Obligations.CommitListsAgree : Prop :=
  ∀ (n m : Node) (l : CommitList), n.image = m.image →
    (applyList n l).image = (applyList m l).image ∧ (applyList n l).uid = n.uid ∧ (applyList n l).dram = n.dram
    ∧ (∀ a, a < imgRoster → a ≠ 42 → a ≠ 43 → look 0#8 (applyList n l).image a = look 0#8 n.image a)

/-- The leader's checks of a proposal by Table IN-11: section and operation, range of the entry and its bytes, the bytes open to
proposals and the owner of a pair entry, the epoch; and what a committed one writes (R120, R122, Table IN-7, Table IN-8). -/
def Clause.ProposalChecks : Prop :=
  (∀ node sect op index boff blen old, sect = 0 ∨ 5 < sect → rejectReason node sect op index boff blen old = 1) ∧
  (∀ node sect op index boff blen old, op ≠ 1 → op ≠ 2 → rejectReason node sect op index boff blen old = 1) ∧
  (∀ node index boff blen old, 256 ≤ index ∨ blen = 0 ∨ 32 < boff + blen → rejectReason node 1 1 index boff blen old = 2) ∧
  (∀ node index boff blen old, index < 512 → 1 ≤ blen → boff + blen ≤ 8 → boff < 1 ∨ 3 < boff + blen →
    rejectReason node 2 1 index boff blen old = 3) ∧
  (∀ node index, index < 512 → index + 1 ≠ node → rejectReason node 3 1 index 0 2 false = 3) ∧
  (∀ node index boff blen, index < 1024 → 1 ≤ blen → boff + blen ≤ 4 →
    rejectReason node 5 1 index boff blen true = 4 ∧ rejectReason node 5 1 index boff blen false = 0) ∧
  (∀ (n : Node) sect base size count index boff data, sectionShape sect = some (base, size, count) →
    (∀ i < data.length, look 0#8 (applyProposal n sect 1 index boff data).image (base + size * index + boff + i) = data.getD i 0#8)
    ∧ (∀ a, a < base + size * index + boff ∨ base + size * index + boff + data.length ≤ a →
        look 0#8 (applyProposal n sect 1 index boff data).image a = look 0#8 n.image a)
    ∧ (∀ a, (openBytes sect size).1 ≤ a → a < (openBytes sect size).2 →
        look 0#8 (applyProposal n sect 2 index boff data).image (base + size * index + a) = 0#8))

/-- The proposal a frame carries, with the REASON its leader's checks give (Tables IN-7, IN-11). -/
def proposalIn (n : Node) (c : Nat) (b : List Byte) : Ordered :=
  let p := cut b 24 160
  { cn := cnOf n c b, chan := c, slot := fIndex b, node := fSrc b, pseq := be p 0 2, sect := be p 2 1, op := be p 3 1
    index := be p 4 2, boff := be p 6 1, data := cut p 8 (min (be p 7 1) 32), epoch := epochNow n
    reason := rejectReason (fSrc b) (be p 2 1) (be p 3 1) (be p 4 2) (be p 6 1) (be p 7 1) (fEpochlo b != epochNow n % 256) }

/-- The sequencer's commands: a proposal submitted or refused, one that waited too long, one absorbed by the leader, the list
the leader publishes, and the recovery of a STALE image (R120 to R128, R482). -/
def Clause.SequencerCommands : Prop :=
  ∀ s : State,
    (∀ v : BitVec 32, lineOn s.node → gf s.node R.IN_PROPSTAT F.IN_PROPSTAT_RESULT ≠ 1 → mayPropose s.node →
      Completes (.proposalSubmit v) s (fun m => gf m R.IN_PROPSTAT F.IN_PROPSTAT_RESULT = 1
        ∧ gf m R.IN_PROPSTAT F.IN_PROPSTAT_PSEQ = (s.node.inn.pseq + 1) % 65536 ∧ m.inn.pseq = (s.node.inn.pseq + 1) % 65536
        ∧ m.inn.proposals.length = s.node.inn.proposals.length + 1 ∧ Counted s.node m (R.IN_CNT 2)
        ∧ (isLeader s.node → gf m R.IN_PROPCTL F.IN_PROPCTL_GO = 0))) ∧
    (∀ v : BitVec 32, lineOn s.node → gf s.node R.IN_PROPSTAT F.IN_PROPSTAT_RESULT = 1 ∨ mayPropose s.node = false →
      Completes (.proposalSubmit v) s (fun m => m.inn = s.node.inn ∧ Frame (.out :: logParts) (blocks logBlocks) s.node m)) ∧
    (∀ (q : BitVec 16) p, s.node.inn.proposals.find? (fun p => p.pseq == q.toNat) = some p →
      (proposalWait s.node : Int) ≤ cnDiff (cnNow s.node) p.cn →
      (p.tries < 3 → Completes (.proposalTimeout q) s (fun m => m.inn.proposals =
        s.node.inn.proposals.map (fun x => if x.pseq = p.pseq then { p with tries := p.tries + 1, cn := cnNow s.node } else x))) ∧
      (3 ≤ p.tries → Completes (.proposalTimeout q) s (fun m =>
        m.inn.proposals = s.node.inn.proposals.filter (fun x => x.pseq != p.pseq) ∧ Counted s.node m (R.IN_CNT 5)
        ∧ (p.origin = 0 → gf m R.IN_PROPSTAT F.IN_PROPSTAT_RESULT = 4 ∧ gf m R.IN_EVT F.IN_EVT_PROPDONE = 1)))) ∧
    (isLeader s.node → inState s.node = 4 → s.node.inn.forming = false → cxAlive s.node → lineOn s.node → s.node.inn.inaug = none →
      s.node.inn.published = none → s.node.inn.lastListCn = 0 → Completes .commitListPublish s (fun m =>
        m.inn.lseq = (s.node.inn.lseq + 1) % 65536 ∧ (m.inn.published.map (fun x => x.1)) = some (cnNow s.node)
          ∧ m.inn.lists.length = s.node.inn.lists.length + 1
          ∧ m.inn.lastListCn = cnWrap (cnNow s.node + listCycles s.node + 1 + gf s.node R.IN_SEQCFG F.IN_SEQCFG_MARGIN))) ∧
    (isStale s.node → s.node.inn.resync = true → ownNumber s.node ≠ 0 → isLeader s.node = false → cxAlive s.node →
      Completes .resyncSend s (fun m => m.inn.resync = false ∧ m.inn.resyncCn = some (cnNow s.node)
        ∧ (chan m 0).control.length = (chan s.node 0).control.length + 1)) ∧
    (∀ (a b : Fin 118) cn img off, s.node.inn.snapTx = some (cn, img, off) → isLeader s.node → canLap s.node → cxAlive s.node →
      snapAllowed s.node cn → Completes (.snapChainSend a b) s (fun m => m.inn.snapTx =
        if off + min (snapChunk s.node) (imgEnd - off) < imgEnd then some (cn, img, off + min (snapChunk s.node) (imgEnd - off)) else none)) ∧
    (isStale s.node → s.node.inn.resync = false → s.node.inn.snap = none →
      s.node.inn.resyncCn.any (fun k => decide (64 ≤ cnDiff (cnNow s.node) k)) → Completes .snapMissed s (fun m => m.inn.resync = true)) ∧
    (∀ (c : Fin 2) b, hears s.node c.val b →
      (∀ n, fType b = 0x0A → fTurned b → passesCn (countCrc (quiet s.node) (rxPort s.node c.val b) b) c.val b →
        n = (passFrame (noteClaimed (countCrc (quiet s.node) (rxPort s.node c.val b) b) c.val b) c.val b b true).1 →
        isLeader n → crcClass b = .good → singleTagOk n c.val b → Completes (.proposalReceived c b) s (fun m =>
          m = keepId s.node (orderProposal n (proposalIn n c.val b)))) ∧
      (∀ n, fType b = 0x0C → fTurned b → passesCn (countCrc (quiet s.node) (rxPort s.node c.val b) b) c.val b →
        n = (passFrame (noteClaimed (countCrc (quiet s.node) (rxPort s.node c.val b) b) c.val b) c.val b b true).1 →
        usable n c.val b → singleTagOk n c.val b → isLeader n → (parseLap (cut b 24 152)).op = 5 →
        Completes (.resyncReceived c b) s (fun m => m.inn.snapWanted = true)) ∧
      (∀ n r, fType b = 0x0C → receiveMini (quiet s.node) c.val b = (n, some r) → chainTagOk n c.val r → be r.payload 0 1 = 6 →
        isLeader n = false → ownNumber n ≠ 0 → Completes (.snapReceived c b) s (fun m =>
          m = keepId s.node (takeSnap n (r.payload.take (r.payload.length - 8))))))

/-- A proposal that enters the leader's order keeps the others in their order, once each, and a repeated one is discarded
(R121). -/
def Clause.ProposalOrder : Prop :=
  ∀ (n : Node) (x : Ordered),
    (insertOrdered x n.inn.ordered).Perm (x :: n.inn.ordered) ∧ n.inn.ordered.Sublist (insertOrdered x n.inn.ordered)
    ∧ (n.inn.ordered.any (fun y => y.node == x.node && y.pseq == x.pseq) → orderProposal n x = n)
    ∧ (∀ a b, n.inn.ordered = a ++ b → (∀ y ∈ a, ordBefore x y = false) → (∀ y ∈ b.head?, ordBefore x y = true) →
        insertOrdered x n.inn.ordered = a ++ x :: b)

/-- The frame of the sequencer's commands: inauguration and sequencer state, the line's sending state, results of Milnak's own
proposals, the registers of LP, LC, IN, the logs; the image only by a snapshot received, with the flags of AC. -/
def Clause.SequencerFrame : Prop :=
  ∀ (s t : State) (c : Fin 2) (a b : Fin 118) (f : List Byte) (v : BitVec 32) (q : BitVec 16) (cmd : Instr),
    cmd ∈ ([.proposalSubmit v, .proposalReceived c f, .commitListPublish, .proposalTimeout q, .resyncSend, .resyncReceived c f,
      .snapChainSend a b, .snapReceived c f, .snapMissed] : List Instr) → exec cmd s = .next t →
    Frame (logParts ++ [.out, .inn, .line, .mil, .image]) (blocks [0, 2, 3, 4, 6, 8]) s.node t.node ∧ t.pending = s.pending
    ∧ (cmd ≠ .snapReceived c f → t.node.image = s.node.image)

/-- Holdover, the wrap of NS by the counter's own ticks, pulse and capture pins, and the reads that latch (R131, R133, R145, R149,
R154 to R156). -/
def Clause.TimeBaseCommands : Prop :=
  ∀ s : State,
    (hasDomain s.node → isRoot s.node = false → 2 ≤ s.node.tb.noExch → gf s.node R.TB_STAT F.TB_STAT_STATE ≠ 4 →
      Completes .holdoverEntry s (fun m => gf m R.TB_STAT F.TB_STAT_STATE = 4 ∧ gf m R.TB_EVT F.TB_EVT_HOLDOVER = 1
        ∧ Counted s.node m (R.TB_CNT 4))) ∧
    (s.node.tb.running = true → s.node.tb.incr ≠ 0 → Completes .nsWrap s (fun m =>
      m.tb.counter.toNat < s.node.tb.incr.toNat ∧ rd m R.TB_WRAPCNT = rd s.node R.TB_WRAPCNT + 1#32
        ∧ rd64 m R.TB_WRAPCN_LO R.TB_WRAPCN_HI = cnNow s.node ∧ gf m R.TB_EVT F.TB_EVT_WRAP = 1 ∧ m.tb.incr = s.node.tb.incr)) ∧
    (∀ (i : Fin 4) (periodic low : Bool), (rd s.node (R.TB_TOUTWID i)).toNat < 8 →
      Completes (.toutArm i periodic low) s (fun m => gf m (R.TB_TOUTSTAT i) F.TB_TOUTSTAT_BADCFG = 1
        ∧ gf m (R.TB_TOUTCTL i) F.TB_TOUTCTL_ARM = 0 ∧ m.tb = s.node.tb)) ∧
    (∀ (i : Fin 4) (low : Bool), 8 ≤ (rd s.node (R.TB_TOUTWID i)).toNat → (rd s.node (R.TB_TOUTOFF i)).toNat ≤ 124999 →
      domainTime s.node ≤ 125000 * ((rd s.node (R.TB_TOUTCN_LO i)).toNat + 2 ^ 32 * gf s.node (R.TB_TOUTCN_HI i) ⟨0, 16⟩)
        + ((rd s.node (R.TB_TOUTOFF i)).toNat - (rd s.node (R.TB_TOUTOFF i)).toNat % 2) →
      Completes (.toutArm i false low) s (fun m => gf m (R.TB_TOUTCTL i) F.TB_TOUTCTL_ARM = 1
        ∧ (look {} m.tb.tout i.val).armed = true ∧ (look {} m.tb.tout i.val).activeLow = low
        ∧ (look {} m.tb.tout i.val).next = 125000 * ((rd s.node (R.TB_TOUTCN_LO i)).toNat
            + 2 ^ 32 * gf s.node (R.TB_TOUTCN_HI i) ⟨0, 16⟩) + ((rd s.node (R.TB_TOUTOFF i)).toNat - (rd s.node (R.TB_TOUTOFF i)).toNat % 2))) ∧
    (∀ i : Fin 4, Completes (.toutDisarm i) s (fun m => gf m (R.TB_TOUTCTL i) F.TB_TOUTCTL_ARM = 0
      ∧ (look {} m.tb.tout i.val).armed = false ∧ (look {} m.tb.tout i.val).active = (look {} s.node.tb.tout i.val).active)) ∧
    (∀ i : Fin 4, (look {} s.node.tb.tout i.val).armed = true → (look {} s.node.tb.tout i.val).active = false →
      (look {} s.node.tb.tout i.val).fired = false → s.node.tb.running = true → inThisCycle s.node (look {} s.node.tb.tout i.val).next →
      Completes (.toutPulseStart i) s (fun m => m.out = [.tout i.val (!(look {} s.node.tb.tout i.val).activeLow)]
        ∧ (look {} m.tb.tout i.val).active = true
        ∧ (look {} m.tb.tout i.val).stop = (look {} s.node.tb.tout i.val).next + (look {} s.node.tb.tout i.val).wid
        ∧ gf m (R.TB_TOUTSTAT i) F.TB_TOUTSTAT_PULSES = min (gf s.node (R.TB_TOUTSTAT i) F.TB_TOUTSTAT_PULSES + 1)
            (2 ^ F.TB_TOUTSTAT_PULSES.width - 1))) ∧
    (∀ i : Fin 4, (look {} s.node.tb.tout i.val).active = true → inThisCycle s.node (look {} s.node.tb.tout i.val).stop →
      Completes (.toutPulseEnd i) s (fun m => m.out = [.tout i.val (look {} s.node.tb.tout i.val).activeLow]
        ∧ (look {} m.tb.tout i.val).active = false
        ∧ ((look {} s.node.tb.tout i.val).periodic = false → (look {} s.node.tb.tout i.val).fired = true → gf m (R.TB_TOUTSTAT i) F.TB_TOUTSTAT_DONE = 1
          ∧ gf m (R.TB_TOUTCTL i) F.TB_TOUTCTL_ARM = 0))) ∧
    (∀ (i : Fin 4) (rise : Bool) (ns : BitVec 32), gf s.node (R.TB_TCAPCFG i) F.TB_TCAPCFG_EN = 1 →
      bitOf (gf s.node (R.TB_TCAPCFG i) F.TB_TCAPCFG_EDGE) (if rise then 0 else 1) → s.node.tb.running = true →
      (look {} s.node.tb.tcap i.val).last = none →
      ((look {} s.node.tb.tcap i.val).fifo.length < 16 → Completes (.tcapEdge i rise ns) s (fun m =>
        (look {} m.tb.tcap i.val).fifo = (look {} s.node.tb.tcap i.val).fifo ++ [⟨ns, cnNow s.node % 65536, rise⟩]
          ∧ gf m (R.TB_TCAPSTAT i) F.TB_TCAPSTAT_FILL = (look {} s.node.tb.tcap i.val).fifo.length + 1)) ∧
      (16 ≤ (look {} s.node.tb.tcap i.val).fifo.length → Completes (.tcapEdge i rise ns) s (fun m =>
        m.tb = s.node.tb ∧ gf m (R.TB_TCAPSTAT i) F.TB_TCAPSTAT_OVF = 1 ∧ gf m R.TB_EVT F.TB_EVT_TCAP = 1))) ∧
    (∀ i : Fin 4, Completes (.tcapHiRead i) s (fun m => m.out = [.word (tcapHiWord (look {} s.node.tb.tcap i.val).fifo.head?)]
      ∧ (look {} m.tb.tcap i.val).latched = (look {} s.node.tb.tcap i.val).fifo.head?
      ∧ (look {} m.tb.tcap i.val).fifo = (look {} s.node.tb.tcap i.val).fifo)) ∧
    (∀ (i : Fin 4) e, (look {} s.node.tb.tcap i.val).latched = some e → Completes (.tcapLoRead i) s (fun m => m.out = [.word e.ns]
      ∧ (look {} m.tb.tcap i.val).fifo = (look {} s.node.tb.tcap i.val).fifo.drop 1)) ∧
    Completes .incrLoRead s (fun m => m.out = [.word (s.node.tb.incr.setWidth 32)]
      ∧ m.tb.latchedIncr = (s.node.tb.incr >>> 32).setWidth 32) ∧
    Completes .nowNsRead s (fun m => m.out = [.word (nowNs s.node)] ∧ m.tb.latchedCn = s.node.tb.cn)

/-- One tick of the time PLL: the counter takes INCR, and what a step does on an empty queue is one such tick while the time base
runs (R131; that the step ticks is the model's choice, log entry 29). -/
def Clause.TickOnEmptyQueue : Prop :=
  ∀ s : State, s.pending = [] → ∃ t, step s = .next t ∧ t.pending = []
    ∧ (s.node.tb.running = true → t.node.tb.counter = s.node.tb.counter + s.node.tb.incr ∧ t.node.tb.ticks = s.node.tb.ticks + 1)
    ∧ (s.node.tb.running = false → Frame [.out] (fun _ => false) s.node t.node)
    ∧ Frame [.out, .tb] (fun a => a == R.TB_WRAPCNT || a == R.TB_WRAPCN_LO || a == R.TB_WRAPCN_HI || a == R.TB_EVT) s.node t.node

/-- The frame of the time-base commands: what the node keeps of the time base, its registers, outputs and the logs. -/
def Clause.TimeBaseFrame : Prop :=
  ∀ (s t : State) (i : Fin 4) (a b : Bool) (ns : BitVec 32) (cmd : Instr),
    cmd ∈ ([.holdoverEntry, .nsWrap, .toutArm i a b, .toutDisarm i, .toutPulseStart i, .toutPulseEnd i, .tcapEdge i a ns, .tcapHiRead i,
      .tcapLoRead i, .incrLoRead, .nowNsRead] : List Instr) → exec cmd s = .next t →
    Frame (logParts ++ [.out, .tb]) (blocks [1, 6, 8]) s.node t.node ∧ t.pending = s.pending

/-- The timers of the sleep round and what the leader decides on its own: the request at the end of TMR and of RETRY, a lap that
does not return or that a veto stops, PARK with its cycle, ABORT of a node with a class U condition (R406 to R412). -/
def Clause.SleepRounds : Prop :=
  ∀ s : State,
    (isRun s.node → gf s.node R.PW_SLEEPCFG F.PW_SLEEPCFG_TMR ≠ 0 →
      gf s.node R.PW_SLEEPCFG F.PW_SLEEPCFG_TMR * 480000 ≤ s.node.pw.quietFor → uVetoes s.node = [] → s.node.pw.request = none →
      isLeader s.node = false → ownNumber s.node ≠ 0 → Completes .roundTimerExpiry s (fun m =>
        m.pw.request = some (gf s.node R.PW_SLEEPCFG F.PW_SLEEPCFG_TARGET == 1) ∧ m.pw.requestDue = false
          ∧ (chan m 0).control.length = (chan s.node 0).control.length + 1)) ∧
    (∀ t doze, s.node.pw.retryIn = some t → retryCycles s.node ≤ t → lineOn s.node → s.node.pw.request = some doze →
      (isLeader s.node → Completes .roundRetryExpiry s (fun m => m.pw.retryIn = none ∧ (ownNumber s.node, doze) ∈ m.pw.held
        ∧ (m.pw.held.filter (fun h => h.1 == ownNumber s.node)).length = 1)) ∧
      (isLeader s.node = false → ownNumber s.node ≠ 0 → Completes .roundRetryExpiry s (fun m => m.pw.retryIn = none
        ∧ (chan m 0).control.length = (chan s.node 0).control.length + 1))) ∧
    (∀ q start k e doze ignm, s.node.pw.round = some (q, start, k, e, doze, ignm) → isLeader s.node → s.node.pw.parkSent = none →
      (s.node.pw.consent = [] → (lapMax s.node + 1 : Int) < cnDiff (cnNow s.node) start → Completes .consentTimeout s (fun m =>
        m.pw.round = none ∧ m.pw.held = [] ∧ m.pw.retryIn = some 0 ∧ gf m R.PW_ROUNDSTAT F.PW_ROUNDSTAT_RESULT = 4
          ∧ gf m R.PW_EVT F.PW_EVT_ROUNDFAIL = 1 ∧ Counted s.node m (R.PW_CNT 2))) ∧
      (s.node.pw.consent ≠ [] → ∀ r, r = parseRound s.node.pw.consent → r.consents + r.ucount + r.mcount = k →
        (r.ucount = 0 → 0 < r.mcount → ignm = false → Completes .consentTimeout s (fun m => m.pw.round = none
          ∧ gf m R.PW_ROUNDSTAT F.PW_ROUNDSTAT_RESULT = 3 ∧ m.pw.retryIn = some 0 ∧ Counted s.node m (R.PW_CNT 2))) ∧
        (r.ucount = 0 → r.mcount = 0 ∨ ignm = true → e = epochNow s.node → s.node.pw.park = none →
          Completes .consentTimeout s (fun m => gf m R.PW_ROUNDSTAT F.PW_ROUNDSTAT_RESULT = 1 ∧ m.pw.held = []
            ∧ m.pw.parkSent = some (cnWrap (cnNow s.node + 2 * (lapMax s.node + 1) + max 80 (gf s.node R.PW_ROUNDCFG F.PW_ROUNDCFG_NOTICE)))
            ∧ m.pw.park = some (q, cnWrap (cnNow s.node + 2 * (lapMax s.node + 1) + max 80 (gf s.node R.PW_ROUNDCFG F.PW_ROUNDCFG_NOTICE)), doze)
            ∧ gf m R.PW_EVT F.PW_EVT_PARKPEND = 1)))) ∧
    (∀ q pcn doze, s.node.pw.park = some (q, pcn, doze) → s.node.pw.aborted = false → uVetoes s.node ≠ [] →
      cnDiff (cnNow s.node) pcn < 0 → Completes .roundAbortSend s (fun m => m.pw.aborted = true
        ∧ (isLeader s.node → m.pw.shortfall = true)
        ∧ (isLeader s.node = false → (chan m 0).control.length = (chan s.node 0).control.length + 1)))

/-- A node's vote: it consents without conditions, counts in class U and class M with them, names itself and its first code where
no node has yet, and every node votes once in some way (R408 to R410). -/
def Obligations.RoundVotes : Prop :=
  ∀ (n : Node) (m : RoundMsg),
    (uVetoes n = [] → mVetoes n = [] → castVote n m = { m with consents := m.consents + 1 }) ∧
    (uVetoes n ≠ [] → (castVote n m).ucount = m.ucount + 1 ∧ (castVote n m).consents = m.consents
      ∧ (m.unode = 0 → (castVote n m).unode = ownNumber n ∧ some (castVote n m).ureason = (uVetoes n).head?)
      ∧ (m.unode ≠ 0 → (castVote n m).unode = m.unode ∧ (castVote n m).ureason = m.ureason)) ∧
    (mVetoes n ≠ [] → (castVote n m).mcount = m.mcount + 1 ∧ (castVote n m).consents = m.consents
      ∧ (m.mnode = 0 → (castVote n m).mnode = ownNumber n ∧ some (castVote n m).mreason = (mVetoes n).head?)
      ∧ (m.mnode ≠ 0 → (castVote n m).mnode = m.mnode ∧ (castVote n m).mreason = m.mreason)) ∧
    (castVote n m).op = m.op ∧ (castVote n m).rseq = m.rseq ∧ (castVote n m).flags = m.flags ∧ (castVote n m).nodes = m.nodes ∧
    m.consents + m.ucount + m.mcount < (castVote n m).consents + (castVote n m).ucount + (castVote n m).mcount

/-- A round frame with good CRC, cycle and tag on the outbound pass: the node's vote or acknowledgement goes into it, every other
OP passes as it came; on the return pass it is read where the pass says so (R407 to R412, R419). -/
def Clause.RoundFrames : Prop :=
  ∀ (s : State) (c : Fin 2) (b : List Byte) (n : Node) (m : RoundMsg), hears s.node c.val b → fType b = 0x0B →
    n = noteClaimed (countCrc (quiet s.node) (rxPort s.node c.val b) b) c.val b → m = parseRound (cut b 24 152) →
    passesCn (countCrc (quiet s.node) (rxPort s.node c.val b) b) c.val b → usable n c.val b → singleTagOk n c.val b →
    ∀ (cmd : Instr) (op : Nat) (change : Node → RoundMsg → Node × RoundMsg) (read : Node → RoundMsg → Node),
      (cmd, op, change, read) ∈ ([(.roundRequestReceived c b, 1, (fun n m => (n, m)), holdRequest),
        (.consentReceived c b, 2, (fun n m => (n, castVote n m)), readConsent),
        (.parkReceived c b, 3, (fun n m => (takePark n m, { m with acks := m.acks + 1 })), takePark),
        (.parkReturned c b, 3, (fun n m => (takePark n m, { m with acks := m.acks + 1 })), readPark),
        (.roundAbortReceived c b, 4, (fun n m => (n, m)), readAbort), (.cancelReceived c b, 5, (fun n m => (n, m)), takeCancel)]
        : List (Instr × Nat × (Node → RoundMsg → Node × RoundMsg) × (Node → RoundMsg → Node))) → m.op = op →
      (fTurned b → Completes cmd s (fun t => t = keepId s.node (if (passFrame n c.val b b true).2 then
        read (passFrame n c.val b b true).1 m else (passFrame n c.val b b true).1))) ∧
      (fTurned b = false → ownNumber n ≠ 0 → ∀ n' m', change n m = (n', m') → Completes cmd s (fun t => t = keepId s.node
        (if (passFrame n' c.val b (if m' = m then b else rewriteRound n' c.val b m') true).2 then
          read (passFrame n' c.val b (if m' = m then b else rewriteRound n' c.val b m') true).1 m'
        else (passFrame n' c.val b (if m' = m then b else rewriteRound n' c.val b m') true).1)))

/-- A gasp heard with good CRC, cycle and tag passes on and is read where the pass says so (R419). -/
def Clause.GaspPasses : Prop :=
  ∀ (s : State) (c : Fin 2) (b : List Byte) (n n' : Node) (seen : Bool), hears s.node c.val b → fType b = 0x0C →
    n = noteClaimed (countCrc (quiet s.node) (rxPort s.node c.val b) b) c.val b →
    passesCn (countCrc (quiet s.node) (rxPort s.node c.val b) b) c.val b → passFrame n c.val b b true = (n', seen) →
    usable n' c.val b → be b 24 1 = 7 → singleTagOk n' c.val b →
    Completes (.gaspReceived c b) s (fun t => t = keepId s.node (if seen then takeGasp n' (cut b 24 152) else n'))

/-- What the messages of a round and a gasp change in the node that reads them: the leader holds one request of each node; PARK
ends the node's own request and shows its cycle; CANCEL takes the park back; a shortfall or an ABORT stops the leader's round; a
gasp is recorded once (R406, R407, R411, R412, R419). -/
def Clause.RoundReads : Prop :=
  ∀ (n : Node) (m : RoundMsg),
    (isLeader n → (m.from_, m.doze) ∈ (holdRequest n m).pw.held
      ∧ ((holdRequest n m).pw.held.filter (fun h => h.1 == m.from_)).length = 1) ∧
    (isLeader n = false → holdRequest n m = n) ∧
    (takePark n m).pw.request = none ∧
    (n.pw.park = none → (takePark n m).pw.park = some (m.rseq, m.parkCn, m.doze) ∧ gf (takePark n m) R.PW_EVT F.PW_EVT_PARKPEND = 1
      ∧ (takePark n m).pw.asker = n.pw.request.isSome) ∧
    (∀ q pcn doze, n.pw.park = some (q, pcn, doze) → q = m.rseq → (takeCancel n m).pw.park = none
      ∧ gf (takeCancel n m) R.PW_EVT F.PW_EVT_PARKPEND = 0 ∧ gf (takeCancel n m) R.PW_EVT F.PW_EVT_CANCELLED = 1
      ∧ (isLeader n → (takeCancel n m).pw.round = none ∧ gf (takeCancel n m) R.PW_ROUNDSTAT F.PW_ROUNDSTAT_RESULT = 5
        ∧ Counted n (takeCancel n m) (R.PW_CNT 2))) ∧
    (∀ q start k e doze ignm, n.pw.round = some (q, start, k, e, doze, ignm) → isLeader n → q = m.rseq →
      (m.acks < k → (readPark n m).pw.shortfall = true) ∧ (n.pw.parkSent.isSome → (readAbort n m).pw.shortfall = true)
      ∧ (readConsent n m).pw.consent = m.bytes) ∧
    (∀ b, be b 2 2 ≠ ownNumber n → n.pw.gaspSeen.any (fun e => e.1 == be b 2 2 && e.2 == be b 12 6) = false →
      Counted n (takeGasp n b) (R.PW_CNT 6) ∧ gf (takeGasp n b) R.PW_EVT F.PW_EVT_GASPRX = 1
        ∧ (takeGasp (takeGasp n b) b).regs = (takeGasp n b).regs)

/-- The frame of the received round and gasp frames and of the leader's evaluation. -/
def Clause.RoundFrame : Prop :=
  ∀ (s t : State) (c : Fin 2) (b : List Byte) (cmd : Instr),
    cmd ∈ ([.roundRequestReceived c b, .consentReceived c b, .consentTimeout, .parkReceived c b, .parkReturned c b,
      .roundAbortReceived c b, .cancelReceived c b, .gaspReceived c b] : List Instr) → exec cmd s = .next t →
    Frame (logParts ++ [.out, .pw, .line, .inn]) (blocks [2, 3, 4, 6, 8, 15]) s.node t.node ∧ t.pending = s.pending

/-- Neighbour signals and pair records: what goes out, and what a record with a good tag is kept as; a record with a bad tag is
counted and dropped (R174 to R176, R178). -/
def Clause.PairRecords : Prop :=
  ∀ s : State, lineOn s.node →
    (∀ p : Fin 5, p.val < 4 → portPasses s.node p.val → lineDieOk s.node (p.val / 2) → facesVt8400 s.node p.val →
      Completes (.neighbourSignalSend p) s (fun m =>
        m.out = [.neighbour p.val (pairRecord s.node (p.val / 2) ++ relayRecord s.node p.val)])) ∧
    (pairPortState s.node = 7 → cxAlive s.node → Completes (.neighbourSignalSend 4) s (fun m =>
      m.out = [.pairPort (pairRecord s.node 0 ++ beBytes 4 (rd s.node R.DU_HEALTH).toNat)])) ∧
    (∀ (p : Fin 4) b, portPasses s.node p.val → lineDieOk s.node (p.val / 2) → (cut b 14 14).all (fun x => x == 0#8) = true →
      (∀ r, checkPairRec s.node (p.val / 2) (cut b 0 14) = some r → Completes (.neighbourSignalReceived p b) s (fun m =>
        m = keepId s.node (useRecord (setPort (quiet s.node) p.val { port s.node p.val with pairRec := some (signalCn s.node (p.val / 2), cut b 0 14) }) false r))) ∧
      (checkPairRec s.node (p.val / 2) (cut b 0 14) = none → Completes (.neighbourSignalReceived p b) s (fun m =>
        Counted s.node m (R.DU_CNT 11) ∧ m.du = s.node.du))) ∧
    (∀ b, cxAlive s.node → pairPortState s.node = 7 →
      (∀ r, checkPairRec s.node 0 (cut b 0 14) = some r → Completes (.pairRecordReceived b) s (fun m =>
        m = keepId s.node (useRecord (quiet s.node) true r)
          ∧ (pairMember s.node → r.node ≠ 0 → r.node = partnerNumber s.node → (s.node.du.partner.any (fun y => y.cn == r.cn)) = false →
            m.du.partner.head? = some ⟨r.cn, r.flags⟩))) ∧
      (checkPairRec s.node 0 (cut b 0 14) = none → Completes (.pairRecordReceived b) s (fun m =>
        Counted s.node m (R.DU_CNT 11) ∧ m.du = s.node.du)))

/-- Who is active: a grant is taken in cycle f + 2 when the partner's heartbeat is missing, a conflict is reported when it is
active, and a standby without an arbiter takes over after 16 silent cycles (R172, R180, R181). -/
def Clause.PairTakeOver : Prop :=
  ∀ s : State, lineOn s.node → cxAlive s.node →
    (s.node.du.grantIn = some (cnNow s.node) → pairRole s.node = 2 → unfit s.node = false →
      (heartbeat s.node.du.partner (cnAgo s.node 1) = false → heartbeat s.node.du.partner (cnAgo s.node 2) = false →
        Completes .grantReceived s (fun m => pairRole m = 1 ∧ gf m R.DU_PAIRSTAT F.DU_PAIRSTAT_TOKEN = 1
          ∧ m.du.takeoverCn = some (cnWrap (cnNow s.node + 2)) ∧ m.du.grantIn = none ∧ gf m R.DU_HEALTH F.DU_HEALTH_SYNC = 0)) ∧
      (∀ f, heartbeat s.node.du.partner (cnNow s.node) = true → flagsOf s.node.du.partner (cnNow s.node) = some f → f % 4 = 1 →
        heartbeat s.node.du.partner (cnAgo s.node 1) = true → Completes .grantReceived s (fun m =>
          pairRole m = 2 ∧ gf m R.DU_EVT F.DU_EVT_CONFLICT = 1 ∧ m.du.takeoverCn = s.node.du.takeoverCn))) ∧
    (pairRole s.node = 2 → s.node.du.noArb = true → partnerSilent s.node 16 = true → unfit s.node = false →
      Completes .noArbiterTakeover s (fun m => pairRole m = 1 ∧ gf m R.DU_PAIRSTAT F.DU_PAIRSTAT_TOKEN = 1
        ∧ m.du.takeoverCn = some (cnWrap (cnNow s.node + 2)))) ∧
    (∀ c, s.node.du.numberCn = some c → 16 ≤ cnDiff (cnNow s.node) c → pairMember s.node → inPair s.node = false →
      pairRole s.node = 0 → Completes .pairFormTimeout s (fun m => pairRole m = 1 ∧ gf m R.DU_PAIRSTAT F.DU_PAIRSTAT_TOKEN = 1
        ∧ (isRun s.node ∨ blendLoaded s.node → m.pw.moveTo = some 4)))

/-- Hand-back: the request after REVDLY, on demand and again after 64 cycles, the arbiter's answer, what HANDOVER and DECLINE
do to the member that asked, and the retry that clears the failures (R186 to R188). -/
def Clause.HandBack : Prop :=
  ∀ s : State,
    (mayReturn s.node = true →
      (∀ c, s.node.du.request = false → s.node.du.syncCn = some c → (revDelay s.node : Int) ≤ cnDiff (cnNow s.node) c →
        Completes .revdlyExpiry s (fun m => m.du.request = true ∧ m.du.requestCn = cnNow s.node
          ∧ m.du.arbOut.length = s.node.du.arbOut.length + 1)) ∧
      Completes .handbackRequest s (fun m => m.du.request = true ∧ m.du.requestCn = cnNow s.node
        ∧ m.du.arbOut = s.node.du.arbOut ++ [{ body := beBytes 1 129 ++ beBytes 2 (ownNumber s.node) ++ beBytes 2 (pairLow s.node) ++ beBytes 3 0 }]) ∧
      (s.node.du.request = true → 64 ≤ cnDiff (cnNow s.node) s.node.du.requestCn → Completes .handbackRequestRepeat s (fun m =>
        m.du.request = true ∧ m.du.requestCn = cnNow s.node ∧ m.du.arbOut.length = s.node.du.arbOut.length + 1)) ∧
      (∀ b n, s.node.du.request = true → popArb (quiet s.node) 2 (pairLow s.node) = some (b, n) →
        0 ≤ cnDiff (rebuildCyc (cnNow s.node) (be b 5 3)) (cnNow s.node) → Completes .handoverReceived s (fun m =>
          m.du.request = false ∧ m.du.shadow = some (rebuildCyc (cnNow s.node) (be b 5 3)) ∧ m.du.match_ = false))) ∧
    (mayReturn s.node = false → ∀ cmd ∈ ([.revdlyExpiry, .handbackRequest, .handbackRequestRepeat, .handoverReceived] : List Instr),
      Completes cmd s (fun m => m = quiet s.node)) ∧
    (lineOn s.node → cxAlive s.node → s.node.du.arbLow ≠ 0 → s.node.du.arbSub = false →
      ∀ b n, popArb (quiet s.node) 1 s.node.du.arbLow = some (b, n) → Completes .arbRequestReceived s (fun m =>
        m.du.arbIn = n.du.arbIn ∧ m.du.arbOut.map (·.body) = s.node.du.arbOut.map (·.body) ++
          [if heartbeat s.node.du.lower (cnAgo s.node 1) && heartbeat s.node.du.higher (cnAgo s.node 1) then
            beBytes 1 130 ++ beBytes 2 (ownNumber s.node) ++ beBytes 2 s.node.du.arbLow
              ++ beBytes 3 ((cnNow s.node + listCycles s.node + 2) % 2 ^ 24)
          else beBytes 1 131 ++ beBytes 2 (ownNumber s.node) ++ beBytes 2 s.node.du.arbLow ++ beBytes 3 0])) ∧
    (lineOn s.node → s.node.du.request = true → ∀ b n, popArb (quiet s.node) 3 (pairLow s.node) = some (b, n) →
      Completes .declineReceived s (fun m => m.du.request = false ∧ m.du.syncCn = s.node.du.syncCn.map (fun _ => cnNow s.node))) ∧
    (lineOn s.node → Completes .pairRetry s (fun m => gf m R.DU_PAIRSTAT F.DU_PAIRSTAT_REVFAIL = 0
      ∧ gf m R.DU_PAIRSTAT F.DU_PAIRSTAT_DISAGREE = 0))

/-- Checkpoints and the tests of a standby (R182, R183, R189), and the query of the move table (R163). -/
def Obligations.CheckpointsAndTests : Prop :=
  ∀ s : State, lineOn s.node →
    (cxAlive s.node → pairPortState s.node = 7 →
      (s.node.du.ckOut ≠ [] → Completes .checkpointSend s (fun m => m.out = [.pairPort s.node.du.ckOut] ∧ m.du.ckOut = []
        ∧ Counted s.node m (R.DU_CNT 0))) ∧
      (∀ b, isStandby s.node → checkpointGood b = true → Completes (.checkpointReceived b) s (fun m => m.du.ckHave = true ∧ m.du.ckBad = 0
        ∧ m.du.ckSeq = some (le b 8 4) ∧ Counted s.node m (R.DU_CNT 1) ∧ gf m R.DU_HEALTH F.DU_HEALTH_CKCRCERR = 0
        ∧ m.du.ckDigest = some (le b 0 6, BitVec.ofNat 32 (le b 20 4)))) ∧
      (∀ b, isStandby s.node → checkpointGood b = false → Completes (.checkpointReceived b) s (fun m => m.du.ckBad = s.node.du.ckBad + 1
        ∧ gf m R.DU_HEALTH F.DU_HEALTH_SYNC = 0 ∧ Counted s.node m (R.DU_CNT 2) ∧ m.dram = s.node.dram
        ∧ (8 ≤ s.node.du.ckBad + 1 → gf m R.DU_HEALTH F.DU_HEALTH_CKCRCERR = 1)))) ∧
    (cxAlive s.node →
      (∀ (c : Fin 2) failed, isStandby s.node → lineDieOk s.node c.val → s.node.du.bistBad < 4 →
        Completes (.linePathBist c failed) s (fun m => bitOf m.du.bistBad c.val = failed
          ∧ bitOf m.du.bistBad (1 - c.val) = bitOf s.node.du.bistBad (1 - c.val)
          ∧ gf m R.DU_HEALTH F.DU_HEALTH_BISTFAIL = b2n (bitOf m.du.bistBad 0 || bitOf m.du.bistBad 1))) ∧
      (∀ ce0 ce1 bad, pairRole s.node ≠ 0 → Completes (.dramScrub ce0 ce1 bad) s (fun m =>
        gf m (R.AC_DIEHEALTH 4) F.AC_DIEHEALTH_CECNT = min 255 (gf s.node (R.AC_DIEHEALTH 4) F.AC_DIEHEALTH_CECNT + ce0.toNat)
          ∧ gf m (R.AC_DIEHEALTH 5) F.AC_DIEHEALTH_CECNT = min 255 (gf s.node (R.AC_DIEHEALTH 5) F.AC_DIEHEALTH_CECNT + ce1.toNat)
          ∧ (bad = true → gf m R.DU_HEALTH F.DU_HEALTH_SCRUBERR = 1) ∧ m.dram = s.node.dram)) ∧
      (∀ i < 16, isStandby s.node → s.node.mil.selftest = none →
        (∀ j < i, (engineFree s.node ((s.node.du.nextEngine + j) % 16) && !executing (engine s.node ((s.node.du.nextEngine + j) % 16))) = false) →
        engineFree s.node ((s.node.du.nextEngine + i) % 16) → executing (engine s.node ((s.node.du.nextEngine + i) % 16)) = false →
        Completes .standbyMilnakSelftest s (fun m => m.du.nextEngine = ((s.node.du.nextEngine + i) % 16 + 1) % 16
          ∧ gf m R.DU_HEALTH F.DU_HEALTH_MKENG = (s.node.du.nextEngine + i) % 16))) ∧
    (∀ v t, t = moveTarget s.node (laneAddr (fget v F.DU_MOVEQ_CHAN) (fget v F.DU_MOVEQ_SLOT) (fget v F.DU_MOVEQ_LANE)) →
      Completes (.moveQuery v) s (fun m => gf m R.DU_MOVEQ F.DU_MOVEQ_VALID = b2n t.isSome
        ∧ gf m R.DU_MOVEQ F.DU_MOVEQ_SLOT = fget v F.DU_MOVEQ_SLOT
        ∧ ∀ x, t = some x → gf m R.DU_MOVEQ F.DU_MOVEQ_TSLOT = laneSlot x
          ∧ gf m R.DU_MOVEQ F.DU_MOVEQ_TLANE = laneNum x))

/-- The frame of the redundancy commands: block DU with what the node keeps of it, the pair's use of programs and power, and the
logs; a checkpoint's records go to DRAM and its switches to block LS, and a scrub counts in AC. -/
def Clause.RedundancyFrame : Prop :=
  ∀ (s t : State) (p : Fin 4) (q : Fin 5) (c : Fin 2) (b : List Byte) (x y : BitVec 8) (f : Bool) (v : BitVec 32) (cmd : Instr),
    exec cmd s = .next t →
    (cmd ∈ ([.neighbourSignalSend q, .neighbourSignalReceived p b, .revdlyExpiry, .handbackRequest, .handbackRequestRepeat,
        .arbRequestReceived, .declineReceived, .pairRetry, .linePathBist c f, .moveQuery v, .checkpointSend] : List Instr) →
      Frame [.out, .du, .line] (blocks [5]) s.node t.node ∧ t.pending = s.pending) ∧
    (cmd ∈ ([.dramScrub x y f] : List Instr) →
      Frame [.out] (fun a => a == R.AC_DIEHEALTH 4 || a == R.AC_DIEHEALTH 5 || a == R.DU_HEALTH) s.node t.node ∧ t.pending = s.pending) ∧
    (cmd ∈ ([.pairRecordReceived b, .grantReceived, .noArbiterTakeover, .pairFormTimeout, .handoverReceived,
        .standbyMilnakSelftest] : List Instr) →
      Frame (logParts ++ [.out, .du, .pw, .mil]) (blocks [5, 6, 8]) s.node t.node ∧ t.pending = s.pending) ∧
    (cmd ∈ ([.checkpointReceived b] : List Instr) →
      Frame (logParts ++ [.out, .du, .ls]) (blocks [5, 6, 8, 17]) s.node t.node ∧ t.pending = s.pending)

/-- The engine of an issued instruction executes a run, `cost` clocks keep it within BOUND, and no memory error is met. -/
def CanRun (s : State) (i : Issue) (cost : Nat) : Prop :=
  executing (engine s.node i.engine.val) = true ∧ i.memErr = false
    ∧ (engine s.node i.engine.val).clk + cost ≤ (runHdr s.node i.engine.val).bound

/-- The engine of an issued instruction with `cost` clocks more. -/
def spent (s : State) (i : Issue) (cost : Nat) : Engine :=
  { engine s.node i.engine.val with clk := (engine s.node i.engine.val).clk + cost }

/-- The instruction completes: its engine is then `y` at instruction `target`, loop bodies that end there settled, and
nothing else of the node has changed. -/
def Retires (c : Instr) (s : State) (i : Issue) (y : Engine) (target : Nat) : Prop :=
  Completes c s (fun m => m = setEngine (quiet s.node) i.engine.val (goTo y target))

/-- An integer limited to the range of a signed word. -/
def limited (x : Int) : BitVec 32 := BitVec.ofInt 32 (max (-(2 ^ 31)) (min (2 ^ 31 - 1) x))

/-- The scalar arithmetic of Table MK-6: the result goes to rd, one instruction on, at the cost of Table MK-11; g0 reads 0 and
discards what is written to it (R192, R198, R209). -/
def Clause.MilnakScalar : Prop :=
  (∀ (s : State) (i : Issue) (rd rs rt : GReg) (c : Instr) (cost : Nat) (f : BitVec 32 → BitVec 32 → BitVec 32),
    (c, cost, f) ∈ ([(.mkAdd i rd rs rt, 1, fun a b => a + b), (.mkSub i rd rs rt, 1, fun a b => a - b),
      (.mkAnd i rd rs rt, 1, fun a b => a &&& b), (.mkOr i rd rs rt, 1, fun a b => a ||| b), (.mkXor i rd rs rt, 1, fun a b => a ^^^ b),
      (.mkSll i rd rs rt, 1, fun a b => a <<< (b.toNat % 32)), (.mkSrl i rd rs rt, 1, fun a b => a >>> (b.toNat % 32)),
      (.mkSra i rd rs rt, 1, fun a b => a.sshiftRight (b.toNat % 32)),
      (.mkSlt i rd rs rt, 1, fun a b => if a.slt b then 1 else 0), (.mkSltu i rd rs rt, 1, fun a b => if a.ult b then 1 else 0),
      (.mkMul i rd rs rt, 2, fun a b => a * b),
      (.mkMulh i rd rs rt, 2, fun a b => ((a.signExtend 64 * b.signExtend 64) >>> 32).setWidth 32),
      (.mkMulhu i rd rs rt, 2, fun a b => ((a.setWidth 64 * b.setWidth 64) >>> 32).setWidth 32),
      (.mkAdds i rd rs rt, 1, fun a b => limited (a.toInt + b.toInt)), (.mkSubs i rd rs rt, 1, fun a b => limited (a.toInt - b.toInt)),
      (.mkMin i rd rs rt, 1, fun a b => if a.slt b then a else b), (.mkMax i rd rs rt, 1, fun a b => if a.slt b then b else a),
      (.mkMulq i rd rs rt, 2, fun a b => limited ((a.toInt * b.toInt + 2 ^ 23) / 2 ^ 24))]
      : List (Instr × Nat × (BitVec 32 → BitVec 32 → BitVec 32))) → CanRun s i cost →
    Retires c s i (setG (spent s i cost) rd.val (f (gReg (engine s.node i.engine.val) rs.val) (gReg (engine s.node i.engine.val) rt.val)))
      ((engine s.node i.engine.val).pc + 1)) ∧
  (∀ (s : State) (i : Issue) (rd rs : GReg) (imm : BitVec 16) (sh : Fin 32) (c : Instr) (f : BitVec 32 → BitVec 32),
    (c, f) ∈ ([(.mkSlli i rd rs sh, fun a => a <<< sh.val), (.mkSrli i rd rs sh, fun a => a >>> sh.val),
      (.mkSrai i rd rs sh, fun a => a.sshiftRight sh.val), (.mkAddi i rd rs imm, fun a => a + imm.signExtend 32),
      (.mkAndi i rd rs imm, fun a => a &&& imm.setWidth 32), (.mkOri i rd rs imm, fun a => a ||| imm.setWidth 32),
      (.mkXori i rd rs imm, fun a => a ^^^ imm.setWidth 32), (.mkSlti i rd rs imm, fun a => if a.slt (imm.signExtend 32) then 1 else 0),
      (.mkSltiu i rd rs imm, fun a => if a.ult (imm.setWidth 32) then 1 else 0), (.mkLui i rd imm, fun _ => imm.setWidth 32 <<< 16)]
      : List (Instr × (BitVec 32 → BitVec 32))) → CanRun s i 1 →
    Retires c s i (setG (spent s i 1) rd.val (f (gReg (engine s.node i.engine.val) rs.val))) ((engine s.node i.engine.val).pc + 1)) ∧
  (∀ (s : State) (i : Issue) (rd rs rt : GReg), CanRun s i 36 → ∀ a b, a = gReg (engine s.node i.engine.val) rs.val →
    b = gReg (engine s.node i.engine.val) rt.val →
    (b ≠ 0 → Retires (.mkDivu i rd rs rt) s i (setG (spent s i 36) rd.val (a / b)) ((engine s.node i.engine.val).pc + 1)
      ∧ Retires (.mkRemu i rd rs rt) s i (setG (spent s i 36) rd.val (a % b)) ((engine s.node i.engine.val).pc + 1)) ∧
    (b = 0 → ∀ c ∈ ([.mkDivu i rd rs rt, .mkRemu i rd rs rt] : List Instr),
      Retires c s i (setG { spent s i 36 with dz := true } rd.val 0) ((engine s.node i.engine.val).pc + 1))) ∧
  (∀ (s : State) (i : Issue) (rd rs : GReg) (k : Nat), CanRun s i 1 → k ≤ 32 →
    (∀ j < 32, 32 ≤ j + k → (gReg (engine s.node i.engine.val) rs.val).getLsbD j = false) →
    (k < 32 → (gReg (engine s.node i.engine.val) rs.val).getLsbD (31 - k) = true) →
    Retires (.mkClz i rd rs) s i (setG (spent s i 1) rd.val (BitVec.ofNat 32 k)) ((engine s.node i.engine.val).pc + 1)) ∧
  (∀ (x : Engine) (r q : Nat) (v : BitVec 32), gReg (setG x r v) q = if q = 0 then 0 else if q = r then v else gReg x q)

/-- Branches, jumps and loops: where the run goes on, the return address, the levels of LOOP, and the traps of Table MK-14 that they
take (R198, R200). -/
def Clause.MilnakControl : Prop :=
  ∀ (s : State) (i : Issue) (rd rs rt : GReg) (x : Engine), x = engine s.node i.engine.val →
    (∀ (off : BitVec 16) (c : Instr) (test : BitVec 32 → BitVec 32 → Bool), 0 ≤ off.toInt →
      (c, test) ∈ ([(.mkBeq i rs rt off, fun a b => a == b), (.mkBne i rs rt off, fun a b => a != b), (.mkBlt i rs rt off, BitVec.slt),
        (.mkBge i rs rt off, fun a b => !a.slt b), (.mkBltu i rs rt off, BitVec.ult), (.mkBgeu i rs rt off, fun a b => !a.ult b)]
        : List (Instr × (BitVec 32 → BitVec 32 → Bool))) →
      (test (gReg x rs.val) (gReg x rt.val) = true → CanRun s i 2 → Retires c s i (spent s i 2) (x.pc + 1 + off.toNat)) ∧
      (test (gReg x rs.val) (gReg x rt.val) = false → CanRun s i 1 → Retires c s i (spent s i 1) (x.pc + 1))) ∧
    (∀ (off : BitVec 16), off.toInt < 0 → executing x → ∀ c ∈ ([.mkBeq i rs rt off, .mkBne i rs rt off, .mkBlt i rs rt off,
      .mkBge i rs rt off, .mkBltu i rs rt off, .mkBgeu i rs rt off] : List Instr),
      Completes c s (fun m => m = trap (quiet s.node) i.engine.val 1 0)) ∧
    (CanRun s i 2 →
      (∀ imm : BitVec 16, 0 ≤ (x.pc : Int) + 1 + imm.toInt → (x.pc : Int) + 1 + imm.toInt < 16384 →
        Retires (.mkJal i rd imm) s i (setG (spent s i 2) rd.val (BitVec.ofNat 32 (4 * (x.pc + 1)))) ((x.pc : Int) + 1 + imm.toInt).toNat) ∧
      ((gReg x rs.val).toNat < 65536 → Retires (.mkJalr i rd rs) s i (setG (spent s i 2) rd.val (BitVec.ofNat 32 (4 * (x.pc + 1))))
        ((gReg x rs.val).toNat / 4)) ∧
      (∀ bound len, gReg x rs.val = 0 → Retires (.mkLoop i rs bound len) s i (spent s i 2) (x.pc + 1 + len)) ∧
      (∀ bound len, gReg x rs.val ≠ 0 → (gReg x rs.val).toNat ≤ bound → x.loops.length < 4 → Retires (.mkLoop i rs bound len) s i
        { spent s i 2 with loops := ⟨x.pc + 1, x.pc + 1 + len, (gReg x rs.val).toNat⟩ :: x.loops } (x.pc + 1)) ∧
      (∀ bound len, bound < (gReg x rs.val).toNat → Completes (.mkLoop i rs bound len) s (fun m => m = trap (quiet s.node) i.engine.val 5 0)) ∧
      (∀ bound len, gReg x rs.val ≠ 0 → (gReg x rs.val).toNat ≤ bound → 4 ≤ x.loops.length →
        Completes (.mkLoop i rs bound len) s (fun m => m = trap (quiet s.node) i.engine.val 0xA 0)))

/-- A loop body of one instruction runs as often as rc says: `left` times round, and then on behind the body with the loop
closed (R200). -/
def Obligations.LoopRepeats : Prop :=
  ∀ (x : Engine) (start stop left : Nat) (rest : List LoopFrame), x.loops = ⟨start, stop, left⟩ :: rest →
    (∀ k < left, (Nat.repeat (fun y => goTo y stop) k x).loops = ⟨start, stop, left - k⟩ :: rest
      ∧ (0 < k → (Nat.repeat (fun y => goTo y stop) k x).pc = start)) ∧
    (0 < left → (∀ f ∈ rest, stop < f.stop) → (Nat.repeat (fun y => goTo y stop) left x).loops = rest
      ∧ (Nat.repeat (fun y => goTo y stop) left x).pc = stop)

/-- Loads and stores in the engine's own data memory: the bytes, extended as the instruction says, at the address of rs plus the
offset; a store writes its bytes and no other; a misaligned or ungranted access traps (R193, R194, R198, R199). -/
def Clause.MilnakMemory : Prop :=
  ∀ (s : State) (i : Issue) (rd rs : GReg) (off : BitVec 16) (x : Engine) (a o : Nat), x = engine s.node i.engine.val →
    a = (gReg x rs.val + off.signExtend 32).toNat → isV i.engine.val = false →
    (∀ (c : Instr) (len : Nat) (ext : Nat → BitVec 32),
      (c, len, ext) ∈ ([(.mkLw i rd rs off, 4, fun v => BitVec.ofNat 32 v), (.mkLh i rd rs off, 2, fun v => (BitVec.ofNat 16 v).signExtend 32),
        (.mkLhu i rd rs off, 2, fun v => BitVec.ofNat 32 v), (.mkLb i rd rs off, 1, fun v => (BitVec.ofNat 8 v).signExtend 32),
        (.mkLbu i rd rs off, 1, fun v => BitVec.ofNat 32 v)] : List (Instr × Nat × (Nat → BitVec 32))) →
      (access s.node i.engine.val (runHdr s.node i.engine.val) a len len false = .ok (.cx, o) → CanRun s i 2 →
        Retires c s i (setG (spent s i 2) rd.val (ext (le (readBytes s.node.mil.cxram o len) 0 len))) (x.pc + 1)) ∧
      (a % len ≠ 0 → executing x → Completes c s (fun m => m = trap (quiet s.node) i.engine.val 2 a))) ∧
    (∀ (c : Instr) (len : Nat), (c, len) ∈ ([(.mkSw i rd rs off, 4), (.mkSh i rd rs off, 2), (.mkSb i rd rs off, 1)] : List (Instr × Nat)) →
      (access s.node i.engine.val (runHdr s.node i.engine.val) a len len true = .ok (.cx, o) → CanRun s i 1 →
        Completes c s (fun m => engine m i.engine.val = goTo (spent s i 1) (x.pc + 1)
          ∧ readBytes m.mil.cxram o len = leBytes len (gReg x rd.val).toNat
          ∧ (∀ b, b < o ∨ o + len ≤ b → look 0#8 m.mil.cxram b = look 0#8 s.node.mil.cxram b)
          ∧ m.mil.axram = s.node.mil.axram ∧ m.mil.progs = s.node.mil.progs ∧ Frame [.out, .mil] (fun _ => false) s.node m)) ∧
      (a % len ≠ 0 → executing x → Completes c s (fun m => m = trap (quiet s.node) i.engine.val 2 a)) ∧
      (access s.node i.engine.val (runHdr s.node i.engine.val) a len len true = .error 3 → executing x →
        Completes c s (fun m => m = trap (quiet s.node) i.engine.val 3 a)))

/-- The instruction completes and has changed only its engine. -/
def OnEngine (c : Instr) (s : State) (i : Issue) (P : Engine → Prop) : Prop :=
  Completes c s (fun m => ∃ y, m = setEngine (quiet s.node) i.engine.val y ∧ P y)

/-- Every field of an engine but its vector registers is that of another at the next instruction. -/
def NextButV (y x : Engine) : Prop := { y with v := [] } = goTo { x with v := [] } (x.pc + 1)

/-- Every field of an engine but its accumulators is that of another at the next instruction. -/
def NextButAcc (y x : Engine) : Prop := { y with acc := [] } = goTo { x with acc := [] } (x.pc + 1)

/-- The vector instructions lane by lane: a lane whose LM bit is 1 takes the result, every other lane and register stays
(R203, Table MK-10). -/
def Clause.MilnakVector : Prop :=
  ∀ (s : State) (i : Issue) (vd va vb : VReg) (x : Engine), x = engine s.node i.engine.val → isV i.engine.val = true →
    (CanRun s i 1 → ∀ (imm : Fin 32) (rs : GReg) (c : Instr) (f : BitVec 32 → BitVec 32 → BitVec 32),
      (c, f) ∈ ([(.mkVadd i vd va vb, fun a b => a + b), (.mkVsub i vd va vb, fun a b => a - b),
        (.mkVadds i vd va vb, fun a b => limited (a.toInt + b.toInt)), (.mkVsubs i vd va vb, fun a b => limited (a.toInt - b.toInt)),
        (.mkVmulq i vd va vb, fun a b => limited ((a.toInt * b.toInt + 2 ^ 23) / 2 ^ 24)),
        (.mkVmin i vd va vb, fun a b => if a.slt b then a else b), (.mkVmax i vd va vb, fun a b => if a.slt b then b else a),
        (.mkVabs i vd va, fun a _ => limited (max a.toInt (-a.toInt))), (.mkVand i vd va vb, fun a b => a &&& b),
        (.mkVor i vd va vb, fun a b => a ||| b), (.mkVxor i vd va vb, fun a b => a ^^^ b), (.mkVslli i vd va imm, fun a _ => a <<< imm.val),
        (.mkVsrai i vd va imm, fun a _ => a.sshiftRight imm.val), (.mkVbcast i vd rs, fun _ _ => gReg x rs.val)]
        : List (Instr × (BitVec 32 → BitVec 32 → BitVec 32))) →
      OnEngine c s i (fun y => NextButV y (spent s i 1) ∧ ∀ r < 16, ∀ k < 8, vLane y r k =
        if r = vd.val ∧ bitOf x.lm k = true then f (vLane x va.val k) (vLane x vb.val k) else vLane x r k)) ∧
    (CanRun s i 1 → ∀ (rd rs : GReg) (imm : Fin 32), imm.val < 8 →
      Retires (.mkVext i rd va imm) s i (setG (spent s i 1) rd.val (vLane x va.val imm.val)) (x.pc + 1) ∧
      OnEngine (.mkVins i vd rs imm) s i (fun y => NextButV y (spent s i 1) ∧ ∀ r < 16, ∀ k < 8, vLane y r k =
        if r = vd.val ∧ k = imm.val then gReg x rs.val else vLane x r k)) ∧
    (CanRun s i 3 → ∀ rd : GReg, Retires (.mkVsum i rd va) s i
      (setG (spent s i 3) rd.val (limited (((which 8 (bitOf x.lm)).map (fun k => (vLane x va.val k).toInt)).sum))) (x.pc + 1)) ∧
    (CanRun s i 1 →
      OnEngine (.mkVmac i va vb) s i (fun y => NextButAcc y (spent s i 1) ∧ ∀ r < 2, ∀ k < 8, (accLane y r k).toInt =
        if r = 0 ∧ bitOf x.lm k = true then max (-(2 ^ 63)) (min (2 ^ 63 - 1)
          ((accLane x 0 k).toInt + (vLane x va.val k).toInt * (vLane x vb.val k).toInt)) else (accLane x r k).toInt) ∧
      (va.val ≤ 14 → vb.val ≤ 14 → OnEngine (.mkVmac2 i va vb) s i (fun y => NextButAcc y (spent s i 1) ∧ ∀ r < 2, ∀ k < 8,
        (accLane y r k).toInt = if bitOf x.lm k = true then max (-(2 ^ 63)) (min (2 ^ 63 - 1)
          ((accLane x r k).toInt + (vLane x (va.val + r) k).toInt * (vLane x (vb.val + r) k).toInt)) else (accLane x r k).toInt)) ∧
      OnEngine (.mkVclra i) s i (fun y => NextButAcc y (spent s i 1) ∧ ∀ r < 2, ∀ k < 8,
        accLane y r k = if bitOf x.lm k = true then 0 else accLane x r k)) ∧
    (CanRun s i 2 → ∀ imm : Fin 32, OnEngine (.mkVrda i vd imm) s i (fun y => NextButV y (spent s i 2) ∧ ∀ r < 16, ∀ k < 8, vLane y r k =
      if r = vd.val ∧ bitOf x.lm k = true then limited (((accLane x 0 k).toInt + (accLane x 1 k).toInt
        + (if imm.val = 0 then 0 else 2 ^ (imm.val - 1))) / 2 ^ imm.val) else vLane x r k))

/-- Vector loads and stores in AX SRAM, and the lane instructions: the samples, state and cycle of a lane read, and a
contribution that waits for the end of a cycle program's run (R194, R203 to R206). -/
def Clause.MilnakLanes : Prop :=
  ∀ (s : State) (i : Issue) (vd : VReg) (rs : GReg) (x : Engine), x = engine s.node i.engine.val → isV i.engine.val = true →
    (∀ (off : BitVec 16) (a o : Nat), a = (gReg x rs.val + off.signExtend 32).toNat →
      (access s.node i.engine.val (runHdr s.node i.engine.val) a 32 4 false = .ok (.ax, o) → o < ioBase → CanRun s i 2 →
        OnEngine (.mkVld i vd rs off) s i (fun y => NextButV y (spent s i 2) ∧ ∀ r < 16, ∀ k < 8, vLane y r k =
          if r = vd.val ∧ bitOf x.lm k = true then BitVec.ofNat 32 (le (readBytes s.node.mil.axram o 32) (4 * k) 4) else vLane x r k)) ∧
      (access s.node i.engine.val (runHdr s.node i.engine.val) a 32 4 true = .ok (.ax, o) → o + 32 ≤ ioBase → CanRun s i 1 →
        Completes (.mkVst i vd rs off) s (fun m => engine m i.engine.val = goTo (spent s i 1) (x.pc + 1)
          ∧ (∀ k < 8, bitOf x.lm k = true → readBytes m.mil.axram (o + 4 * k) 4 = leBytes 4 (vLane x vd.val k).toNat)
          ∧ (∀ b, (∀ k < 8, bitOf x.lm k = true → b < o + 4 * k ∨ o + 4 * k + 4 ≤ b) → look 0#8 m.mil.axram b = look 0#8 s.node.mil.axram b)
          ∧ m.mil.cxram = s.node.mil.cxram ∧ m.mil.progs = s.node.mil.progs ∧ Frame [.out, .mil] (fun _ => false) s.node m))) ∧
    (CanRun s i 8 → laneInRange (lineMode s.node) (laneSlot (gReg x rs.val).toNat) (laneNum (gReg x rs.val).toNat) = true →
      (laneReceived s.node (laneOf s.node (gReg x rs.val)) = true → ∀ b, b = lrdBlock s.node x (laneOf s.node (gReg x rs.val)) →
        OnEngine (.mkLrd i vd rs) s i (fun y => NextButV y (spent s i 8) ∧ (∀ r < 16, r ≠ vd.val → ∀ k < 8, vLane y r k = vLane x r k)
          ∧ (∀ k < 6, vLane y vd.val k = b.samples.getD k 0#32) ∧ vLane y vd.val 6 = BitVec.ofNat 32 b.st.code
          ∧ vLane y vd.val 7 = BitVec.ofNat 32 b.cyc)) ∧
      (laneReceived s.node (laneOf s.node (gReg x rs.val)) = false → Completes (.mkLrd i vd rs) s (fun m => Counted s.node m (R.AU_CNT 8)
        ∧ (∀ k < 7, vLane (engine m i.engine.val) vd.val k = 0))) ∧
      ((runHdr s.node i.engine.val).kind = .cycle → Retires (.mkLout i vd rs) s i { spent s i 8 with
        louts := x.louts ++ [(laneOf s.node (gReg x rs.val), (List.range 6).map (vLane x vd.val))] } (x.pc + 1))) ∧
    (CanRun s i 8 → laneInRange (lineMode s.node) (laneSlot (gReg x rs.val).toNat) (laneNum (gReg x rs.val).toNat) = false →
      Completes (.mkLrd i vd rs) s (fun m => m = trap (quiet s.node) i.engine.val 9 (gReg x rs.val).toNat)) ∧
    (executing x → (runHdr s.node i.engine.val).kind ≠ .cycle → Completes (.mkLout i vd rs) s (fun m =>
      m = trap (quiet s.node) i.engine.val 1 0))

/-- The queue and system instructions: cells to and from the engine's data memory, queue fill, time, events, log records, CSRs,
FENCE, and the proposals of programs; in a shadow run they do nothing (R201, R202, R225). -/
def Clause.MilnakSystem : Prop :=
  ∀ (s : State) (i : Issue) (rd rs rt : GReg) (x : Engine) (h : Header) (q o cost : Nat), x = engine s.node i.engine.val →
    h = runHdr s.node i.engine.val → q = (gReg x rs.val).toNat % 2 ^ 20 → cost = (if isV i.engine.val then 300 else 240) →
    (CanRun s i cost → cellPlace s.node i.engine.val h (gReg x rt.val).toNat false = .ok o → queueGranted h q (fun g => g.write) = true →
      (inShadow x = true → Retires (.mkQpush i rd rs rt) s i (setG (spent s i cost) rd.val 0) (x.pc + 1)) ∧
      (inShadow x = false → ∀ n ok, pushCell (quiet s.node) q (ownRead s.node i.engine.val o 128) = (n, ok) →
        Completes (.mkQpush i rd rs rt) s (fun m => m = setEngine n i.engine.val
          (goTo (setG (spent s i cost) rd.val (if ok then 0 else 1)) (x.pc + 1))))) ∧
    (CanRun s i cost → cellPlace s.node i.engine.val h (gReg x rt.val).toNat true = .ok o → queueGranted h q (fun g => g.read) = true →
      (inShadow x = true → Retires (.mkQpop i rd rs rt) s i (setG (spent s i cost) rd.val 0) (x.pc + 1)) ∧
      (inShadow x = false → ∀ n, popCell (quiet s.node) q = (n, none) → Completes (.mkQpop i rd rs rt) s (fun m =>
        m = setEngine n i.engine.val (goTo (setG (spent s i cost) rd.val 0) (x.pc + 1)))) ∧
      (inShadow x = false → ∀ n cell cutShort, popCell (quiet s.node) q = (n, some (cell, cutShort)) → Completes (.mkQpop i rd rs rt) s (fun m =>
        m = setEngine (ownWrite n i.engine.val (spent s i cost) o cell).1 i.engine.val
          (goTo (setG (ownWrite n i.engine.val (spent s i cost) o cell).2 rd.val 1) (x.pc + 1))))) ∧
    (CanRun s i cost → queueGranted h q (fun g => g.read || g.write) = true →
      Retires (.mkQlen i rd rs) s i (setG (spent s i cost) rd.val (BitVec.ofNat 32 (desc s.node q).fill)) (x.pc + 1)) ∧
    (executing x → queueGranted h q (fun g => g.read || g.write) = false →
      Completes (.mkQlen i rd rs) s (fun m => m = trap (quiet s.node) i.engine.val 4 q)) ∧
    (CanRun s i 4 →
      (inShadow x = false → Retires (.mkRdt i rd 0) s i (setG (spent s i 4) rd.val (nowNs s.node)) (x.pc + 1)) ∧
      Retires (.mkRdt i rd 1) s i (setG (spent s i 4) rd.val (x.runCn.setWidth 32)) (x.pc + 1) ∧
      Retires (.mkRdt i rd 2) s i (setG (spent s i 4) rd.val ((x.runCn >>> 32).setWidth 32)) (x.pc + 1) ∧
      (∀ imm : BitVec 11, imm.toNat ≤ 255 → (inShadow x = true → Retires (.mkRaise i rs imm) s i (spent s i 4) (x.pc + 1)) ∧
        (inShadow x = false → Completes (.mkRaise i rs imm) s (fun m => m = setEngine (fireSource (quiet s.node) 0 imm.toNat (gReg x rs.val))
          i.engine.val (goTo (spent s i 4) (x.pc + 1))))) ∧
      (∀ p, (s.node.mil.proposals.take 64).find? (fun p => p.1 == (gReg x rs.val).toNat) = some p → Retires (.mkPrstat i rd rs) s i
        (setG (spent s i 4) rd.val (match p.2 with
          | .pending => 0 | .committed => 1 | .rejected r => BitVec.ofNat 32 (2 + 256 * (r % 256)) | .timeout => 3)) (x.pc + 1)) ∧
      ((s.node.mil.proposals.take 64).find? (fun p => p.1 == (gReg x rs.val).toNat) = none →
        Retires (.mkPrstat i rd rs) s i (setG (spent s i 4) rd.val 4) (x.pc + 1))) ∧
    (CanRun s i cost → ∀ imm : BitVec 11, (inShadow x = true → Retires (.mkLog i rs imm) s i (spent s i cost) (x.pc + 1)) ∧
      (inShadow x = false → Completes (.mkLog i rs imm) s (fun m => Counted s.node m (R.QM_CNT 6)
        ∧ engine m i.engine.val = goTo (spent s i cost) (x.pc + 1)
        ∧ m.qm.log.recent.head? = some { cn := s.node.tb.cn, code := BitVec.ofNat 16 (0x8000 + imm.toNat), ts := nowNs s.node
                                         cls := classOfLclass h.lclass, source := progSource x.prog
                                         node := gf s.node R.IN_EPOCH F.IN_EPOCH_NODE, lseq := s.node.qm.log.lseq + 1#16
                                         data := leBytes 4 0 ++ leBytes 4 (gReg x rs.val).toNat ++ leBytes 4 0 }))) ∧
    (CanRun s i 1 →
      (∀ (k : BitVec 11) (v : BitVec 32), (k.toNat, v) ∈ ([(0, if isV i.engine.val then BitVec.ofNat 32 x.lm else 0), (1, BitVec.ofNat 32 x.clk),
        (2, BitVec.ofNat 32 h.bound), (3, BitVec.ofNat 32 x.evCount), (4, x.evData), (5, BitVec.ofNat 32 x.prog),
        (6, BitVec.ofNat 32 (gf s.node (R.LC_PRES 0) F.LC_PRES_D)), (7, Sys2Proof.Machine.rd s.node R.IN_EPOCH), (8, BitVec.ofNat 32 x.trapsBefore),
        (9, if inShadow x then 1 else 0), (10, if x.dz then 1 else 0)] : List (Nat × BitVec 32)) →
        Retires (.mkCsrr i rd k) s i (setG (spent s i 1) rd.val v) (x.pc + 1)) ∧
      Retires (.mkCsrw i rs 0) s i (if isV i.engine.val then { spent s i 1 with lm := (gReg x rs.val).toNat % 256 } else spent s i 1) (x.pc + 1) ∧
      Retires (.mkCsrw i rs 0xA) s i (if (gReg x rs.val).getLsbD 0 then spent s i 1 else { spent s i 1 with dz := false }) (x.pc + 1) ∧
      (∀ k : BitVec 11, (10 < k.toNat → Completes (.mkCsrr i rd k) s (fun m => m = trap (quiet s.node) i.engine.val 1 0))
        ∧ (k ≠ 0 → k ≠ 0xA → Completes (.mkCsrw i rs k) s (fun m => m = trap (quiet s.node) i.engine.val 1 0))) ∧
      Completes (.mkBrk i) s (fun m => m = trap (quiet s.node) i.engine.val 8 0)) ∧
    (CanRun s i (if isV i.engine.val then 400 else 320) →
      Retires (.mkFence i) s i (spent s i (if isV i.engine.val then 400 else 320)) (x.pc + 1)) ∧
    (CanRun s i 40 → ∀ p n d, access s.node i.engine.val h (gReg x rs.val).toNat 40 4 false = .ok p → loadPlace (quiet s.node) p 40 = (n, d) →
      (inShadow x = true → Retires (.mkPropose i rd rs) s i (setG (spent s i 40) rd.val 0) (x.pc + 1)) ∧
      (inShadow x = false → mayPropose n = false → Completes (.mkPropose i rd rs) s (fun m =>
        m = keepId s.node (setEngine (count n (R.MK_CNT 9)) i.engine.val (goTo (setG (spent s i 40) rd.val 1) (x.pc + 1))))) ∧
      (inShadow x = false → mayPropose n = true → (n.inn.proposals.filter (fun p => p.origin == 1)).length < 16 → le d 1 1 = 1 ∨ le d 1 1 = 2 →
        le d 5 1 ≤ 32 → Completes (.mkPropose i rd rs) s (fun m => engine m i.engine.val
            = goTo (setG (spent s i 40) rd.val (BitVec.ofNat 32 (2 ^ 31 + (n.inn.pseq + 1) % 65536))) (x.pc + 1)
          ∧ m.inn.pseq = (n.inn.pseq + 1) % 65536 ∧ m.mil.proposals.head? = some ((n.inn.pseq + 1) % 65536, .pending)
          ∧ ∃ pr ∈ m.inn.proposals, pr.pseq = (n.inn.pseq + 1) % 65536 ∧ pr.origin = 1 ∧ pr.sect = le d 0 1 ∧ pr.op = le d 1 1
            ∧ pr.index = le d 2 2 ∧ pr.boff = le d 4 1 ∧ pr.data = cut d 8 (le d 5 1))))

/-- The end of a run: END resumes at ENTRY, WAITC behind itself; the context goes to the program's slot, the count of traps is
cleared and the engine is free; only a cycle program may wait (R201, R221, R222). -/
def Clause.MilnakRunEnds : Prop :=
  ∀ (s : State) (i : Issue) (x : Engine) (h : Header), x = engine s.node i.engine.val → h = runHdr s.node i.engine.val →
    x.st = .running → x.stores = [] → x.louts = [] → i.engine.val = x.prog / 16 → x.prog < 512 →
    CanRun s i (if isV i.engine.val then 40 else 16) →
    (∀ (c : Instr) (resume : Nat), (c, resume) ∈ ([(.mkEnd i, h.entry), (.mkWaitc i, x.pc + 1)] : List (Instr × Nat)) →
      (c = .mkWaitc i → h.kind = .cycle) → Completes c s (fun m => executing (engine m i.engine.val) = false
        ∧ (engine m i.engine.val).st = restState s.node i.engine.val ∧ (engine m i.engine.val).clk = 0
        ∧ (engine m i.engine.val).cycleClk = x.cycleClk + x.clk + (if isV i.engine.val then 40 else 16)
        ∧ gf m (R.MK_ENGHWM i.engine.val) F.MK_ENGHWM_BUSY = max (gf s.node (R.MK_ENGHWM i.engine.val) F.MK_ENGHWM_BUSY)
            (min (x.cycleClk + x.clk + (if isV i.engine.val then 40 else 16)) 0xFFFFFF)
        ∧ prog m x.prog = { prog s.node x.prog with traps := 0, hasContext := true } ∧ Counted s.node m (R.MK_CNT 0)
        ∧ readBytes (contextMem m i.engine.val) (contextBase i.engine.val (x.prog % 16)) (contextBytes i.engine.val x resume).length
            = contextBytes i.engine.val x resume)) ∧
    (h.kind ≠ .cycle → Completes (.mkWaitc i) s (fun m => m = trap (quiet s.node) i.engine.val 1 0))

/-- What END and WAITC save, a run of the same program restores: every register, the dz flag, LM and the resume point
(R222; the arrangement of the slot is the model's, log entry 5). -/
def Obligations.ContextComesBack : Prop :=
  ∀ (n : Node) (e j : Nat) (x y z : Engine) (resume : Nat), e < 32 → j < 16 → resume < 2 ^ 32 → x.lm < 256 →
    z = restoreContext (saveContext n e j x resume) e j y →
    (∀ r < 32, gReg z r = gReg x r) ∧ z.pc = resume ∧ z.dz = x.dz
    ∧ (isV e = true → z.lm = x.lm ∧ (∀ r < 16, ∀ k < 8, vLane z r k = vLane x r k) ∧ ∀ r < 2, ∀ k < 8, accLane z r k = accLane x r k)
    ∧ (∀ a, a < contextBase e j ∨ contextBase e j + (if isV e then 1024 else 256) ≤ a →
        look 0#8 (contextMem (saveContext n e j x resume) e) a = look 0#8 (contextMem n e) a)

/-- A trap: the run stops, what it buffered is dropped and its memory stands; the first trap is captured, counted and recorded,
and at TRAPLIM traps in a row the program is in FAULT (R219 to R221). -/
def Obligations.MilnakTraps : Prop :=
  ∀ (n m : Node) (e cause addr : Nat) (x : Engine) (p : Prog), x = engine n e → p = prog n x.prog → x.st ≠ .selftest → cause < 16 →
    x.prog < 512 → m = trap n e cause addr →
    executing (engine m e) = false ∧ (engine m e).stores = [] ∧ (engine m e).louts = [] ∧ (engine m e).pc = x.pc
    ∧ m.mil.cxram = n.mil.cxram ∧ m.mil.axram = n.mil.axram
    ∧ Counted n m (R.MK_CNT 1) ∧ (if cause = 6 then Counted n m (R.MK_CNT 2) else rd m (R.MK_CNT 2) = rd n (R.MK_CNT 2))
    ∧ Counted n m (R.QM_CNT 6) ∧ gf m R.MK_EVT F.MK_EVT_TRAP = 1
    ∧ (gf n R.MK_TRAP_INFO F.MK_TRAP_INFO_VALID = 0 → gf m R.MK_TRAP_INFO F.MK_TRAP_INFO_VALID = 1
      ∧ gf m R.MK_TRAP_INFO F.MK_TRAP_INFO_CAUSE = cause ∧ gf m R.MK_TRAP_INFO F.MK_TRAP_INFO_PROG = x.prog
      ∧ rd m R.MK_TRAP_PC = BitVec.ofNat 32 (4 * x.pc % 65536) ∧ rd m R.MK_TRAP_CN = x.runCn.setWidth 32)
    ∧ (gf n R.MK_TRAP_INFO F.MK_TRAP_INFO_VALID = 1 → ∀ a ∈ ([R.MK_TRAP_INFO, R.MK_TRAP_PC, R.MK_TRAP_ADDR, R.MK_TRAP_CN] : List Nat), rd m a = rd n a)
    ∧ (prog m x.prog).traps = min (p.traps + 1) 255 ∧ (prog m x.prog).hasContext = false
    ∧ ((prog m x.prog).fault = true ↔ p.fault = true ∨ (if p.hdr.traplim = 0 then 8 else p.hdr.traplim) ≤ min (p.traps + 1) 255)

/-- Starting runs, firing events, restarts, self-tests, and the traps that no instruction's own operation causes (R192, R197, R209,
R211, R215 to R217, R221, R222, R225, R227). -/
def Clause.MilnakRuns : Prop :=
  ∀ s : State,
    (∀ (k : Fin 512) (p : Prog) (x : Engine), p = prog s.node k.val → x = engine s.node (k.val / 16) → p.hdr.kind = .cycle → p.enable = true →
      p.fault = false → p.ranThisCycle = false → x.st = .idle → firstOfPhase s.node k.val = true → pausedNow s.node = false →
      (s.node.mil.shadowCn = none → Completes (.cycleProgramStart k) s (fun m => (engine m (k.val / 16)).st = .running
        ∧ (engine m (k.val / 16)).prog = k.val ∧ (engine m (k.val / 16)).clk = contextClocks (k.val / 16)
        ∧ (engine m (k.val / 16)).runCn = s.node.tb.cn ∧ prog m k.val = { p with ranThisCycle := true, waited := false }
        ∧ (p.hasContext = false → (engine m (k.val / 16)).pc = p.hdr.entry ∧ (engine m (k.val / 16)).g = [] ∧ (engine m (k.val / 16)).v = []
          ∧ (engine m (k.val / 16)).acc = [] ∧ (engine m (k.val / 16)).lm = 0x3F ∧ (engine m (k.val / 16)).dz = false))) ∧
      (∀ c, s.node.mil.shadowCn = some c → Completes (.cycleProgramStart k) s (fun m => (engine m (k.val / 16)).st = .shadow
        ∧ (engine m (k.val / 16)).runCn = c ∧ Counted s.node m (R.MK_CNT 8)))) ∧
    (∀ (e : Fin 32) (k : Nat), (engine s.node e.val).st = .idle → pausedNow s.node = false →
      (pendingEvents s.node e.val).find? (fitsGap s.node e.val) = some k →
      Completes (.eventProgramStart e) s (fun m => (engine m e.val).st = .running ∧ (engine m e.val).prog = k
        ∧ (engine m e.val).evRun = true ∧ (engine m e.val).evCount = (prog s.node k).pendCount
        ∧ (engine m e.val).evData = (prog s.node k).firstData ∧ (prog m k).pendCount = 0)) ∧
    (∀ e : Fin 32, executing (engine s.node e.val) = true → Completes (.mkOverrun e) s (fun m =>
      m = trap (setEngine (quiet s.node) e.val { engine s.node e.val with
        clk := max (engine s.node e.val).clk (runHdr s.node e.val).bound }) e.val 6 0)) ∧
    (∀ (i : Issue) w, executing (engine s.node i.engine.val) = true → mkDefined (isV i.engine.val) w = false →
      Completes (.mkIllegal i w) s (fun m => m = trap (quiet s.node) i.engine.val 1 0)) ∧
    (∀ k : Fin 512, Completes (.programRestart k) s (fun m => m = setProg (quiet s.node) k.val { prog s.node k.val with restart := true })) ∧
    (∀ (num : Fin 256) k p, firedBy s.node 0 num.val = [k] → p = prog s.node k → p.hdr.kind = .event →
      (p.enable = true → p.fault = false → Completes (.eventPost num) s (fun m => prog m k = { p with
        pendCount := min (p.pendCount + 1) 65535, firstData := if p.pendCount = 0 then rd s.node R.MK_EVTDATA else p.firstData }
        ∧ (p.pendCount ≠ 0 → Counted s.node m (R.MK_CNT 3)))) ∧
      (p.enable = false ∨ p.fault = true → Completes (.eventPost num) s (fun m => prog m k = p ∧ Counted s.node m (R.MK_CNT 4)
        ∧ gf m R.MK_EVT F.MK_EVT_EVDROP = 1))) ∧
    (∀ e : Fin 32, (engine s.node e.val).st ≠ .idle ∨ engineFree s.node e.val = false → Completes (.selftestRequest e) s (fun m =>
      gf m R.MK_STSTAT F.MK_STSTAT_RESULT = 3 ∧ gf m R.MK_STSTAT F.MK_STSTAT_ENG = e.val ∧ m.mil.engines = s.node.mil.engines)) ∧
    (∀ (e : Fin 32) k, (engine s.node e.val).st = .idle → engineFree s.node e.val = true → selftestProg s.node e.val = some k →
      Completes (.selftestRequest e) s (fun m => (engine m e.val).st = .selftest ∧ (engine m e.val).prog = k
        ∧ m.mil.selftest = some e.val ∧ gf m R.MK_STCTL F.MK_STCTL_GO = 1))

/-- A vector instruction on a C-engine traps with ILLEGAL (R203). -/
def Clause.VectorNeedsVEngine : Prop :=
  ∀ (s : State) (i : Issue) (vd va vb : VReg) (rd rs : GReg) (imm : Fin 32) (off : BitVec 16),
    executing (engine s.node i.engine.val) = true → isV i.engine.val = false →
    ∀ c ∈ ([.mkVadd i vd va vb, .mkVsub i vd va vb, .mkVadds i vd va vb, .mkVsubs i vd va vb, .mkVmulq i vd va vb, .mkVmin i vd va vb,
      .mkVmax i vd va vb, .mkVabs i vd va, .mkVand i vd va vb, .mkVor i vd va vb, .mkVxor i vd va vb, .mkVslli i vd va imm,
      .mkVsrai i vd va imm, .mkVbcast i vd rs, .mkVext i rd va imm, .mkVins i vd rs imm, .mkVmac i va vb, .mkVmac2 i va vb, .mkVclra i,
      .mkVrda i vd imm, .mkVsum i rd va, .mkVld i vd rs off, .mkVst i vd rs off, .mkLrd i vd rs, .mkLout i vd rs] : List Instr),
    Completes c s (fun m => m = trap (quiet s.node) i.engine.val 1 0)

/-- The frame of the Milnak commands that reach neither the register window nor a proposal: engines, programs, SRAM, queues
and logs; a store may reach DRAM and the audio block's output units. -/
def Clause.MilnakFrame : Prop :=
  ∀ (s t : State) (i : Issue) (rd rs rt : GReg) (vd va vb : VReg) (imm : Fin 32) (off : BitVec 16) (k11 : BitVec 11) (w : BitVec 32)
    (bound len : Nat) (e : Fin 32) (k : Fin 512) (num : Fin 256) (c : Instr), exec c s = .next t →
    (c ∈ ([.cycleProgramStart k, .eventProgramStart e, .mkOverrun e, .programRestart k, .eventPost num, .selftestRequest e, .mkIllegal i w,
      .mkAdd i rd rs rt, .mkSub i rd rs rt, .mkAnd i rd rs rt, .mkOr i rd rs rt, .mkXor i rd rs rt, .mkSll i rd rs rt, .mkSrl i rd rs rt,
      .mkSra i rd rs rt, .mkSlt i rd rs rt, .mkSltu i rd rs rt, .mkMul i rd rs rt, .mkMulh i rd rs rt, .mkMulhu i rd rs rt, .mkAdds i rd rs rt,
      .mkSubs i rd rs rt, .mkMin i rd rs rt, .mkMax i rd rs rt, .mkClz i rd rs, .mkDivu i rd rs rt, .mkRemu i rd rs rt, .mkSlli i rd rs imm,
      .mkSrli i rd rs imm, .mkSrai i rd rs imm, .mkMulq i rd rs rt, .mkAddi i rd rs off, .mkAndi i rd rs off, .mkOri i rd rs off,
      .mkXori i rd rs off, .mkSlti i rd rs off, .mkSltiu i rd rs off, .mkLui i rd off, .mkBeq i rs rt off, .mkBne i rs rt off,
      .mkBlt i rs rt off, .mkBge i rs rt off, .mkBltu i rs rt off, .mkBgeu i rs rt off, .mkJal i rd off, .mkJalr i rd rs,
      .mkLoop i rs bound len, .mkQpush i rd rs rt, .mkQpop i rd rs rt, .mkQlen i rd rs, .mkRdt i rd k11, .mkRaise i rs k11, .mkLog i rs k11,
      .mkPrstat i rd rs, .mkCsrr i rd k11, .mkCsrw i rs k11, .mkFence i, .mkBrk i, .mkVadd i vd va vb, .mkVsub i vd va vb, .mkVadds i vd va vb,
      .mkVsubs i vd va vb, .mkVmulq i vd va vb, .mkVmin i vd va vb, .mkVmax i vd va vb, .mkVabs i vd va, .mkVand i vd va vb,
      .mkVor i vd va vb, .mkVxor i vd va vb, .mkVslli i vd va imm, .mkVsrai i vd va imm, .mkVbcast i vd rs, .mkVext i rd va imm,
      .mkVins i vd rs imm, .mkVmac i va vb, .mkVmac2 i va vb, .mkVclra i, .mkVrda i vd imm, .mkVsum i rd va, .mkLout i vd rs] : List Instr) →
      Frame (logParts ++ [.out, .mil]) (blocks [5, 6, 8]) s.node t.node ∧ t.pending = s.pending) ∧
    (c ∈ ([.mkLrd i vd rs, .mkSw i rt rs off, .mkSh i rt rs off, .mkSb i rt rs off, .mkVst i vd rs off] : List Instr) →
      Frame (logParts ++ [.out, .mil, .au]) (blocks [5, 6, 7, 8]) s.node t.node ∧ t.pending = s.pending)

/-- A slewed gain component moves towards its target by at most its step and never past it; a gain of -120 dB has factor 0 (R245,
R246). -/
def Obligations.GainsSlew : Prop :=
  (∀ (step : Nat) (t c : Int), (t - slew step t c).natAbs = (t - c).natAbs - step
    ∧ (c ≤ t → slew step t c ≤ t) ∧ (t ≤ c → t ≤ slew step t c)) ∧
  (∀ g : Int, g ≤ -120 * dB → linGain g = 0)

/-- The audio pass and the frames of the output converters: one pass a cycle, which fills the outputs of presentation cycle c + 2
and gives every enabled zone six samples; TDM and analogue frames put out one sample of each channel and capture one of each
input (R230, R236, R239, R254 to R256). -/
def Obligations.AudioCommands : Prop :=
  ∀ s : State,
    (audioOn s.node → s.node.au.passDone = true → Completes .mixerPass s (fun m => m = quiet s.node)) ∧
    (audioOn s.node → s.node.au.passDone = false → Completes .mixerPass s (fun m => m.au.passDone = true
      ∧ m.au.outs.head?.map (·.1) = some (cnWrap (cnNow s.node + 2))
      ∧ (∀ z < 16, ff s.node (R.AU_ZONECFG z) F.AU_ZONECFG_EN = 1 → (look {} m.au.zoneOut z).st = .valid
        ∧ (look {} m.au.zoneOut z).cyc = cnNow s.node)
      ∧ (∀ z < 16, ff s.node (R.AU_ZONECFG z) F.AU_ZONECFG_EN = 0 → gf m (R.AU_ZONESTAT z) F.AU_ZONESTAT_TOPCLS = 7
        ∧ gf m (R.AU_ZONESTAT z) F.AU_ZONESTAT_NOISE = 0x80))) ∧
    (∀ (p : Fin 8) (k : Fin 6) ins cfg, audioOn s.node → cfg = inForce s.node (R.AU_TDMCFG p.val) →
      (fget cfg F.AU_TDMCFG_EN = 0 → Completes (.tdmFrameStart p k ins) s (fun m => m = quiet s.node)) ∧
      (fget cfg F.AU_TDMCFG_EN = 1 → Completes (.tdmFrameStart p k ins) s (fun m =>
        m.out = [.tdm p.val ((List.range (2 ^ min (fget cfg F.AU_TDMCFG_SLOTS) 4)).map (fun j =>
          (tdmWord cfg (outSample s.node (frameLate s.node p.val k.val) (16 * p.val + j) k.val)).1))]
        ∧ (∀ j < 2 ^ min (fget cfg F.AU_TDMCFG_SLOTS) 4,
          (frameLate s.node p.val k.val = false → look [] m.au.capture (16 * p.val + j)
            = look [] s.node.au.capture (16 * p.val + j) ++ [tdmInput cfg (ins.getD j 0#32)])
          ∧ (frameLate s.node p.val k.val → m.au.capture = s.node.au.capture ∧ look [] m.au.captureLast (16 * p.val + j)
            = look [] s.node.au.captureLast (16 * p.val + j) ++ [tdmInput cfg (ins.getD j 0#32)]))))) ∧
    (∀ (k : Fin 6) ins, isRun s.node → dieFailed s.node 7 = false →
      (audioOn s.node → frameLate s.node 8 k.val = false → Completes (.converterFrameStart false k ins) s (fun m => m.out = []
        ∧ ∀ i < 8, look [] m.au.capture (128 + i) = look [] s.node.au.capture (128 + i)
          ++ (if ff s.node (R.AU_ANACFG i) F.AU_ANACFG_EN = 0 then [] else [BitVec.ofInt 32 (signed 24 (ins.getD i 0#32).toNat)]))) ∧
      (audioOn s.node → frameLate s.node 8 k.val → Completes (.converterFrameStart false k ins) s (fun m => m.out = [] ∧ m.au.capture = s.node.au.capture
        ∧ ∀ i < 8, look [] m.au.captureLast (128 + i) = look [] s.node.au.captureLast (128 + i)
          ++ (if ff s.node (R.AU_ANACFG i) F.AU_ANACFG_EN = 0 then [] else [BitVec.ofInt 32 (signed 24 (ins.getD i 0#32).toNat)]))) ∧
      (audioOn s.node → Completes (.converterFrameStart true k ins) s (fun m => m.out.length = 8 ∧ m.au = s.node.au
        ∧ ∀ i < 8, ff s.node (R.AU_ANACFG (8 + i)) F.AU_ANACFG_EN = 0 → .analog i 0 ∈ m.out)) ∧
      (audioOn s.node = false → Completes (.converterFrameStart true k ins) s (fun m => m.out = (List.range 8).map (fun i => .analog i 0)))) ∧
    (audioOn s.node →
      (gf s.node R.AU_LIBSTAT F.AU_LIBSTAT_BUSY = 0 → Completes .libraryScan s (fun m => gf m R.AU_LIBSTAT F.AU_LIBSTAT_BUSY = 1
        ∧ m.au.scan = some (gf s.node R.AU_LIBBASE F.AU_LIBBASE_UNITS * 65536, min (gf s.node R.AU_LIBSIZE F.AU_LIBSIZE_UNITS) 16384 * 65536)
        ∧ m.au.lib = s.node.au.lib)) ∧
      (gf s.node R.AU_LIBSTAT F.AU_LIBSTAT_BUSY = 1 → Completes .libraryScan s (fun m => m = quiet s.node)) ∧
      (∀ base size, s.node.au.scan = some (base, size) → Completes .libraryScanComplete s (fun m => m.au.scan = none ∧ m.au.lib = s.node.au.lib
        ∧ ∃ items bad, m.au.scanned = some (items, bad) ∧ items.length + bad = min (leVal (dramRead s.node base 4)) 4096
          ∧ ∀ x ∈ items, ∃ i < 4096, x = libItem base (libEntry s.node base i) ∧ x.id ≠ 0 ∧ 1 ≤ x.nsamp ∧ x.addr + x.bytes ≤ base + size
            ∧ (crc32c (dramRead s.node x.addr x.bytes)).toNat = le (libEntry s.node base i) 16 4)) ∧
      (∀ j : Fin 16, Completes (.playerGo j) s (fun m => (player m j.val).go = true ∧ gf m (R.AU_PLAYCTL j.val) F.AU_PLAYCTL_GO = 1
        ∧ gf m (R.AU_PLAYCTL j.val) F.AU_PLAYCTL_AUTO = gf s.node (R.AU_PLAYCTL j.val) F.AU_PLAYCTL_AUTO
        ∧ ∀ i < 16, i ≠ j.val → player m i = player s.node i)) ∧
      (∀ j : Fin 16, (player s.node j.val).st = .playing ∨ (player s.node j.val).st = .waiting → Completes (.playerStop j) s (fun m =>
        player m j.val = { player s.node j.val with stopping := true } ∧ ∀ i < 16, i ≠ j.val → player m i = player s.node i)))

/-- The frame of the audio commands: block AU with what the node keeps of it; the pass also contributes lanes, counts refused
ones in LC, and may record events. -/
def Clause.AudioFrame : Prop :=
  ∀ (s t : State) (p : Fin 8) (k : Fin 6) (ins : List (BitVec 32)) (b : Bool) (j : Fin 16) (cmd : Instr), exec cmd s = .next t →
    (cmd ∈ ([.tdmFrameStart p k ins, .converterFrameStart b k ins, .libraryScan, .libraryScanComplete, .playerGo j, .playerStop j] : List Instr) →
      Frame [.out, .au] (blocks [7]) s.node t.node ∧ t.pending = s.pending) ∧
    (cmd = .mixerPass → Frame (logParts ++ [.out, .au, .line, .mil]) (blocks [3, 6, 7, 8]) s.node t.node ∧ t.pending = s.pending)

/-- A journal record that is written is the valid one afterwards, with the next serial number, and the record valid before it stays
where it is until then: an interrupted change leaves the old state (R280, R281). -/
def Obligations.JournalKeepsOld : Prop :=
  ∀ (n m : Node) (j old : Journal), m = (writeJournal n j false).1 → old = journal n → (n.cf.j0.isSome ∨ n.cf.j1.isSome) →
    journal m = { j with jseq := old.jseq + 1#32 } ∧ (m.cf.j0 = some old ∨ m.cf.j1 = some old)
    ∧ (∀ b, (writeJournal n j true).2 = false ∧ journal (writeJournal n b true).1 = old)
    ∧ rd m R.CF_JSEQ = old.jseq + 1#32 ∧ m.cf.slot0 = n.cf.slot0 ∧ m.cf.slot1 = n.cf.slot1

/-- The caddy's commands: what STAGE, its end, COMMIT, ROLLBACK, ABORT and VERIFY write in the journal and show, each with its
RESULT; every one is refused outside the sessions allowed (R286 to R291). -/
def Clause.BlendCommands : Prop :=
  ∀ (s : State) (j : Journal), lineOn s.node → s.node.pw.failing = none → j = journal s.node →
    (∀ (role : Fin 5) (live bad : Bool), role.val = 2 ∨ role.val = 3 → nvFailed s.node = false → cfBusy s.node = false →
      (cfPending s.node = false → (keyOf s.node 8).isSome → Completes (.blendStage role false) s (fun m => cfBusy m = true
        ∧ (journal m).slot j.prev = .staging ∧ (journal m).cur = j.cur ∧ gf m R.CF_STAT F.CF_STAT_BUSY = 1 ∧ Counted s.node m (R.CF_CNT 0)
        ∧ slotBytes m j.prev = dramRead s.node (rd s.node R.CF_SRCOFF).toNat (min (rd s.node R.CF_SRCLEN).toNat 12582912)
        ∧ slotBytes m j.cur = slotBytes s.node j.cur)) ∧
      (cfPending s.node = false → keyOf s.node 8 = none → Completes (.blendStage role bad) s (fun m =>
        gf m R.CF_CMD F.CF_CMD_RESULT = 4 ∧ m.cf = s.node.cf)) ∧
      (cfPending s.node = false → j.slot j.prev = .staged → Completes (.blendCommit role live false) s (fun m =>
        (journal m).cur = j.prev ∧ (journal m).slot j.prev = .valid ∧ (journal m).slot j.cur = j.slot j.cur
          ∧ gf m R.CF_CMD F.CF_CMD_RESULT = 0 ∧ gf m R.CF_EVT F.CF_EVT_COMMIT = 1 ∧ Counted s.node m (R.CF_CNT 2)
          ∧ (cfPending m = true ↔ live = true ∧ gf s.node R.CF_STAT F.CF_STAT_NOBLEND = 0)
          ∧ (∀ a, m.cf.actAt = some a → 0 ≤ cnDiff a (cnWrap (cnNow s.node + 64))))) ∧
      (cfPending s.node = false → j.slot j.prev ≠ .staged → ∀ c ∈ ([.blendCommit role live bad, .blendAbort role bad] : List Instr),
        Completes c s (fun m => gf m R.CF_CMD F.CF_CMD_RESULT = 4 ∧ m.cf = s.node.cf)) ∧
      (cfPending s.node = false → j.slot j.prev = .staged → Completes (.blendAbort role false) s (fun m =>
        (journal m).slot j.prev = .empty ∧ (journal m).cur = j.cur ∧ gf m R.CF_CMD F.CF_CMD_RESULT = 0)) ∧
      (j.slot j.prev = .valid → Completes (.blendRollback role live false) s (fun m => (journal m).cur = j.prev
        ∧ gf m R.CF_CMD F.CF_CMD_RESULT = 0 ∧ gf m R.CF_EVT F.CF_EVT_ROLLBACK = 1 ∧ Counted s.node m (R.CF_CNT 3)
        ∧ (cfPending s.node = true → cfPending m = false ∧ gf m R.CF_STAT F.CF_STAT_ACTPEND = 0))) ∧
      Completes (.blendVerify role) s (fun m => m.cf = s.node.cf ∧ (gf m R.CF_CMD F.CF_CMD_RESULT = 0 ∨ gf m R.CF_CMD F.CF_CMD_RESULT = 3)
        ∧ (j.slot j.cur ≠ .valid → j.slot j.cur ≠ .staged → j.slot j.prev ≠ .valid → j.slot j.prev ≠ .staged →
          gf m R.CF_CMD F.CF_CMD_RESULT = 0)) ∧
      (∀ op : Fin 8, op.val = 0 ∨ 6 ≤ op.val → Completes (.cfReservedOp role op) s (fun m => gf m R.CF_CMD F.CF_CMD_RESULT = 4 ∧ m.cf = s.node.cf))) ∧
    (∀ staged differs f, s.node.cf.staging = some staged → f = blendFail s.node (slotBytes s.node j.prev) staged →
      Completes (.stageComplete false differs) s (fun m => cfBusy m = false ∧ gf m R.CF_STAT F.CF_STAT_BUSY = 0
        ∧ (journal m).slot j.prev = (if f.isNone ∧ differs = false then .staged else .invalid) ∧ (journal m).cur = j.cur
        ∧ gf m R.CF_CMD F.CF_CMD_RESULT = (if f.isNone ∧ differs = false then 0 else 3)
        ∧ (¬ (f.isNone ∧ differs = false) → Counted s.node m (R.CF_CNT 1) ∧ gf m R.CF_EVT F.CF_EVT_STAGEFAIL = 1))) ∧
    (∀ (role : Fin 5) (live bad : Bool), role.val = 1 ∨ role.val = 4 → ∀ c ∈ ([.blendStage role bad, .blendCommit role live bad,
        .blendRollback role live bad, .blendAbort role bad, .blendVerify role, .cfReservedOp role 7] : List Instr),
      Completes c s (fun m => m.cf = s.node.cf ∧ gf m R.CF_CMD F.CF_CMD_RESULT = 2)) ∧
    (∀ (live bad : Bool), ∀ c ∈ ([.blendStage 0 bad, .blendCommit 0 live bad, .blendRollback 0 live bad, .blendAbort 0 bad, .blendVerify 0,
        .cfReservedOp 0 0, .safetyBlockSetpend 0] : List Instr),
      Completes c s (fun m => m.cf = s.node.cf ∧ gf m R.HB_EVT F.HB_EVT_PROTWR = 1 ∧ Counted s.node m (R.HB_CNT 12)))

/-- A safety parameter block: SETPEND under the safety role makes it pending with its check for 600 s; the end of that time
discards it (R300, R301). -/
def Clause.SafetyBlocks : Prop :=
  ∀ s : State, lineOn s.node → s.node.pw.failing = none →
    (∀ bs, bs = (List.range 15).flatMap (fun k => leBytes 4 (rd s.node (R.CF_SPDATA k)).toNat) →
      Completes (.safetyBlockSetpend 4) s (fun m => m.cf.sp = some ⟨bs, crc32c bs, 600, 0⟩ ∧ rd m R.CF_SPCHK = crc32c bs
        ∧ gf m R.CF_SPSTAT F.CF_SPSTAT_STATE = 1 ∧ gf m R.CF_EVT F.CF_EVT_SPPEND = 1 ∧ m.out.length = 1 ∧ journal m = journal s.node)) ∧
    (∀ role : Fin 5, role.val ≠ 0 → role.val ≠ 4 → Completes (.safetyBlockSetpend role) s (fun m => m.cf = s.node.cf)) ∧
    (∀ x, s.node.cf.sp = some x → x.left = 0 → Completes .safetyBlockExpiry s (fun m => m.cf.sp = none ∧ Counted s.node m (R.CF_CNT 7)
      ∧ gf m R.CF_SPSTAT F.CF_SPSTAT_STATE = 0 ∧ rd m R.CF_SPCHK = 0 ∧ m.cf.spa = s.node.cf.spa ∧ m.cf.spb = s.node.cf.spb
      ∧ m.qm.log.waiting.getLast?.bind (·.evtReg) = some (R.CF_EVT, F.CF_EVT_SPREJ.lo)))

/-- The frame of the caddy commands: block CF and what the node keeps of the caddy, a refused write counted in HB, outputs and the
logs. -/
def Clause.CaddyFrame : Prop :=
  ∀ (s t : State) (role : Fin 5) (op : Fin 8) (live bad differs : Bool) (cmd : Instr),
    cmd ∈ ([.blendStage role bad, .stageComplete bad differs, .blendCommit role live bad, .blendRollback role live bad, .blendAbort role bad,
      .blendVerify role, .cfReservedOp role op, .safetyBlockSetpend role, .safetyBlockExpiry] : List Instr) → exec cmd s = .next t →
    Frame (logParts ++ [.out, .cf]) (blocks [6, 8, 9, 10]) s.node t.node ∧ t.pending = s.pending

/-- The branch shows a state of Table ST-6. -/
def ShowsBranch (m : Node) (b : Nat) (st : BranchState) : Prop :=
  (branch m b).st = st ∧ gf m (R.ST_BRSTAT b) F.ST_BRSTAT_STATE = st.code

/-- A branch is ready to take a STATUS: the frame starts in its window, is of TYPE STATUS, and is stamped. -/
def statusArrives (n : Node) (b : Nat) (f : List Byte) (ingress e : BitVec 32) : Prop :=
  starOn n = true ∧ (branch n b).egress = some e ∧ statusInWindow n (branch n b) ((ingress - e).toInt - 2000) = true ∧ be f 4 1 = 2

/-- The states of a branch: link training and loss, LOSTN, the end of DISC, ADMIT and RECONNECT, and violations, the third of
64 cycles disconnecting at the boundary (R349, R350, R351, R356). -/
def Clause.StarBranches : Prop :=
  ∀ (s : State) (b : Fin 16) (x : Branch), x = branch s.node b.val →
    (starPowered s.node → x.st = .train → Completes (.branchLinkTrained b) s (fun m => ShowsBranch m b.val .sync
      ∧ (branch m b.val).trainedAt = s.node.up ∧ gf m R.ST_EVT F.ST_EVT_UP = 1 ∧ gf m R.ST_EVTBR ⟨b.val, 1⟩ = 1)) ∧
    (starPowered s.node → x.st = .sync ∨ x.st = .held ∨ x.st = .active → Completes (.branchLinkLoss b) s (fun m => ShowsBranch m b.val .train
      ∧ (branch m b.val).lostAt = some s.node.up ∧ rd64 m (R.ST_BREUID_LO b.val) (R.ST_BREUID_HI b.val)
        = rd64 s.node (R.ST_BREUID_LO b.val) (R.ST_BREUID_HI b.val)
      ∧ gf m (R.ST_BRSTAT b.val) F.ST_BRSTAT_LOOPDLY = 0xFFFF ∧ gf m R.ST_EVT F.ST_EVT_DOWN = 1)) ∧
    (starOn s.node → x.st = .active → lostN s.node ≤ x.miss → Completes (.statusLost b) s (fun m => ShowsBranch m b.val .sync
      ∧ gf m R.ST_EVT F.ST_EVT_LOST = 1)) ∧
    (starPowered s.node → x.st = .disc → ∀ c ∈ ([.disconnectExpiry b, .branchReconnect b] : List Instr),
      Completes c s (fun m => ShowsBranch m b.val .train)) ∧
    (starPowered s.node → x.st = .held → Completes (.branchAdmit b) s (fun m => ShowsBranch m b.val .active ∧ gf m R.ST_EVT F.ST_EVT_ACTIVE = 1)) ∧
    (starPowered s.node → x.st ≠ .held → Completes (.branchAdmit b) s (fun m => m = quiet s.node)) ∧
    (starOn s.node → checked x → Completes (.starViolation b) s (fun m => (branch m b.val).viols = 0 :: x.viols
      ∧ Counted s.node m (R.ST_BRCNT b.val 2) ∧ gf m R.ST_EVT F.ST_EVT_VIOL = 1 ∧ (branch m b.val).st = x.st
      ∧ gf m (R.ST_BRSTAT b.val) F.ST_BRSTAT_VCNT = min (x.viols.length + 1) 7)) ∧
    (starPowered s.node → ff s.node (R.ST_BRCFG b.val) F.ST_BRCFG_EN = 1 → x.st ≠ .off → x.st ≠ .disc →
      3 ≤ (x.viols.filter (fun a => decide (a < 64))).length →
      ShowsBranch (branchBoundary s.node b.val) b.val .disc ∧ .pin "ST_LINKDROP" b.val true ∈ (branchBoundary s.node b.val).out)

/-- The frames of the star: SYNC as Table ST-3 lays it out; a STATUS in its window, checked, measured and, out of SYNC, admitted by
the rule of R350; the slot frames of both directions (R347, R348, R350, R352, R354, R355). -/
def Clause.StarSlots : Prop :=
  ∀ (s : State) (b : Fin 16) (x : Branch), x = branch s.node b.val →
    (∀ e, starOn s.node → x.st = .sync ∨ x.st = .held ∨ x.st = .active → Completes (.syncSend b e) s (fun m =>
      m.out = [.star b.val (syncFrame s.node b.val)] ∧ (branch m b.val).egress = some e)) ∧
    (starCrcOk (syncFrame s.node b.val) = true ∧ (syncFrame s.node b.val).length = 28 ∧ be (syncFrame s.node b.val) 6 6 = cnNow s.node
      ∧ be (syncFrame s.node b.val) 15 1 = b.val ∧ (x.st ≠ .active → be (syncFrame s.node b.val) 18 2 = 0)) ∧
    (∀ f ingress e, statusArrives s.node b.val f ingress e → x.st = .sync ∨ x.st = .held ∨ x.st = .active →
      (starCrcOk f = false → Completes (.statusReceived b f ingress) s (fun m => Counted s.node m (R.ST_BRCNT b.val 1) ∧ m.st = s.node.st)) ∧
      (starCrcOk f → be f 16 2 = cnNow s.node % 65536 →
        (Completes (.statusReceived b f ingress) s (fun m => Counted s.node m (R.ST_BRCNT b.val 0) ∧ (branch m b.val).statusOk = true
          ∧ (branch m b.val).loops = (((ingress - e).toInt - 2000) :: x.loops).take 8
          ∧ rd64 m (R.ST_BREUID_LO b.val) (R.ST_BREUID_HI b.val) = be f 6 8
          ∧ gf m (R.ST_BRSTAT b.val) F.ST_BRSTAT_EKIND = be f 14 1
          ∧ (x.st ≠ .sync → (branch m b.val).st = x.st))) ∧
        (∀ named, named = ff64 s.node (R.ST_BRID_LO b.val) (R.ST_BRID_HI b.val) → x.st = .sync → x.seen = false →
          (named ≠ 0 → named = be f 6 8 → Completes (.statusReceived b f ingress) s (fun m => ShowsBranch m b.val .active)) ∧
          (named ≠ 0 → named ≠ be f 6 8 → Completes (.statusReceived b f ingress) s (fun m => ShowsBranch m b.val .held
            ∧ gf m R.ST_EVT F.ST_EVT_MISMATCH = 1)) ∧
          (named = 0 → ff s.node (R.ST_BRCFG b.val) F.ST_BRCFG_AUTO = 1 → Completes (.statusReceived b f ingress) s (fun m =>
            ShowsBranch m b.val .active)) ∧
          (named = 0 → ff s.node (R.ST_BRCFG b.val) F.ST_BRCFG_AUTO ≠ 1 → Completes (.statusReceived b f ingress) s (fun m =>
            ShowsBranch m b.val .held ∧ gf m R.ST_EVT F.ST_EVT_NEWEP = 1))) ∧
        (∀ t, x.st = .sync → x.seen = true → x.lostAt = some t → x.trainedAt - t < starHoldoff s.node →
          rd64 s.node (R.ST_BREUID_LO b.val) (R.ST_BREUID_HI b.val) = be f 6 8 → Completes (.statusReceived b f ingress) s (fun m =>
            ShowsBranch m b.val .active ∧ gf m R.ST_EVT F.ST_EVT_REJOIN = 1)))) ∧
    (∀ slot : Fin 8, starOn s.node → x.st = .active →
      (dlKind s.node b.val slot.val = 1 → Completes (.downlinkSlotSend b slot) s (fun m => m.st = s.node.st ∧ ∃ amap payload,
        m.out = [.star b.val (slotFrame s.node 3 slot.val 0 (dlLag s.node b.val slot.val) amap payload)]
        ∧ ((∀ k < 6, auMap s.node b.val 0 slot.val k = none) → amap = 0 ∧ payload = List.replicate 144 0#8))) ∧
      (dlKind s.node b.val slot.val = 2 → x.down = none → Completes (.downlinkSlotSend b slot) s (fun m =>
        m.out = [.star b.val (slotFrame s.node 5 slot.val 0 0 0 [])])) ∧
      (∀ bs off, dlKind s.node b.val slot.val = 2 → holdsToken s.node → x.down = some (bs, off) → Completes (.downlinkSlotSend b slot) s (fun m =>
        m.out = [.star b.val (slotFrame s.node 4 slot.val (min 160 (bs.length - off)) (128 * b2n (off == 0) + 64 * b2n (decide (bs.length ≤ off + 160))) 0
          ((bs.drop off).take 160))]
        ∧ (branch m b.val).down = if bs.length ≤ off + 160 then none else some (bs, off + 160)))) ∧
    (∀ (f : List Byte) slot, slot = be f 5 1 → starOn s.node → slot < 8 →
      (checked x → x.st = .held ∨ ulKind s.node b.val slot ≠ 1 → Completes (.uplinkAudioReceived b f) s (fun m => (branch m b.val).viols = 0 :: x.viols
        ∧ Counted s.node m (R.ST_BRCNT b.val 2) ∧ m.mil = s.node.mil)) ∧
      (∀ ts, checked x → x.st = .held ∨ ulKind s.node b.val slot ≠ 2 → x.up = none → Completes (.uplinkMessageReceived b f ts) s (fun m =>
        (branch m b.val).viols = 0 :: x.viols ∧ Counted s.node m (R.ST_BRCNT b.val 2) ∧ m.qm = s.node.qm)) ∧
      (x.st = .active → ulKind s.node b.val slot = 1 → be f 4 1 = 3 → starCrcOk f →
        (be f 6 2 ≠ cnNow s.node % 65536 → Completes (.uplinkAudioReceived b f) s (fun m => Counted s.node m (R.ST_BRCNT b.val 4) ∧ m.mil = s.node.mil)) ∧
        (∀ j own a, be f 6 2 = cnNow s.node % 65536 → x.statusOk → holdsToken s.node → gf s.node R.AU_STAT F.AU_STAT_PMUTE % 4 = 0 →
          j < 6 → bitOf (be f 11 1) j → (∀ k < 6, k ≠ j → bitOf (be f 11 1) k = false) → auMap s.node b.val 1 slot j = some (own, a) →
          laneMode s.node.force (cfgChan s.node (laneChan a)) (laneSlot a) (laneNum a) ≠ 0 → s.node.mil.ownBlocks.find? (fun e => e.1 == a) = none →
          Completes (.uplinkAudioReceived b f) s (fun m => Counted s.node m (R.ST_BRCNT b.val 0)
            ∧ (a, (List.range 6).map (fun i => BitVec.ofNat 32 (be f (12 + 24 * j + 4 * i) 4))) ∈ m.mil.ownBlocks))) ∧
      (x.st = .active → ulKind s.node b.val slot = 2 → be f 4 1 = 4 → starCrcOk f → holdsToken s.node → x.up = none → be f 8 2 ≤ 160 →
        bitOf (be f 10 1) 7 → ∀ ts,
        (bitOf (be f 10 1) 6 = false → Completes (.uplinkMessageReceived b f ts) s (fun m => ∃ u, (branch m b.val).up = some u
          ∧ u.payload = cut f 12 (be f 8 2) ∧ u.ts = ts ∧ u.cnlo = be f 6 2)) ∧
        (bitOf (be f 10 1) 6 = true → ff s.node (R.ST_ULQ b.val) F.ST_ULQ_QUEUE < 256 → Completes (.uplinkMessageReceived b f ts) s (fun m =>
          (branch m b.val).up = none ∧ Counted s.node m (R.ST_BRCNT b.val 0)))))

/-- The frame of the star commands: block ST and what the node keeps of the branches, outputs and the logs; uplink audio also the
own blocks and the line's counter of blocked lanes. -/
def Clause.StarFrame : Prop :=
  ∀ (s t : State) (b : Fin 16) (slot : Fin 8) (f : List Byte) (w : BitVec 32) (cmd : Instr), exec cmd s = .next t →
    (cmd = .syncSend b w → Frame [.out, .st] (blocks []) s.node t.node) ∧
    (cmd ∈ ([.starViolation b, .downlinkSlotSend b slot] : List Instr) → Frame [.out, .st] (blocks [12]) s.node t.node) ∧
    (cmd ∈ ([.statusReceived b f w, .statusLost b, .branchLinkTrained b, .branchLinkLoss b, .disconnectExpiry b, .branchAdmit b,
        .branchReconnect b, .uplinkMessageReceived b f w] : List Instr) → Frame (logParts ++ [.out, .st]) (blocks [6, 8, 12]) s.node t.node) ∧
    (cmd = .uplinkAudioReceived b f → Frame (logParts ++ [.out, .st, .line, .mil]) (blocks [3, 6, 8, 12]) s.node t.node) ∧
    (cmd ∈ ([.syncSend b w, .starViolation b, .downlinkSlotSend b slot, .statusReceived b f w, .statusLost b, .branchLinkTrained b,
        .branchLinkLoss b, .disconnectExpiry b, .branchAdmit b, .branchReconnect b, .uplinkMessageReceived b f w,
        .uplinkAudioReceived b f] : List Instr) → t.pending = s.pending)

/-- A frame a MAC takes without an error: a good FCS, no code or reassembly error, 60 to MAXLEN bytes. -/
def goodEther (n : Node) (m : Nat) (f : List Byte) : Bool :=
  etherFcsOk f && decide (60 ≤ (etherBody f).length) && decide ((etherBody f).length ≤ maxlen n m)

/-- The receive queue number 0 to 3 a frame chooses through EM_PCPMAP. -/
def rxChoice (n : Node) (m : Nat) (f : List Byte) : Nat := bits (inForce n (R.EM_PCPMAP m)).toNat (2 * framePcp (etherBody f)) 2

/-- Receiving: which frames a MAC accepts, the header it delivers, what a full queue, an error, a pause frame and another
control frame do (R360, R361, R362, R367, R368). -/
def Clause.EthernetReceive : Prop :=
  ∀ (s : State) (m : Fin 6), macOn s.node m.val → macLink s.node m.val →
    (∀ f pre ts q k h, goodEther s.node m.val f → etherType (etherBody f) ≠ 0x8808 → accepts s.node m.val (etherBody f) → k = rxChoice s.node m.val f →
      ff s.node (R.EM_RXQ m.val k) F.EM_RXQ_QUEUE = q → 256 ≤ q → gf s.node (R.EM_MACSTAT m.val) ⟨20 + k, 1⟩ = 0 →
      h = withLatency ts (signed 16 (ff s.node (R.EM_LAT m.val) F.EM_LAT_RXLAT)) →
      ∀ hd : FrameHeader, hd = { len := (etherBody f).length, fflags := 2 ^ 12 * b2n pre + 2 ^ 13 * b2n (hasVlan (etherBody f)), ts := h.toNat
                                 cnlo := stampCnlo s.node h, port := m.val
                                 aux := b2n (tsdom s.node) * 2 ^ 31 + framePcp (etherBody f) * 2 ^ 28 + k * 2 ^ 26 } →
        ((pushFrame s.node q hd (etherBody f)).2 = true → Completes (.emFrameReceived m f false false pre ts) s (fun t =>
          Counted s.node t (R.EM_CNT m.val 0) ∧ desc t q = desc (pushFrame s.node q hd (etherBody f)).1 q
          ∧ t.dram = (pushFrame s.node q hd (etherBody f)).1.dram ∧ rd t (R.EM_CNT m.val 5) = rd s.node (R.EM_CNT m.val 5))) ∧
        ((pushFrame s.node q hd (etherBody f)).2 = false → Completes (.emFrameReceived m f false false pre ts) s (fun t =>
          Counted s.node t (R.EM_CNT m.val 5) ∧ gf t (R.EM_MACEVT m.val) F.EM_MACEVT_RXDROP = 1))) ∧
    (∀ f pre ts, goodEther s.node m.val f → etherType (etherBody f) ≠ 0x8808 → accepts s.node m.val (etherBody f) = false →
      Completes (.emFrameReceived m f false false pre ts) s (fun t => Counted s.node t (R.EM_CNT m.val 0) ∧ Counted s.node t (R.EM_CNT m.val 6)
        ∧ t.qm = s.node.qm)) ∧
    (∀ f pre ts, etherFcsOk f = false → ff s.node (R.EM_MACCFG m.val) F.EM_MACCFG_KEEPBAD = 0 →
      Completes (.emFrameReceived m f false false pre ts) s (fun t => Counted s.node t (R.EM_CNT m.val 2) ∧ t.qm = s.node.qm
        ∧ rd t (R.EM_CNT m.val 0) = rd s.node (R.EM_CNT m.val 0))) ∧
    (∀ q : BitVec 16, ff s.node (R.EM_MACCFG m.val) F.EM_MACCFG_RXPAUSE = 1 → Completes (.pauseReceived m q) s (fun t =>
      Counted s.node t (R.EM_CNT m.val 7) ∧ gf t (R.EM_MACSTAT m.val) F.EM_MACSTAT_PAUSED = b2n (q != 0) ∧ gf t (R.EM_MACEVT m.val) F.EM_MACEVT_PAUSE = 1)) ∧
    (∀ q : BitVec 16, ff s.node (R.EM_MACCFG m.val) F.EM_MACCFG_RXPAUSE = 0 → Completes (.pauseReceived m q) s (fun t =>
      Counted s.node t (R.EM_CNT m.val 8) ∧ rd t (R.EM_MACSTAT m.val) = rd s.node (R.EM_MACSTAT m.val))) ∧
    Completes (.pauseExpiry m) s (fun t => gf t (R.EM_MACSTAT m.val) F.EM_MACSTAT_PAUSED = 0) ∧
    Completes (.controlFrameReceived m) s (fun t => Counted s.node t (R.EM_CNT m.val 8) ∧ t.qm = s.node.qm)

/-- The bytes a MAC puts on the wire for a queued frame: padded to 60 bytes and closed by its FCS, unless it brings its own. -/
def wireOf (h : FrameHeader) (payload : List Byte) : List Byte :=
  if bitOf h.fflags 9 then payload else cut payload 0 (max 60 payload.length) ++ etherFcs (cut payload 0 (max 60 payload.length))

/-- A completion record is packed behind those that wait, where EM_TXCQ names a queue and the cell does not fill. -/
def Recorded (n t : Node) (m : Nat) (r : List Byte) : Prop :=
  256 ≤ ff n (R.EM_TXCQ m) F.EM_TXCQ_QUEUE → (mac n m).done.length < 7 → (mac t m).done = (mac n m).done ++ [r]

/-- Transmitting: the queue served, the frame on the wire, its completion record; a frame too long or without a link is removed;
a paused transmitter starts nothing (R363, R364, R365, R367). -/
def Clause.EthernetTransmit : Prop :=
  ∀ (s : State) (m : Fin 6) (k q : Nat) (h : FrameHeader) (payload : List Byte) (egress : BitVec 32) (fr : BitVec 8),
    macOn s.node m.val → nextTx s.node m.val = some (k, q) → (popFrame s.node q).2 = some (h, payload) → ff s.node (R.EM_TXCQ m.val) F.EM_TXCQ_QUEUE ≠ q →
    (macLink s.node m.val → gf s.node (R.EM_MACSTAT m.val) F.EM_MACSTAT_PAUSED = 0 → h.len ≤ maxlen s.node m.val + 4 * b2n (bitOf h.fflags 9) →
      Completes (.emFrameTransmit m egress fr) s (fun t => t.out = [.ether m.val (wireOf h payload)] ∧ Counted s.node t (R.EM_CNT m.val 9)
        ∧ desc t q = desc (popFrame s.node q).1 q
        ∧ (bitOf h.fflags 8 = false → t.em = s.node.em)
        ∧ (∀ ts, ts = withLatency egress (-(signed 16 (ff s.node (R.EM_LAT m.val) F.EM_LAT_TXLAT))) → bitOf h.fflags 8 = true → k = 0 →
          Recorded s.node t m.val (emRecord h.aux ts.toNat (stampCnlo s.node ts) m.val 0 (b2n (tsdom s.node)))))) ∧
    (macLink s.node m.val → gf s.node (R.EM_MACSTAT m.val) F.EM_MACSTAT_PAUSED = 0 → maxlen s.node m.val + 4 * b2n (bitOf h.fflags 9) < h.len →
      Completes (.emFrameTransmit m egress fr) s (fun t => t.out = [] ∧ Counted s.node t (R.EM_CNT m.val 13) ∧ Recorded s.node t m.val (emRecord h.aux 0 0 m.val 1 0)
        ∧ desc t q = desc (popFrame s.node q).1 q)) ∧
    (macLink s.node m.val = false → h.len ≤ maxlen s.node m.val → Completes (.emFrameTransmit m egress fr) s (fun t => t.out = []
      ∧ Counted s.node t (R.EM_CNT m.val 14) ∧ Recorded s.node t m.val (emRecord h.aux 0 0 m.val 2 0) ∧ desc t q = desc (popFrame s.node q).1 q)) ∧
    (macLink s.node m.val → gf s.node (R.EM_MACSTAT m.val) F.EM_MACSTAT_PAUSED = 1 → Completes (.emFrameTransmit m egress fr) s (fun t => t = quiet s.node))

/-- The doorbells of the MACs and of the CAN controllers: a TAIL count that ends on a frame boundary within the ring pushes the
frames up to it, a HEAD count removes them; an invalid one of a MAC stops its queue until it is flushed (R312, R363, R385). -/
def Obligations.Doorbells : Prop :=
  ∀ s : State, isRun s.node → cxAlive s.node →
    (∀ (m : Fin 6) (k : Fin 2) (q : Nat) (tail : BitVec 24), ff s.node (R.EM_TXQ m.val k.val) F.EM_TXQ_QUEUE = q → 256 ≤ q → txStopped s.node m.val k.val = false →
      ((tailDoorbell s.node q tail.toNat).isSome → Completes (.emTxDoorbell m k tail) s (fun t => desc t q = { desc s.node q with tail := tail.toNat }
        ∧ gf t (R.EM_TXDB m.val k.val) F.EM_TXDB_COUNT = tail.toNat)) ∧
      (tailDoorbell s.node q tail.toNat = none → Completes (.emTxDoorbell m k tail) s (fun t => t.qm = s.node.qm ∧ txStopped t m.val k.val = true
        ∧ gf t (R.EM_MACEVT m.val) F.EM_MACEVT_QERR = 1))) ∧
    (∀ (m : Fin 6) (k : Fin 4) (q : Nat) (head : BitVec 24), ff s.node (R.EM_RXQ m.val k.val) F.EM_RXQ_QUEUE = q → 256 ≤ q →
      gf s.node (R.EM_MACSTAT m.val) ⟨20 + k.val, 1⟩ = 0 →
      ((headDoorbell s.node q head.toNat).isSome → Completes (.emRxDoorbell m k head) s (fun t => (desc t q).head % 2 ^ 24 = head.toNat
        ∧ (desc t q).tail = (desc s.node q).tail)) ∧
      (headDoorbell s.node q head.toNat = none → Completes (.emRxDoorbell m k head) s (fun t => t.qm = s.node.qm
        ∧ gf t (R.EM_MACSTAT m.val) ⟨20 + k.val, 1⟩ = 1))) ∧
    (∀ (m : Fin 6) (fl : BitVec 6), Completes (.emQueueFlush m fl) s (fun t => ∀ i < 6, fl.getLsbD i → gf t (R.EM_MACSTAT m.val) ⟨18 + i, 1⟩ = 0
      ∧ ∀ q, 256 ≤ q → ff s.node (if i < 2 then R.EM_TXQ m.val i else R.EM_RXQ m.val (i - 2)) F.EM_TXQ_QUEUE = q → (desc t q).head = (desc s.node q).tail
        ∧ (desc t q).tail = (desc s.node q).tail)) ∧
    (∀ (c : Fin 4) (k : Fin 2) (q : Nat) (tail : BitVec 24), ff s.node (if k.val = 0 then R.CB_TXQ0 c.val else R.CB_TXQ1 c.val) F.CB_TXQ0_QUEUE = q → 256 ≤ q →
      ((tailDoorbell s.node q tail.toNat).isSome → Completes (.canTxDoorbell c k tail) s (fun t => desc t q = { desc s.node q with tail := tail.toNat })) ∧
      (tailDoorbell s.node q tail.toNat = none → Completes (.canTxDoorbell c k tail) s (fun t => t.qm = s.node.qm))) ∧
    (∀ (c : Fin 4) (q : Nat) (head : BitVec 24), ff s.node (R.CB_RXQ c.val) F.CB_RXQ_QUEUE = q → 256 ≤ q →
      ((headDoorbell s.node q head.toNat).isSome → Completes (.canRxDoorbell c head) s (fun t => (desc t q).head % 2 ^ 24 = head.toNat)) ∧
      (headDoorbell s.node q head.toNat = none → Completes (.canRxDoorbell c head) s (fun t => t.qm = s.node.qm))) ∧
    (∀ q tail, (tailDoorbell s.node q tail).isSome = ((desc s.node q).room (subMod 24 tail (desc s.node q).tail)
      && (framesIn s.node (desc s.node q) (subMod 24 tail (desc s.node q).tail) (desc s.node q).tail (subMod 24 tail (desc s.node q).tail)).isSome))

/-- Link and verification: a link comes up at a speed Table EM-1 allows, verification of preemption runs with it, sends up to
three frames, and ends by a response or a failure (R358, R366). -/
def Clause.EthernetLink : Prop :=
  ∀ (s : State) (m : Fin 6) (a : Nat), a = R.EM_MACSTAT m.val → macOn s.node m.val →
    (∀ (sp : Fin 8) v, v = (if macIf s.node m.val = 1 then ff s.node (R.EM_MACCFG m.val) F.EM_MACCFG_SPEED else if macIf s.node m.val = 2 then 5 else sp.val) →
      macLink s.node m.val = false →
      (speedOk m.val (macIf s.node m.val) v → Completes (.emLinkUp m sp) s (fun t => gf t a F.EM_MACSTAT_LINK = 1 ∧ gf t a F.EM_MACSTAT_SPEED = v
        ∧ gf t (R.EM_MACEVT m.val) F.EM_MACEVT_LINKUP = 1
        ∧ (ff s.node (R.EM_PREEMPT m.val) F.EM_PREEMPT_EN = 1 → ff s.node (R.EM_PREEMPT m.val) F.EM_PREEMPT_DISVERIFY = 0 →
          gf t a F.EM_MACSTAT_VERIFY = 2 ∧ gf t a F.EM_MACSTAT_PACTIVE = 0 ∧ (mac t m.val).verifySent = 0))) ∧
      (speedOk m.val (macIf s.node m.val) v = false → Completes (.emLinkUp m sp) s (fun t => t = quiet s.node))) ∧
    (macLink s.node m.val → Completes (.emLinkDown m) s (fun t => gf t a F.EM_MACSTAT_LINK = 0 ∧ gf t a F.EM_MACSTAT_SPEED = 0
      ∧ gf t a F.EM_MACSTAT_PAUSED = 0 ∧ gf t (R.EM_MACEVT m.val) F.EM_MACEVT_LINKDOWN = 1)) ∧
    (macLink s.node m.val → ff s.node (R.EM_PREEMPT m.val) F.EM_PREEMPT_EN = 1 → Completes (.verifyFrameReceived m) s (fun t => t.out = [.verify m.val true]
      ∧ t = { s.node with out := t.out })) ∧
    (verifying s.node m.val →
      ((mac s.node m.val).verifySent < 3 → Completes (.verifyFrameSend m) s (fun t => t.out = [.verify m.val false]
        ∧ (mac t m.val).verifySent = (mac s.node m.val).verifySent + 1)) ∧
      ((mac s.node m.val).verifySent = 3 → Completes (.verifyFrameSend m) s (fun t => t = quiet s.node)) ∧
      Completes (.verifyResponseReceived m) s (fun t => gf t a F.EM_MACSTAT_VERIFY = 3 ∧ gf t a F.EM_MACSTAT_PACTIVE = 1) ∧
      ((mac s.node m.val).verifySent = 3 → Completes (.verifyFail m) s (fun t => gf t a F.EM_MACSTAT_VERIFY = 4 ∧ gf t a F.EM_MACSTAT_PACTIVE = 0
        ∧ Counted s.node t (R.EM_CNT m.val 12) ∧ gf t (R.EM_MACEVT m.val) F.EM_MACEVT_VERIFYFAIL = 1)))

/-- The frame of the Ethernet commands: block EM and what the node keeps of the MACs, outputs; a frame taken or sent and a transmit
doorbell also the queues and the logs. -/
def Clause.EthernetFrame : Prop :=
  ∀ (s t : State) (m : Fin 6) (f : List Byte) (a b c : Bool) (w : BitVec 32) (x : BitVec 8) (k : Fin 2) (j : Fin 4) (v : BitVec 24) (fl : BitVec 6)
      (sp : Fin 8) (q : BitVec 16) (cmd : Instr), exec cmd s = .next t →
    (cmd ∈ ([.emFrameReceived m f a b c w, .emTxDoorbell m k v] : List Instr) → Frame (logParts ++ [.out]) (blocks [6, 8, 13]) s.node t.node) ∧
    (cmd = .emFrameTransmit m w x → Frame (logParts ++ [.out, .em]) (blocks [6, 8, 13]) s.node t.node) ∧
    (cmd = .emRxDoorbell m j v → Frame [.out, .qm] (blocks [8, 13]) s.node t.node) ∧
    (cmd = .emQueueFlush m fl → Frame [.out, .qm] (blocks [13]) s.node t.node) ∧
    (cmd ∈ ([.emLinkUp m sp, .emLinkDown m, .verifyFrameSend m, .verifyResponseReceived m, .verifyFail m, .verifyFrameReceived m,
        .pauseReceived m q, .pauseExpiry m, .controlFrameReceived m] : List Instr) → Frame [.out, .em] (blocks [13]) s.node t.node) ∧
    (cmd ∈ ([.emFrameReceived m f a b c w, .emTxDoorbell m k v, .emFrameTransmit m w x, .emRxDoorbell m j v, .emQueueFlush m fl, .emLinkUp m sp,
        .emLinkDown m, .verifyFrameSend m, .verifyResponseReceived m, .verifyFail m, .verifyFrameReceived m, .pauseReceived m q, .pauseExpiry m,
        .controlFrameReceived m] : List Instr) → t.pending = s.pending)

/-- The node of controller c counts its errors as given and shows the state they make. -/
def Errors (n : Node) (c tec rec_ : Nat) : Prop :=
  (can n c).tec = tec ∧ (can n c).rec_ = rec_ ∧ gf n (R.CB_STAT c) F.CB_STAT_STATE = stateOf tec rec_

/-- CAN reception: a good frame is stored in the object its identifier names, or in the queue, or counted; an error counts on the
receive counter, which decides the state; a protocol exception changes no counter (R374, R377, R380, R381, R384). -/
def Clause.CanReceive : Prop :=
  ∀ (s : State) (c : Fin 4) (x : Can) (f : CanFrame) (ts : BitVec 32) (q : Nat), x = can s.node c.val → q = ff s.node (R.CB_RXQ c.val) F.CB_RXQ_QUEUE →
    canLive s.node c.val → cbCfg s.node c.val F.CB_CFG_MODE ≠ 3 → f.fdf = false ∨ cbCfg s.node c.val F.CB_CFG_FDEN = 1 →
    (∀ o, f.rtr = false → objFor s.node c.val f = some o → x.lock ≠ some o → q < 256 → Completes (.canFrameReceived c f .good ts) s (fun m =>
      Counted s.node m (R.CB_CNT c.val 0) ∧ Counted s.node m (R.CB_CNT c.val 1)
      ∧ ∀ w < 20, objWord m c.val o w = (objWords s.node c.val o f ts (tsdom s.node) false).getD w 0#32)) ∧
    (∀ o, f.rtr = false → objFor s.node c.val f = some o → x.lock = some o → x.pend = [] → q < 256 → Completes (.canFrameReceived c f .good ts) s (fun m =>
      (can m c.val).pend = [⟨o, f, ts, tsdom s.node, false⟩] ∧ (can m c.val).objs = x.objs)) ∧
    (objFor s.node c.val f = none → q < 256 → Completes (.canFrameReceived c f .good ts) s (fun m =>
      Counted s.node m (R.CB_CNT c.val 0) ∧ Counted s.node m (R.CB_CNT c.val 3) ∧ (can m c.val).objs = x.objs)) ∧
    (∀ hd : FrameHeader, f.rtr = false → objFor s.node c.val f = none → 256 ≤ q → x.rec_ = 0 → ttOn s.node c.val = false →
      hd = { len := canLen f, fflags := 2 ^ 8 * b2n f.fdf + 2 ^ 9 * b2n (f.brs && f.fdf) + 2 ^ 10 * b2n f.esi + 2 ^ 12 * b2n f.ide + 2 ^ 13 * b2n (tsdom s.node)
             ts := ts.toNat, cnlo := stampCnlo s.node ts, port := c.val, aux := f.id.toNat } →
      ((pushFrame s.node q hd f.data).2 = true → Completes (.canFrameReceived c f .good ts) s (fun m => Counted s.node m (R.CB_CNT c.val 2)
        ∧ desc m q = desc (pushFrame s.node q hd f.data).1 q ∧ m.dram = (pushFrame s.node q hd f.data).1.dram)) ∧
      ((pushFrame s.node q hd f.data).2 = false → Completes (.canFrameReceived c f .good ts) s (fun m => gf m (R.CB_EVT c.val) F.CB_EVT_RXDROP = 1))) ∧
    Completes (.canFrameReceived c f .error ts) s (fun m => Errors m c.val x.tec (x.rec_ + 1) ∧ Counted s.node m (R.CB_CNT c.val 7)) ∧
    Completes (.canFrameReceived c f .dominantAfterFlag ts) s (fun m => Errors m c.val x.tec (x.rec_ + 9) ∧ Counted s.node m (R.CB_CNT c.val 7)) ∧
    (cbCfg s.node c.val F.CB_CFG_PEXEN = 1 → Completes (.protocolException c) s (fun m => m.cb = s.node.cb ∧ Counted s.node m (R.CB_CNT c.val 9)
      ∧ gf m (R.CB_EVT c.val) F.CB_EVT_PEX = 1 ∧ rd m (R.CB_STAT c.val) = rd s.node (R.CB_STAT c.val))) ∧
    (cbCfg s.node c.val F.CB_CFG_PEXEN = 0 → Completes (.protocolException c) s (fun m => Errors m c.val x.tec (x.rec_ + 1)))

/-- Receive objects: a read of word 0 locks one, moving the lock; a read of word 19 releases it; a frame that waited is stored
after the release (R382, R383). -/
def Clause.ObjectLocks : Prop :=
  ∀ (s : State) (c : Fin 4) (o : Fin 2048) (x : Can), x = can s.node c.val → isRun s.node → cxAlive s.node →
    (x.lock = none ∨ x.lock = some o.val → Completes (.objectLock c o) s (fun m => can m c.val = { x with lock := some o.val }
      ∧ m.out = [.word (objWord s.node c.val o.val 0)])) ∧
    (∀ p, x.lock = some p → p ≠ o.val → x.pend = [] → x.dropped = false → Completes (.objectLock c o) s (fun m => can m c.val = { x with lock := some o.val }
      ∧ gf m (R.CB_EVT c.val) F.CB_EVT_LOCKBRK = 1)) ∧
    (x.lock ≠ some o.val → Completes (.objectRelease c o) s (fun m => m.cb = s.node.cb ∧ m.out = [.word (objWord s.node c.val o.val 19)])) ∧
    (x.lock = some o.val → x.pend = [] → x.dropped = false → Completes (.objectRelease c o) s (fun m => (can m c.val).lock = none
      ∧ m.out = [.word (objWord s.node c.val o.val 19)] ∧ objWord m c.val o.val 0 = objWord s.node c.val o.val 0 &&& 0x3FFFFFFF#32
      ∧ ∀ p w, p < 2048 → w < 20 → ¬ (p = o.val ∧ w = 0) → objWord m c.val p w = objWord s.node c.val p w)) ∧
    (∀ p, x.lock = some o.val → x.pend = [p] → p.obj = o.val → Completes (.objectRelease c o) s (fun m => (can m c.val).lock = none ∧ (can m c.val).pend = []
      ∧ (objWord m c.val o.val 0).getLsbD 31 = true ∧ (objWord m c.val o.val 0).getLsbD 30 = (p.more || x.dropped)
      ∧ objWord m c.val o.val 2 = p.ts ∧ Counted s.node m (R.CB_CNT c.val 1))) ∧
    (∀ p, x.lock = some p → x.pend = [] → x.dropped = false → Completes (.objectLockTimeout c) s (fun m => can m c.val = { x with lock := none }
      ∧ gf m (R.CB_EVT c.val) F.CB_EVT_LOCKTMO = 1))

/-- CAN transmission: the head frame of the queue served starts; the end of an attempt moves the transmit counter, keeps or removes
the frame, and after 16 attempts without an acknowledgement shows NOACK; ABORT, recovery from bus-off, SLEEP and its end (R377 to R379,
R385 to R387, R390). -/
def Clause.CanTransmit : Prop :=
  ∀ (s : State) (c : Fin 4) (x : Can), x = can s.node c.val →
    (∀ q p ts delay, canSends s.node c.val → x.jobs = [] → canQueue s.node c.val = some q → peekJob s.node c.val q = some p →
      mayStart s.node c.val p.frame ts → Completes (.canFrameTransmit c ts delay) s (fun m => (can m c.val).jobs = [{ p with active := true, ts := ts }]
        ∧ m.out = [.can c.val { p.frame with esi := p.frame.fdf && (p.frame.esi || cbState s.node c.val == 1) }])) ∧
    (∀ q ts delay, canSends s.node c.val → x.jobs = [] → canQueue s.node c.val = some q → (peekFrame s.node q).isSome → peekJob s.node c.val q = none →
      ttOn s.node c.val = false → Completes (.canFrameTransmit c ts delay) s (fun m => m.out = [] ∧ (can m c.val).jobs = [] ∧ Counted s.node m (R.CB_CNT c.val 6))) ∧
    (∀ j js, canOn s.node c.val → x.jobs = j :: js → j.active →
      (cbCfg s.node c.val F.CB_CFG_MODE ≠ 3 → Completes (.canTransmitComplete c .sent) s (fun m => (can m c.val).jobs = js ∧ Errors m c.val (x.tec - 1) x.rec_
        ∧ Counted s.node m (R.CB_CNT c.val 5) ∧ gf m (R.CB_STAT c.val) F.CB_STAT_NOACK = 0)) ∧
      (j.abort = false → j.once = false →
        Completes (.canTransmitComplete c .lostArbitration) s (fun m => (can m c.val).jobs = { j with active := false, noAcks := 0 } :: js
          ∧ (can m c.val).tec = x.tec ∧ (can m c.val).rec_ = x.rec_) ∧
        Completes (.canTransmitComplete c .error) s (fun m => (can m c.val).jobs = { j with active := false, noAcks := 0 } :: js
          ∧ Errors m c.val (x.tec + 8) x.rec_ ∧ Counted s.node m (R.CB_CNT c.val 7)) ∧
        (j.noAcks ≠ 15 → Completes (.canTransmitComplete c .noAck) s (fun m => (can m c.val).jobs = { j with active := false, noAcks := j.noAcks + 1 } :: js
          ∧ Errors m c.val (if cbState s.node c.val = 1 then x.tec else x.tec + 8) x.rec_)) ∧
        (j.noAcks = 15 → Completes (.canTransmitComplete c .noAck) s (fun m => gf m (R.CB_STAT c.val) F.CB_STAT_NOACK = 1
          ∧ gf m (R.CB_EVT c.val) F.CB_EVT_NOACK = 1
          ∧ (can m c.val).jobs = (if cbCfg s.node c.val F.CB_CFG_NOACKABORT = 1 then js else { j with active := false, noAcks := 16 } :: js)))) ∧
      (j.abort = true → Completes (.canTransmitComplete c .lostArbitration) s (fun m => (can m c.val).jobs = js ∧ Counted s.node m (R.CB_CNT c.val 6))) ∧
      Completes (.canAbort c) s (fun m => (can m c.val).jobs = { j with abort := true } :: js)) ∧
    (∀ j js, canOn s.node c.val → x.jobs = j :: js → j.active = false → Completes (.canAbort c) s (fun m => (can m c.val).jobs = js
      ∧ Counted s.node m (R.CB_CNT c.val 6))) ∧
    (canOn s.node c.val →
      (cbState s.node c.val = 2 → Completes (.canRecover c) s (fun m => gf m (R.CB_STAT c.val) F.CB_STAT_RECOV = 1 ∧ m.cb = s.node.cb)) ∧
      (cbState s.node c.val = 2 → gf s.node (R.CB_STAT c.val) F.CB_STAT_RECOV = 1 → Completes (.busoffRecoveryComplete c) s (fun m => Errors m c.val 0 0
        ∧ gf m (R.CB_STAT c.val) F.CB_STAT_RECOV = 0 ∧ gf m (R.CB_EVT c.val) F.CB_EVT_EACTIVE = 1 ∧ (can m c.val).jobs = x.jobs)) ∧
      (x.jobs.any CanJob.active = false → Completes (.canSleep c) s (fun m => canAsleep m c.val = true ∧ m.out = [.pin "CAN_STB" c.val true] ∧ m.qm = s.node.qm)) ∧
      (x.jobs.any CanJob.active = true → Completes (.canSleep c) s (fun m => can m c.val = { x with sleepReq := true } ∧ canAsleep m c.val = canAsleep s.node c.val)) ∧
      (canAsleep s.node c.val → Completes (.canWake c) s (fun m => canAsleep m c.val = false ∧ gf m (R.CB_EVT c.val) F.CB_EVT_WAKE = 1
        ∧ m.out = [.pin "CAN_STB" c.val false])))

/-- Time-triggered CAN: the reference message starts a basic cycle; a column opens, an exclusive one sends the head of its queue
once where it fits and removes it where it does not; the second missed reference stops the controller (R392 to R394). -/
def Obligations.CanTimeTriggered : Prop :=
  ∀ (s : State) (c : Fin 4) (x : Can) (a : Nat), x = can s.node c.val → a = R.CB_TTSTAT c.val → ttOn s.node c.val →
    (∀ ts p, p = ff s.node (R.CB_TTCFG c.val) F.CB_TTCFG_PRIO → canSends s.node c.val → ff s.node (R.CB_TTCFG c.val) F.CB_TTCFG_MASTER = 1 →
      cnNow s.node % bcLen s.node c.val = 0 → Completes (.ttReferenceSend c ts) s (fun m =>
        m.out = [.can c.val (refFrame s.node c.val p (BitVec.ofNat 8 (basicCycle s.node c.val)))] ∧ gf m a F.CB_TTSTAT_CURPRIO = p
        ∧ gf m a F.CB_TTSTAT_TTSTOP = 0 ∧ can m c.val = { x with refTs := some ts, col := 0, misses := 0 } ∧ Counted s.node m (R.CB_CNT c.val 10))) ∧
    (∀ (prio : Fin 8) k ts, canLive s.node c.val → cbCfg s.node c.val F.CB_CFG_MODE ≠ 3 → Completes (.ttReferenceReceived c prio k ts) s (fun m =>
      gf m a F.CB_TTSTAT_CURPRIO = prio.val ∧ gf m a F.CB_TTSTAT_TTSTOP = 0 ∧ (can m c.val).refTs = some ts ∧ (can m c.val).col = 0
      ∧ (can m c.val).misses = 0 ∧ Counted s.node m (R.CB_CNT c.val 0))) ∧
    (∀ (j : Fin 64) ts delay, canLive s.node c.val → 1 ≤ j.val → j.val < ncol s.node c.val →
      (columnType s.node c.val j.val ≠ 1 → Completes (.ttColumnOpen c j ts delay) s (fun m => can m c.val = { x with col := j.val } ∧ m.out = [])) ∧
      (∀ q h payload w, columnType s.node c.val j.val = 1 → gf s.node a F.CB_TTSTAT_TTSTOP = 0 → canSends s.node c.val → x.jobs = [] →
        ff s.node (R.CB_TTMAT c.val (gf s.node a F.CB_TTSTAT_CYCLE) j.val) F.CB_TTMAT_QUEUE = q → 256 ≤ q → (desc s.node q).kind = .frame →
        (popFrame s.node q).2 = some (h, payload) → jobOf s.node c.val h payload true = some w →
        (fitsColumn (setCan s.node c.val { x with col := j.val }) c.val w.frame ts → Completes (.ttColumnOpen c j ts delay) s (fun m =>
          (can m c.val).jobs = [{ w with active := true, ts := ts }]
          ∧ m.out = [.can c.val { w.frame with esi := w.frame.fdf && (w.frame.esi || cbState s.node c.val == 1) }])) ∧
        (fitsColumn (setCan s.node c.val { x with col := j.val }) c.val w.frame ts = false → Completes (.ttColumnOpen c j ts delay) s (fun m =>
          (can m c.val).jobs = [] ∧ m.out = [] ∧ Counted s.node m (R.CB_CNT c.val 6))))) ∧
    (canLive s.node c.val → Completes (.ttReferenceMissed c) s (fun m => (can m c.val).misses = x.misses + 1 ∧ Counted s.node m (R.CB_CNT c.val 11)
      ∧ (x.misses = 1 → gf m a F.CB_TTSTAT_TTSTOP = 1 ∧ gf m (R.CB_EVT c.val) F.CB_EVT_TTLOSS = 1)
      ∧ (x.misses ≠ 1 → gf m a F.CB_TTSTAT_TTSTOP = gf s.node a F.CB_TTSTAT_TTSTOP)))

/-- The frame of the CAN commands: block CB and what the node keeps of the controllers, outputs; what stores, sends or records an
event also the queues and the logs. -/
def Clause.CanFrameRule : Prop :=
  ∀ (s t : State) (c : Fin 4) (f : CanFrame) (how : CanRx) (e : CanTx) (w : BitVec 32) (d k8 : BitVec 8) (o : Fin 2048) (k : Fin 2) (v : BitVec 24)
      (p : Fin 8) (j : Fin 64) (cmd : Instr), exec cmd s = .next t →
    (cmd ∈ ([.canFrameReceived c f how w, .protocolException c, .canFrameTransmit c w d, .canTransmitComplete c e, .busoffRecoveryComplete c,
        .canRecover c, .canAbort c, .canSleep c, .canWake c, .ttReferenceReceived c p k8 w, .ttColumnOpen c j w d, .ttReferenceMissed c] : List Instr) →
      Frame (logParts ++ [.out, .cb]) (blocks [6, 8, 14]) s.node t.node) ∧
    (cmd ∈ ([.objectLock c o, .objectRelease c o, .objectLockTimeout c, .ttReferenceSend c w] : List Instr) → Frame [.out, .cb] (blocks [14]) s.node t.node) ∧
    (cmd = .canTxDoorbell c k v → Frame (logParts ++ [.out]) (blocks [6, 8, 14]) s.node t.node) ∧
    (cmd = .canRxDoorbell c v → Frame [.out, .qm] (blocks [8, 14]) s.node t.node) ∧
    (cmd ∈ ([.canFrameReceived c f how w, .protocolException c, .canFrameTransmit c w d, .canTransmitComplete c e, .busoffRecoveryComplete c, .canRecover c,
        .canAbort c, .canSleep c, .canWake c, .ttReferenceReceived c p k8 w, .ttColumnOpen c j w d, .ttReferenceMissed c, .objectLock c o,
        .objectRelease c o, .objectLockTimeout c, .ttReferenceSend c w, .canTxDoorbell c k v, .canRxDoorbell c v] : List Instr) → t.pending = s.pending)

/-- Both outputs stand at their demand. -/
def AtDemand (m : Node) : Prop := ∀ k < 2, (safeOut m k).on = safeDemand m k

/-- A fault of Table SF-2 locks the channel out: counted, latched with its detail and CN unless a lock-out is held already (NOBLOCK
does not count as one), its test in SF_DIAG, and both outputs off. -/
def LocksOut (n m : Node) (cause detail test : Nat) : Prop :=
  ((n.sa.lock = none ∨ n.sa.lock.map SafeLock.cause = some 6) → m.sa.lock = some ⟨cause, detail, cnNow n % 65536⟩) ∧
  (∀ l, n.sa.lock = some l → l.cause ≠ 6 → m.sa.lock = some l) ∧
  Counted n m (R.SF_CNT 2) ∧ rd m R.SF_DIAG = BitVec.ofNat 32 test ∧ (safeOut m 0).on = false ∧ (safeOut m 1).on = false

/-- The filtered state of contact c after a sample that reads v (R424). -/
def contactAfter (n : Node) (vbat v c : Nat) : Bool :=
  let x := contact n c
  let w := if blanked n c then x.last else operated vbat v
  if x.filt != w ∧ filtSamples n (c / 2) ≤ x.cnt + 1 then w else x.filt

/-- Table SF-1 for a change of the filtered states of a pair's contacts: the state after it. -/
def tableSF1 (st : PairSt) (a b : Bool) : PairSt :=
  match st with
  | .rest => if a && b then .tripped else .one
  | .one => if a && b then .tripped else if !a && !b then .rest else .return
  | .tripped => if !a && !b then .rest else .return
  | .return => if a && b then .tripped else if !a && !b then .rest else .return
  | .unused => .unused
  | .fault => .fault

/-- A sample of the safety inputs: every pair in use moves as Table SF-1 states on its filtered contacts, low VBAT switches the
outputs off, and both outputs follow their demand at once (R422, R424, R425, R426, R430). -/
def Clause.SafetySample : Prop :=
  ∀ (s : State) (vbat r0 r1 : BitVec 16) (contacts : List (BitVec 16)) (v : Nat → Nat), sfOn s.node → (∀ c, v c = (contacts.map BitVec.toNat).getD c 0) →
    Completes (.safetyInputSample vbat contacts r0 r1) s (fun m => AtDemand m ∧ m.sa.vbat = vbat.toNat
      ∧ (vbat.toNat < 450 → m.sa.uvlo = true ∧ (safeOut m 0).on = false ∧ (safeOut m 1).on = false)
      ∧ m.sa.states.head? = some (safeStateByte m)
      ∧ ∀ k < 8, (pairOf s.node k).st ≠ .unused → ∀ a b, a = contactAfter s.node vbat.toNat (v (2 * k)) (2 * k) →
          b = contactAfter s.node vbat.toNat (v (2 * k + 1)) (2 * k + 1) →
          (contact m (2 * k)).filt = a ∧ (contact m (2 * k + 1)).filt = b
          ∧ (pairOf m k).st = if a = (contact s.node (2 * k)).filt ∧ b = (contact s.node (2 * k + 1)).filt then (pairOf s.node k).st
              else tableSF1 (pairOf s.node k).st a b)

/-- The faults that lock the channel out, each with its cause, detail and test: a test pulse, a discrepancy, a dark test, a diagnostic
and the start-up test; a start-up test that passes lets the outputs follow their demand, and VBAT back at 4.5 V starts one (R423, R425,
R427, R428, R430, R441). -/
def Clause.SafetyFaults : Prop :=
  ∀ s : State, sfOn s.node →
    (∀ (o : Fin 2) (rest : BitVec 16) (c : Fin 16), (pairOf s.node (c.val / 2)).st ≠ .unused → feeds s.node c.val = o.val → rest = BitVec.twoPow 16 c.val →
      ((contact s.node c.val).tpBad = 1 → Completes (.testPulse o rest) s (fun m => LocksOut s.node m 2 c.val 5 ∧ (contact m c.val).tpErr = true
        ∧ Counted s.node m (R.SF_CNT 5))) ∧
      ((contact s.node c.val).tpBad = 0 → Completes (.testPulse o rest) s (fun m => (contact m c.val).tpBad = 1 ∧ m.sa.lock = s.node.sa.lock ∧ AtDemand m
        ∧ .pin "TPO" o.val false ∈ m.out))) ∧
    (∀ (k : Fin 8) t, (pairOf s.node k.val).disc = some t → discSamples s.node k.val ≤ t → (pairOf s.node k.val).st = .one ∨ (pairOf s.node k.val).st = .return →
      s.node.sa.uvlo = false → Completes (.discrepancyExpiry k) s (fun m => (pairOf m k.val).st = .fault ∧ LocksOut s.node m 1 k.val 7)) ∧
    (∀ k : Fin 2, (safeOut s.node k.val).on → Completes (.darkTest k true) s (fun m => LocksOut s.node m 4 k.val 6) ∧
      Completes (.darkTest k false) s (fun m => (safeOut m k.val).darkOk = true ∧ m.sa.lock = s.node.sa.lock ∧ AtDemand m)) ∧
    (∀ test : Fin 8, Completes (.periodicDiagnostic test true) s (fun m => m = quiet s.node) ∧
      (1 ≤ test.val → test.val ≤ 4 → Completes (.periodicDiagnostic test false) s (fun m => LocksOut s.node m 5 test.val test.val))) ∧
    (s.node.sa.testing →
      Completes (.startupTest 0 0 0) s (fun m => m.sa.started = true ∧ m.sa.testing = false ∧ AtDemand m ∧ m.sa.lock = s.node.sa.lock) ∧
      (∀ (c : Fin 16) high diag, (pairOf s.node (c.val / 2)).st ≠ .unused → Completes (.startupTest (BitVec.twoPow 16 c.val) high diag) s (fun m =>
        LocksOut s.node m 2 c.val 5)) ∧
      (∀ (k : Fin 2) diag, Completes (.startupTest 0 (BitVec.twoPow 2 k.val) diag) s (fun m => LocksOut s.node m 3 k.val 6)) ∧
      (∀ diag : Fin 8, 1 ≤ diag.val → diag.val ≤ 4 → Completes (.startupTest 0 0 diag) s (fun m => LocksOut s.node m 5 diag.val diag.val))) ∧
    (∀ vbat : BitVec 16, s.node.sa.uvlo → 450 ≤ vbat.toNat → Completes (.vbatRecovery vbat) s (fun m => m.sa.uvlo = false ∧ m.sa.vbat = vbat.toNat
      ∧ (s.node.sa.lock = none → s.node.sa.block.isSome → m.sa.testing = true ∧ m.sa.started = false) ∧ AtDemand m))

/-- Deliberate reset and the records of others: SRESET_N low for 0.5 s to 2.0 s clears a lock-out when no fault is present and is
refused otherwise; the SAFETY role's request computes the reset code, which expires; a node silent for 160 cycles is a line trip (R431 to
R433, R438, R439). -/
def Obligations.SafetyReset : Prop :=
  ∀ s : State,
    (∀ (l : SafeLock) (low : BitVec 32), sfOn s.node → s.node.sa.lock = some l →
      (500 ≤ low.toNat → low.toNat ≤ 2000 → noFault s.node → Completes (.sresetRelease low true) s (fun m => m.sa.lock = none
        ∧ gf m R.SF_RSTSTAT F.SF_RSTSTAT_SRC = 1 ∧ Counted s.node m (R.SF_CNT 3) ∧ AtDemand m
        ∧ ∀ k < 8, (pairOf m k).st = if (pairOf s.node k).st = .fault then .rest else (pairOf s.node k).st)) ∧
      (500 ≤ low.toNat → low.toNat ≤ 2000 → noFault s.node = false → Completes (.sresetRelease low true) s (fun m => m.sa.lock = some l
        ∧ gf m R.SF_RSTSTAT F.SF_RSTSTAT_REJECT = 1 ∧ Counted s.node m (R.SF_CNT 4))) ∧
      (2000 < low.toNat → Completes (.sresetRelease low true) s (fun m => m.sa.lock = some l ∧ gf m R.SF_RSTSTAT F.SF_RSTSTAT_REJECT = 2)) ∧
      (low.toNat < 500 → Completes (.sresetRelease low true) s (fun m => m = quiet s.node))) ∧
    (∀ l : SafeLock, lineOn s.node → sfOn s.node → s.node.sa.lock = some l → Completes (.sfrstRequest 4) s (fun m =>
      m.sa.code = some (crc32c (beBytes 8 s.node.uid.toNat ++ beBytes 6 (cnNow s.node) ++ beBytes 1 l.cause), 0) ∧ m.sa.lock = some l ∧ m.out.length = 1)) ∧
    (∀ role : Fin 5, role.val ≠ 4 → lineOn s.node → Completes (.sfrstRequest role) s (fun m => m.sa = s.node.sa)) ∧
    (sfOn s.node → Completes .resetCodeExpiry s (fun m => m.sa.code = none ∧ m.sa.lock = s.node.sa.lock)) ∧
    (∀ (k : Fin 513) (m₀ : SafeMon), m₀ = mon s.node k.val → sfOn s.node → m₀.mon → m₀.tmo = false → 160 ≤ m₀.age →
      Completes (.safetyNodeTimeout k) s (fun m => (mon m k.val).tmo = true ∧ Counted s.node m (R.SF_CNT 9) ∧ m.sa.line.isSome
        ∧ (safeOut m 0).on = false ∧ (safeOut m 1).on = false))

/-- The frame of the safety channel's commands: block SF and what PX keeps of the channel, outputs and the logs; SFRST_REQUEST by
another than the SAFETY role also the counter of refused writes. -/
def Clause.SafetyFrame : Prop :=
  ∀ (s t : State) (v a b : BitVec 16) (cs : List (BitVec 16)) (o : Fin 2) (x : Bool) (k : Fin 8) (h : BitVec 2) (low : BitVec 32) (role : Fin 5)
      (j : Fin 513) (cmd : Instr), exec cmd s = .next t →
    (cmd ∈ ([.safetyInputSample v cs a b, .testPulse o v, .discrepancyExpiry k, .darkTest o x, .startupTest v h k, .vbatRecovery v,
        .sresetRelease low x, .resetCodeExpiry, .safetyNodeTimeout j, .periodicDiagnostic k x] : List Instr) →
      Frame (logParts ++ [.out, .sa]) (blocks [6, 8, 16]) s.node t.node ∧ t.pending = s.pending) ∧
    (cmd = .sfrstRequest role → Frame (logParts ++ [.out, .sa]) (blocks [6, 8, 9, 10, 16]) s.node t.node ∧ t.pending = s.pending)

/-- States of the line ports and of the pair port: training, failures, link loss. -/
def Obligations.LinePorts : Prop := Clause.LinePortTraining ∧ Clause.PairPortTraining ∧ Clause.LinePortLinkLoss

/-- A cycle boundary, the end of the image hold, and the failure of a die. -/
def Obligations.NodeBoundary : Prop := Clause.BoundaryRuns ∧ Clause.ImageHoldExpires ∧ Clause.DiesFail

/-- Indirect queue operations, weirs and log paths. -/
def Obligations.QueueOperations : Prop := Clause.QueueOperations ∧ Clause.WeirOperations ∧ Clause.LogPaths

/-- Direct register access: what a read returns and clears, what a write changes, and which writes are refused. -/
def Obligations.RegisterAccess : Prop := Clause.RegisterReads ∧ Clause.RegisterWrites ∧ Clause.RefusedWrites

/-- Remote windows, ring doorbells, the DRAM aperture, QSPI words and interface resets. -/
def Obligations.HostInterfaces : Prop := Clause.RemoteWindows ∧ Clause.RingDoorbells ∧ Clause.ApertureAndQspi ∧ Clause.InterfaceResets

/-- Command rings: how a command starts, what each command of Table HB-6 answers, and what its response does. -/
def Obligations.HostCommands : Prop := Clause.ResponseEndsCommand ∧ Clause.CommandStarts ∧ Clause.CommandSet

/-- Load switches: demands, limp-home, undervoltage and protection. -/
def Obligations.LoadSwitches : Prop := Clause.LoadSwitchDemands ∧ Clause.LoadSwitchProtection

/-- Sessions, keys and the console. -/
def Obligations.Sessions : Prop := Clause.SessionCommands ∧ Clause.SessionTimes ∧ Clause.KeyCommands ∧ Clause.ConsoleCommands

/-- The register bridge between nodes: records, messages and time limits. -/
def Obligations.Bridge : Prop := Clause.BridgeRecords ∧ Clause.BridgeMessages ∧ Clause.BridgeTimes

/-- Resets of every kind, the boot, and wakes. -/
def Obligations.ResetsAndBoots : Prop := Clause.NodeResets ∧ Clause.Boots ∧ Clause.Wakes

/-- Power targets, power failure, hold-up and the timers of the island. -/
def Obligations.PowerStates : Prop := Clause.PowerTargets ∧ Clause.PowerEvents

/-- Cycle start frames: what is sent says its cycle, what is received is checked and kept. -/
def Obligations.CycleStart : Prop := Clause.CsfSaysItsCycle ∧ Clause.CsfReceive ∧ Clause.LineTimes

/-- Static slots, the service slot and mini-slots of the line cycle. -/
def Obligations.LineSlots : Prop := Clause.StaticSlots ∧ Clause.OriginatorSlots ∧ Clause.NotPermittedDropped ∧ Clause.MiniSlots

/-- The time base: ticks, pulses, captures, delay exchanges (the tick on an empty queue is the model's choice, log entry 29). -/
def Obligations.TimeBase : Prop := Clause.TimeBaseCommands ∧ Clause.DelayExchanges ∧ Clause.TickOnEmptyQueue

/-- Inauguration: beacons, the cold start, and the coupling of trains. -/
def Obligations.Inauguration : Prop := Clause.ColdStart ∧ Clause.Coupling

/-- Laps of the leader: how they start, what a node changes in passing, and what returns. -/
def Obligations.Laps : Prop := Clause.LapStarts ∧ Clause.LapChanges ∧ Clause.LapFrames

/-- The sequencer: checks of proposals, their order, commit lists and image recovery. -/
def Obligations.Proposals : Prop := Clause.ProposalChecks ∧ Clause.ProposalOrder ∧ Clause.SequencerCommands

/-- Train sleep rounds and the dying gasp. -/
def Obligations.SleepRounds : Prop := Clause.SleepRounds ∧ Clause.RoundFrames ∧ Clause.GaspPasses ∧ Clause.RoundReads

/-- Node pairs: records, take-over and hand-back of the active token. -/
def Obligations.NodePairs : Prop := Clause.PairRecords ∧ Clause.PairTakeOver ∧ Clause.HandBack

/-- Milnak: scalar and control instructions. -/
def Obligations.MilnakScalar : Prop := Clause.MilnakScalar ∧ Clause.MilnakControl

/-- Milnak: memory, queue and lane instructions. -/
def Obligations.MilnakMemory : Prop := Clause.MilnakMemory ∧ Clause.MilnakLanes

/-- Milnak: vector instructions, and their trap on an engine without a vector unit. -/
def Obligations.MilnakVector : Prop := Clause.MilnakVector ∧ Clause.VectorNeedsVEngine

/-- Milnak: system instructions, how a run starts, ends and traps, and the loader. -/
def Obligations.MilnakRuns : Prop := Clause.MilnakSystem ∧ Clause.MilnakRunEnds ∧ Clause.MilnakRuns

/-- The caddy: staging, commit, rollback and verification of blends, and safety parameter blocks. -/
def Obligations.Blends : Prop := Clause.BlendCommands ∧ Clause.SafetyBlocks

/-- The car star: states of its branches, and its SYNC, STATUS and slot frames. -/
def Obligations.CarStar : Prop := Clause.StarBranches ∧ Clause.StarSlots

/-- Ethernet MACs: receiving, transmitting, link and verification. -/
def Obligations.Ethernet : Prop := Clause.EthernetReceive ∧ Clause.EthernetTransmit ∧ Clause.EthernetLink

/-- CAN FD controllers: receiving, receive objects and their locks, transmitting. -/
def Obligations.CanFrames : Prop := Clause.CanReceive ∧ Clause.ObjectLocks ∧ Clause.CanTransmit

/-- The safety channel: samples of its inputs, its outputs, and the faults that lock it out. -/
def Obligations.SafetyFaults : Prop := Clause.SafetySample ∧ Clause.SafetyFaults

/-- What the commands of the line, of inauguration, of the sequencer and of redundancy leave unchanged. -/
def Obligations.LineFrames : Prop := Clause.LinePortFrame ∧ Clause.LineCycleFrame ∧ Clause.TimeBaseFrame ∧ Clause.InaugurationFrame ∧ Clause.SequencerFrame ∧ Clause.RedundancyFrame

/-- What the commands of power, sleep rounds, the safety channel and the load switches leave unchanged. -/
def Obligations.PowerFrames : Prop := Clause.PowerFrame ∧ Clause.RoundFrame ∧ Clause.SafetyFrame ∧ Clause.LoadSwitchFrame

/-- What the commands of queues, sessions, the bridge, the caddy and Milnak leave unchanged. -/
def Obligations.HostFrames : Prop := Clause.QueueManagerFrame ∧ Clause.SecurityFrame ∧ Clause.BridgeFrame ∧ Clause.CaddyFrame ∧ Clause.MilnakFrame

/-- What the commands of the star, Ethernet, CAN and audio leave unchanged. -/
def Obligations.PortFrames : Prop := Clause.StarFrame ∧ Clause.EthernetFrame ∧ Clause.CanFrameRule ∧ Clause.AudioFrame
end

