-- ==== Sys2Proof/Laws/Frames.lean ====
section
/-! SUPPORT. Frames the node builds, read back: each header field, the payload, the CRC and the tag (R64, R87). -/

namespace Sys2Proof.Machine

theorem leBytes_length (n v : Nat) : (leBytes n v).length = n := by
  induction n generalizing v with
  | zero => rfl
  | succ n ih => simp [leBytes, ih]

theorem beBytes_length (n v : Nat) : (beBytes n v).length = n := by simp [beBytes, leBytes_length]

theorem leVal_leBytes (n v : Nat) : leVal (leBytes n v) = v % 256 ^ n := by
  induction n generalizing v with
  | zero => simp [leBytes, leVal, Nat.mod_one]
  | succ n ih =>
    simp only [leBytes, leVal, ih, BitVec.toNat_ofNat, Nat.pow_succ 256]
    rw [Nat.mul_comm (256 ^ n) 256, Nat.mod_mul]

theorem beVal_beBytes (n v : Nat) : beVal (beBytes n v) = v % 256 ^ n := by
  simp [beVal, beBytes, leVal_leBytes]

theorem cut_length (b : List Byte) (off n : Nat) : (cut b off n).length = n := by
  simp only [cut, List.length_append, List.length_replicate, List.length_take]
  omega

/-- A cut that lies within the list. -/
theorem cut_eq (b : List Byte) (off n : Nat) (h : off + n ≤ b.length) : cut b off n = (b.drop off).take n := by
  have : n - ((b.drop off).take n).length = 0 := by simp only [List.length_take, List.length_drop]; omega
  simp only [cut, this, List.replicate_zero, List.append_nil]

/-- A cut that lies within the first of two lists. -/
theorem cut_append_left (a b : List Byte) (off n : Nat) (h : off + n ≤ a.length) : cut (a ++ b) off n = cut a off n := by
  rw [cut_eq _ _ _ (by simp; omega), cut_eq _ _ _ h, List.drop_append_of_le_length (by omega),
    List.take_append_of_le_length (by simp; omega)]

/-- A cut that lies past the first of two lists. -/
theorem cut_append_right (a b : List Byte) (off n : Nat) (h : a.length ≤ off) : cut (a ++ b) off n = cut b (off - a.length) n := by
  have : (a ++ b).drop off = b.drop (off - a.length) := by
    rw [List.drop_append, List.drop_eq_nil_of_le h, List.nil_append]
  simp [cut, this]

theorem cut_self (a : List Byte) (n : Nat) (h : a.length = n) : cut a 0 n = a := by
  rw [cut_eq _ _ _ (by omega)]; simp [← h]

theorem header_length (t i cl el f s l d m : Nat) : (header t i cl el f s l d m).length = 16 := by
  simp [header, beBytes_length]

theorem preamble_length : preamble.length = 8 := rfl

/-- The bytes of a frame before its CRC. -/
def frameHead (mode type : Nat) (hdr payload : List Byte) : List Byte := preamble ++ hdr ++ cut payload 0 (frameLen mode type - 28)

theorem frameHead_length (mode type : Nat) (hdr payload : List Byte) (h : hdr.length = 16) :
    (frameHead mode type hdr payload).length = 24 + (frameLen mode type - 28) := by
  simp [frameHead, preamble_length, h, cut_length]; omega

theorem buildFrame_eq (mode type : Nat) (hdr payload : List Byte) :
    buildFrame mode type hdr payload = frameHead mode type hdr payload
      ++ beBytes 4 (crc32 ((frameHead mode type hdr payload).drop 8)).toNat := by
  have h : (preamble ++ hdr ++ cut payload 0 (frameLen mode type - 28) ++ [0#8, 0#8, 0#8, 0#8]).take
      ((preamble ++ hdr ++ cut payload 0 (frameLen mode type - 28) ++ [0#8, 0#8, 0#8, 0#8]).length - 4)
      = frameHead mode type hdr payload := by
    rw [List.length_append, List.length_cons, List.length_cons, List.length_cons, List.length_cons, List.length_nil,
      Nat.add_sub_cancel, List.take_left']
    · rfl
    · rfl
  unfold buildFrame withCrc frameCrc
  simp only [h]
  rfl

/-- A header field of a frame built. -/
theorem cut_buildFrame_header (mode type : Nat) (hdr payload : List Byte) (h : hdr.length = 16) (off n : Nat) (lo : 8 ≤ off)
    (hi : off + n ≤ 24) : cut (buildFrame mode type hdr payload) off n = cut hdr (off - 8) n := by
  rw [buildFrame_eq, cut_append_left _ _ _ _ (by rw [frameHead_length _ _ _ _ h]; omega), frameHead,
    cut_append_left _ _ _ _ (by simp [preamble_length, h]; omega), cut_append_right _ _ _ _ (by rw [preamble_length]; omega), preamble_length]

/-- The payload of a frame built. -/
theorem cut_buildFrame_payload (mode type : Nat) (hdr payload : List Byte) (h : hdr.length = 16) (n : Nat)
    (hi : n ≤ frameLen mode type - 28) (hp : n ≤ payload.length) : cut (buildFrame mode type hdr payload) 24 n = payload.take n := by
  rw [buildFrame_eq, cut_append_left _ _ _ _ (by rw [frameHead_length _ _ _ _ h]; omega), frameHead,
    cut_append_right _ _ _ _ (by simp [preamble_length, h])]
  have : 24 - (preamble ++ hdr).length = 0 := by simp [preamble_length, h]
  rw [this, cut_eq _ _ _ (by rw [cut_length]; omega)]
  simp only [cut, List.drop_zero]
  rw [List.take_append_of_le_length (by simp; omega), List.take_take, Nat.min_eq_left hi]

/-- A frame built has a good CRC. -/
theorem crcClass_buildFrame (mode type : Nat) (hdr payload : List Byte) (h : hdr.length = 16) :
    crcClass (buildFrame mode type hdr payload) = .good := by
  have hl := frameHead_length mode type hdr payload h
  have e : (buildFrame mode type hdr payload).length = (frameHead mode type hdr payload).length + 4 := by
    rw [buildFrame_eq]; simp [beBytes_length]
  have hc : frameCrc (buildFrame mode type hdr payload) = crc32 ((frameHead mode type hdr payload).drop 8) := by
    unfold frameCrc
    rw [e, Nat.add_sub_cancel, buildFrame_eq, List.take_left']
    rfl
  unfold crcClass
  rw [hc, be, e, Nat.add_sub_cancel, buildFrame_eq, cut_append_right _ _ _ _ (Nat.le_refl _), Nat.sub_self,
    cut_self _ _ (beBytes_length 4 _), beVal_beBytes]
  have : BitVec.ofNat 32 ((crc32 ((frameHead mode type hdr payload).drop 8)).toNat % 256 ^ 4)
      = crc32 ((frameHead mode type hdr payload).drop 8) := by
    apply BitVec.eq_of_toNat_eq
    simp only [BitVec.toNat_ofNat]
    have := (crc32 ((frameHead mode type hdr payload).drop 8)).isLt
    omega
  rw [if_pos this]

/-- A tag the node writes under a key verifies (R87). -/
theorem tagOk_makeTag (n : Node) (cn c t i sub w : Nat) (covered : List Byte) (h : (keyAt n cn).isSome) :
    tagOk n cn c t i sub w covered (makeTag n cn c t i sub w covered) = true := by
  unfold tagOk makeTag
  cases hk : keyAt n cn with
  | none => rw [hk] at h; cases h
  | some k => simp

theorem makeTag_length (n : Node) (cn c t i sub w : Nat) (covered : List Byte) : (makeTag n cn c t i sub w covered).length = 8 := by
  unfold makeTag
  split
  · exact cut_length _ _ _
  · rfl

/-- A header field of a frame built, as a number. -/
theorem be_buildFrame (mode type : Nat) (hdr payload : List Byte) (h : hdr.length = 16) (off n : Nat) (lo : 8 ≤ off)
    (hi : off + n ≤ 24) : be (buildFrame mode type hdr payload) off n = be hdr (off - 8) n := by
  simp only [be, cut_buildFrame_header _ _ _ _ h off n lo hi]

/-- A tagged message in one frame, as a node with a key builds it (R80, R87). -/
def taggedFrame (n : Node) (c type index cnlo el src dest stream : Nat) (body : List Byte) : List Byte :=
  let h := header type index cnlo el 0xB0 src (body.length + 8) dest stream
  buildFrame 0 type h (body ++ makeTag n (rebuildCn (refCn n c) (be h 2 2)) c (be h 0 1) (be h 1 1) 0xFFFF (be h 6 2)
    (overlay (cut h 0 16) 5 [0#8] ++ body))

/-- It verifies. -/
theorem singleTagOk_taggedFrame (n : Node) (c type index cnlo el src dest stream : Nat) (body : List Byte)
    (ht : 8 ≤ type ∧ type ≤ 13) (hl : body.length ≤ 152)
    (hk : (keyAt n (rebuildCn (refCn n c) (be (header type index cnlo el 0xB0 src (body.length + 8) dest stream) 2 2))).isSome) :
    singleTagOk n c (taggedFrame n c type index cnlo el src dest stream body) = true := by
  have hh := header_length type index cnlo el 0xB0 src (body.length + 8) dest stream
  have hp : frameLen 0 type = 188 := by
    have : type ≠ 1 := by omega
    have h6 : ¬ type ≤ 6 := by omega
    simp [frameLen, this, h6, ht.1, ht.2]
  have hf : be (header type index cnlo el 0xB0 src (body.length + 8) dest stream) 5 1 = 0xB0 := by
    simp only [header]
    rw [be, cut_append_left _ _ _ _ (by simp [beBytes_length]), cut_append_left _ _ _ _ (by simp [beBytes_length]),
      cut_append_left _ _ _ _ (by simp [beBytes_length]), cut_append_left _ _ _ _ (by simp [beBytes_length]),
      cut_append_right _ _ _ _ (by simp [beBytes_length])]
    simp only [List.length_append, beBytes_length]
    decide
  have hlen : be (header type index cnlo el 0xB0 src (body.length + 8) dest stream) 8 2 = body.length + 8 := by
    simp only [header]
    rw [be, cut_append_left _ _ _ _ (by simp [beBytes_length]), cut_append_left _ _ _ _ (by simp [beBytes_length]),
      cut_append_right _ _ _ _ (by simp [beBytes_length])]
    simp only [List.length_append, beBytes_length]
    rw [cut_self _ _ (by simp [beBytes_length]), beVal_beBytes]
    omega
  unfold taggedFrame
  generalize header type index cnlo el 0xB0 src (body.length + 8) dest stream = h at *
  have key (T : List Byte) (off k : Nat) (lo : 8 ≤ off) (hi : off + k ≤ 24) : be (buildFrame 0 type h (body ++ T)) off k
      = be h (off - 8) k := be_buildFrame _ _ _ _ hh off k lo hi
  simp only [singleTagOk, fFirst, fLast, fFlags, chainTagOk, single, cnOf, fCnlo, fType, fSrc, fIndex, fLen]
  simp only [key _ 13 1 (by omega) (by omega), key _ 10 2 (by omega) (by omega), key _ 8 1 (by omega) (by omega),
    key _ 14 2 (by omega) (by omega), key _ 9 1 (by omega) (by omega), key _ 16 2 (by omega) (by omega),
    cut_buildFrame_header _ _ _ _ hh 8 16 (by omega) (by omega), Nat.reduceSub, hf, hlen]
  have hm : min 160 (body.length + 8) = body.length + 8 := by omega
  rw [hm, cut_buildFrame_payload _ _ _ _ hh _ (by omega) (by simp [makeTag_length]), List.take_of_length_le (by simp [makeTag_length])]
  have hh5 : be (cut h 0 16) 5 1 = 0xB0 := by rw [cut_self _ _ hh, hf]
  rw [hh5]
  simp only [List.length_append, makeTag_length, Nat.add_sub_cancel]
  rw [List.take_left, List.drop_left, tagOk_makeTag _ _ _ _ _ _ _ _ hk]
  simp [bitOf, bits]

end Sys2Proof.Machine
end

