-- ==== Sys2Proof/Laws/Sparse.lean ====
section
/-! SUPPORT. Laws of the sparse stores: a read after a write to the same key gives the value written, a write leaves
every other key alone, and every write keeps the canonical form. -/

namespace Sys2Proof.Machine

variable {α : Type}

theorem dropKey_cons (j : Nat) (v : α) (m : Sparse α) (k : Nat) :
    dropKey ((j, v) :: m) k = if j = k then dropKey m k else (j, v) :: dropKey m k := by
  unfold dropKey
  by_cases h : j = k
  · rw [List.filter_cons_of_neg (by simp [h]), if_pos h]
  · rw [List.filter_cons_of_pos (by simp [h]), if_neg h]

theorem look_dropKey_self (d : α) (m : Sparse α) (k : Nat) : look d (dropKey m k) k = d := by
  induction m with
  | nil => rfl
  | cons e m ih =>
    rw [dropKey_cons]
    split
    · exact ih
    · rename_i h; simp [look, h, ih]

theorem look_dropKey_ne (d : α) (m : Sparse α) {k k' : Nat} (h : k' ≠ k) :
    look d (dropKey m k) k' = look d m k' := by
  induction m with
  | nil => rfl
  | cons e m ih =>
    obtain ⟨j, v⟩ := e
    rw [dropKey_cons]
    split
    · rename_i hj
      have hjk : j ≠ k' := fun e => h (e ▸ hj)
      simp only [look, hjk, if_false, ih]
    · simp only [look, ih]

theorem look_insertKey_ne (d : α) (m : Sparse α) {k k' : Nat} (v : α) (h : k' ≠ k) :
    look d (insertKey k v m) k' = look d m k' := by
  induction m with
  | nil => simp [insertKey, look, Ne.symm h]
  | cons e m ih =>
    obtain ⟨j, w⟩ := e
    unfold insertKey
    split
    · simp [look, Ne.symm h]
    · by_cases hj : j = k'
      · simp [look, hj]
      · simp [look, hj, ih]

theorem look_insertKey_self (d : α) (m : Sparse α) (k : Nat) (v : α) (h : ∀ e ∈ m, e.1 ≠ k) :
    look d (insertKey k v m) k = v := by
  induction m with
  | nil => simp [insertKey, look]
  | cons e m ih =>
    obtain ⟨j, w⟩ := e
    have hj : j ≠ k := h (j, w) (by simp)
    unfold insertKey
    split
    · simp [look]
    · simp [look, hj, ih (fun e he => h e (by simp [he]))]

theorem mem_dropKey {m : Sparse α} {k : Nat} {e : Nat × α} (h : e ∈ dropKey m k) : e ∈ m ∧ e.1 ≠ k := by
  unfold dropKey at h
  simpa using h

/-- A read after a write to the same key gives the value written. -/
@[simp] theorem look_put_self [DecidableEq α] (d : α) (m : Sparse α) (k : Nat) (v : α) :
    look d (put d m k v) k = v := by
  unfold put
  split
  · rename_i h; rw [look_dropKey_self, h]
  · exact look_insertKey_self _ _ _ _ (fun e he => (mem_dropKey he).2)

/-- A write leaves every other key alone, whatever the two defaults. -/
theorem look_put_ne [DecidableEq α] (d d' : α) (m : Sparse α) {k k' : Nat} (v : α) (h : k' ≠ k) :
    look d' (put d m k v) k' = look d' m k' := by
  unfold put
  split
  · exact look_dropKey_ne _ _ h
  · rw [look_insertKey_ne _ _ _ h, look_dropKey_ne _ _ h]

theorem look_put [DecidableEq α] (d : α) (m : Sparse α) (k k' : Nat) (v : α) :
    look d (put d m k v) k' = if k' = k then v else look d m k' := by
  split
  · rename_i h; subst h; simp
  · rename_i h; exact look_put_ne _ _ _ _ h

/-! ### The canonical form -/

/-- Every key of the store is above `k`. -/
def above (k : Nat) (m : Sparse α) : Prop := ∀ e ∈ m, k < e.1

theorem rising_cons (k : Nat) (v : α) (m : Sparse α) :
    rising ((k, v) :: m) = true ↔ above k m ∧ rising m = true := by
  induction m generalizing k v with
  | nil => simp [rising, above]
  | cons e m ih =>
    obtain ⟨j, w⟩ := e
    simp only [rising, Bool.and_eq_true, decide_eq_true_eq]
    constructor
    · rintro ⟨h, hm⟩
      refine ⟨?_, hm⟩
      intro e he
      rcases List.mem_cons.1 he with rfl | he
      · exact h
      · exact Nat.lt_trans h (((ih j w).1 hm).1 e he)
    · rintro ⟨h, hm⟩
      exact ⟨h (j, w) (by simp), hm⟩

theorem rising_dropKey (m : Sparse α) (k : Nat) (h : rising m = true) : rising (dropKey m k) = true := by
  induction m with
  | nil => rfl
  | cons e m ih =>
    obtain ⟨j, w⟩ := e
    have ⟨ha, hm⟩ := (rising_cons j w m).1 h
    rw [dropKey_cons]
    split
    · exact ih hm
    · exact (rising_cons _ _ _).2 ⟨fun e he => ha e (mem_dropKey he).1, ih hm⟩

theorem above_insertKey {m : Sparse α} {j k : Nat} {v : α} (hk : j < k) (h : above j m) :
    above j (insertKey k v m) := by
  induction m with
  | nil => intro e he; simp [insertKey] at he; subst he; exact hk
  | cons e m ih =>
    obtain ⟨i, w⟩ := e
    unfold insertKey
    split
    · intro x hx
      rcases List.mem_cons.1 hx with rfl | hx
      · exact hk
      · exact h x hx
    · intro x hx
      rcases List.mem_cons.1 hx with rfl | hx
      · exact h _ (by simp)
      · exact ih (fun y hy => h y (by simp [hy])) x hx

theorem rising_insertKey (m : Sparse α) (k : Nat) (v : α) (h : rising m = true) (hk : ∀ e ∈ m, e.1 ≠ k) :
    rising (insertKey k v m) = true := by
  induction m with
  | nil => rfl
  | cons e m ih =>
    obtain ⟨j, w⟩ := e
    have ⟨ha, hm⟩ := (rising_cons j w m).1 h
    have hjk : j ≠ k := hk (j, w) (by simp)
    unfold insertKey
    split
    · rename_i hlt
      refine (rising_cons _ _ _).2 ⟨?_, h⟩
      intro e he
      rcases List.mem_cons.1 he with rfl | he
      · exact hlt
      · exact Nat.lt_trans hlt (ha e he)
    · rename_i hlt
      refine (rising_cons _ _ _).2 ⟨above_insertKey (by omega) ha, ih hm (fun e he => hk e (by simp [he]))⟩

theorem mem_insertKey {m : Sparse α} {k : Nat} {v : α} {e : Nat × α} (h : e ∈ insertKey k v m) :
    e = (k, v) ∨ e ∈ m := by
  induction m with
  | nil => simp [insertKey] at h; exact .inl h
  | cons f m ih =>
    obtain ⟨j, w⟩ := f
    unfold insertKey at h
    split at h
    · rcases List.mem_cons.1 h with h | h
      · exact .inl h
      · exact .inr h
    · rcases List.mem_cons.1 h with h | h
      · exact .inr (by simp [h])
      · rcases ih h with h | h
        · exact .inl h
        · exact .inr (by simp [h])

/-- Writing keeps the canonical form. -/
theorem canonical_put [DecidableEq α] (d : Nat → α) (m : Sparse α) (k : Nat) (v : α)
    (h : canonical d m = true) : canonical d (put (d k) m k v) = true := by
  unfold canonical at *
  simp only [Bool.and_eq_true, List.all_eq_true, decide_eq_true_eq] at *
  obtain ⟨hr, ha⟩ := h
  unfold put
  split
  · exact ⟨rising_dropKey _ _ hr, fun e he => ha e (mem_dropKey he).1⟩
  · rename_i hv
    refine ⟨rising_insertKey _ _ _ (rising_dropKey _ _ hr) (fun e he => (mem_dropKey he).2), fun e he => ?_⟩
    rcases mem_insertKey he with rfl | he
    · exact hv
    · exact ha e (mem_dropKey he).1

/-- Writing bytes keeps the canonical form of a byte store. -/
theorem canonical_writeBytes (m : Sparse Byte) (a : Nat) (bs : List Byte)
    (h : canonical (fun _ => 0#8) m = true) : canonical (fun _ => 0#8) (writeBytes m a bs) = true := by
  induction bs generalizing m a with
  | nil => exact h
  | cons b bs ih => exact ih _ _ (canonical_put (fun _ => 0#8) m a b h)

/-- A byte outside the bytes written reads as before. -/
theorem look_writeBytes_ne (m : Sparse Byte) (a : Nat) (bs : List Byte) (k : Nat)
    (h : k < a ∨ a + bs.length ≤ k) : look 0#8 (writeBytes m a bs) k = look 0#8 m k := by
  induction bs generalizing m a with
  | nil => rfl
  | cons b bs ih =>
    have hl : (b :: bs).length = bs.length + 1 := rfl
    unfold writeBytes
    rw [ih _ _ (by omega), look_put_ne _ _ _ _ (by omega)]

/-- A byte written reads as written. -/
theorem look_writeBytes (m : Sparse Byte) (a : Nat) (bs : List Byte) (i : Nat) (h : i < bs.length) :
    look 0#8 (writeBytes m a bs) (a + i) = bs.getD i 0#8 := by
  induction bs generalizing m a i with
  | nil => simp at h
  | cons b bs ih =>
    unfold writeBytes
    cases i with
    | zero => rw [look_writeBytes_ne _ _ _ _ (by omega)]; simp
    | succ i =>
      have := ih (put 0#8 m a b) (a + 1) i (by simpa using h)
      simpa [Nat.add_assoc, Nat.add_comm 1 i] using this

end Sys2Proof.Machine
end

