-- ==== Sys2Proof/Laws/Regs.lean ====
section
/-! SUPPORT. Laws of register fields and registers: reading what was written, and what a write leaves alone. -/

namespace Sys2Proof.Machine

/-! ### Fields of a word -/

theorem bits_testBit (v lo w i : Nat) : (bits v lo w).testBit i = (decide (i < w) && v.testBit (lo + i)) := by
  unfold bits
  rw [Nat.testBit_mod_two_pow, Nat.testBit_div_two_pow, Nat.add_comm]

theorem bits_lt (v lo w : Nat) : bits v lo w < 2 ^ w := Nat.mod_lt _ (Nat.two_pow_pos w)

theorem fget_lt (v : BitVec 32) (f : Field) : fget v f < 2 ^ f.width := bits_lt _ _ _

theorem fset_getLsbD (v : BitVec 32) (f : Field) (x i : Nat) :
    (fset v f x).getLsbD i =
      (decide (i < 32) && if f.lo ≤ i ∧ i < f.lo + f.width then x.testBit (i - f.lo) else v.getLsbD i) := by
  unfold fset
  by_cases hi : i < 32
  · simp only [BitVec.getLsbD_or, BitVec.getLsbD_and, BitVec.getLsbD_not, BitVec.getLsbD_ofNat, hi, decide_true,
      Bool.true_and, Nat.testBit_mul_two_pow, Nat.testBit_two_pow_sub_one, Nat.testBit_mod_two_pow]
    by_cases h1 : f.lo ≤ i
    · by_cases h2 : i < f.lo + f.width
      · have h3 : i - f.lo < f.width := by omega
        simp [h1, h2, h3]
      · have h3 : ¬ i - f.lo < f.width := by omega
        simp [h1, h2, h3]
    · simp [h1]
  · simp [hi, BitVec.getLsbD_ofNat]

/-- Reading the field that was set gives the value, cut to the field's width. -/
theorem fget_fset_self (v : BitVec 32) (f : Field) (x : Nat) (h : f.lo + f.width ≤ 32) :
    fget (fset v f x) f = x % 2 ^ f.width := by
  apply Nat.eq_of_testBit_eq
  intro i
  unfold fget
  rw [bits_testBit, Nat.testBit_mod_two_pow]
  by_cases hi : i < f.width
  · have := fset_getLsbD v f x (f.lo + i)
    rw [BitVec.getLsbD] at this
    rw [this]
    have h1 : f.lo + i < 32 := by omega
    simp [hi, h1]
  · simp [hi]

/-- A field that does not overlap the field set reads as before. -/
theorem fget_fset_ne (v : BitVec 32) (f g : Field) (x : Nat)
    (h : g.lo + g.width ≤ f.lo ∨ f.lo + f.width ≤ g.lo) : fget (fset v f x) g = fget v g := by
  apply Nat.eq_of_testBit_eq
  intro i
  unfold fget
  rw [bits_testBit, bits_testBit]
  by_cases hi : i < g.width
  · have := fset_getLsbD v f x (g.lo + i)
    rw [BitVec.getLsbD] at this
    rw [this]
    have h1 : ¬ (f.lo ≤ g.lo + i ∧ g.lo + i < f.lo + f.width) := by omega
    by_cases h2 : g.lo + i < 32
    · simp [h1, h2, BitVec.getLsbD]
    · have : v.toNat.testBit (g.lo + i) = false := by
        have := BitVec.getLsbD_of_ge v (g.lo + i) (by omega)
        simpa [BitVec.getLsbD] using this
      simp [h2, this]
  · simp [hi]

/-! ### Registers -/

@[simp] theorem rd_wr_self (n : Node) (a : Nat) (v : BitVec 32) : rd (wr n a v) a = v := by
  simp [rd, wr]

theorem rd_wr_ne (n : Node) {a b : Nat} (v : BitVec 32) (h : b ≠ a) : rd (wr n a v) b = rd n b :=
  look_put_ne _ _ _ _ h

theorem rd_wr (n : Node) (a b : Nat) (v : BitVec 32) : rd (wr n a v) b = if b = a then v else rd n b := by
  split
  · rename_i h; subst h; simp
  · rename_i h; exact rd_wr_ne _ _ h

@[simp] theorem rd_sf_self (n : Node) (a : Nat) (f : Field) (x : Nat) : rd (sf n a f x) a = fset (rd n a) f x := by
  simp [sf]

theorem rd_sf_ne (n : Node) {a b : Nat} (f : Field) (x : Nat) (h : b ≠ a) : rd (sf n a f x) b = rd n b :=
  rd_wr_ne _ _ h

theorem rd_countBy_self (n : Node) (a k : Nat) :
    rd (countBy n a k) a = BitVec.ofNat 32 (min ((rd n a).toNat + k) 0xFFFFFFFF) := by
  simp [countBy]

theorem rd_countBy_ne (n : Node) {a b : Nat} (k : Nat) (h : b ≠ a) : rd (countBy n a k) b = rd n b :=
  rd_wr_ne _ _ h

theorem rd_count_self (n : Node) (a : Nat) :
    rd (count n a) a = BitVec.ofNat 32 (min ((rd n a).toNat + 1) 0xFFFFFFFF) := rd_countBy_self n a 1

theorem rd_count_ne (n : Node) {a b : Nat} (h : b ≠ a) : rd (count n a) b = rd n b := rd_countBy_ne n 1 h

/-- The field set reads as the value, cut to its width. -/
theorem gf_sf_self (n : Node) (a : Nat) (f : Field) (x : Nat) (h : f.lo + f.width ≤ 32) :
    gf (sf n a f x) a f = x % 2 ^ f.width := by
  simp [gf, fget_fset_self _ _ _ h]

/-- Another field of the register reads as before. -/
theorem gf_sf_field_ne (n : Node) (a : Nat) (f g : Field) (x : Nat)
    (h : g.lo + g.width ≤ f.lo ∨ f.lo + f.width ≤ g.lo) : gf (sf n a f x) a g = gf n a g := by
  simp [gf, fget_fset_ne _ _ _ _ h]

/-- A field of another register reads as before. -/
theorem gf_sf_ne (n : Node) {a b : Nat} (f g : Field) (x : Nat) (h : b ≠ a) : gf (sf n a f x) b g = gf n b g := by
  simp [gf, rd_sf_ne _ _ _ h]

theorem gf_wr_ne (n : Node) {a b : Nat} (v : BitVec 32) (g : Field) (h : b ≠ a) : gf (wr n a v) b g = gf n b g := by
  simp [gf, rd_wr_ne _ _ h]

/-- A node that differs only outside the registers reads the same. -/
theorem rd_congr {n m : Node} (h : m.regs = n.regs) (a : Nat) : rd m a = rd n a := by
  simp [rd, h]

theorem gf_congr {n m : Node} (h : m.regs = n.regs) (a : Nat) (f : Field) : gf m a f = gf n a f := by
  simp [gf, rd_congr h]

/-- Writing a register keeps the canonical form of the register map. -/
theorem canonical_wr (n : Node) (a : Nat) (v : BitVec 32) (h : canonical resetValue n.regs = true) :
    canonical resetValue (wr n a v).regs = true := canonical_put resetValue n.regs a v h

theorem canonical_sf (n : Node) (a : Nat) (f : Field) (x : Nat) (h : canonical resetValue n.regs = true) :
    canonical resetValue (sf n a f x).regs = true := canonical_wr n a _ h

end Sys2Proof.Machine
end

