-- ==== Sys2Proof/Laws/State.lean ====
section
/-! SUPPORT. One lemma per field of the node and per update: what each update sets, and that it leaves every other field as it
was.  All are true by definition. -/

namespace Sys2Proof.Machine

@[simp] theorem wr_uid (n : Node) (a : Nat) (v : BitVec 32) : (wr n a v).uid = n.uid := rfl
@[simp] theorem wr_regs (n : Node) (a : Nat) (v : BitVec 32) : (wr n a v).regs = put (resetValue a) n.regs a v := rfl
@[simp] theorem wr_force (n : Node) (a : Nat) (v : BitVec 32) : (wr n a v).force = n.force := rfl
@[simp] theorem wr_shadow (n : Node) (a : Nat) (v : BitVec 32) : (wr n a v).shadow = n.shadow := rfl
@[simp] theorem wr_dram (n : Node) (a : Nat) (v : BitVec 32) : (wr n a v).dram = n.dram := rfl
@[simp] theorem wr_image (n : Node) (a : Nat) (v : BitVec 32) : (wr n a v).image = n.image := rfl
@[simp] theorem wr_view (n : Node) (a : Nat) (v : BitVec 32) : (wr n a v).view = n.view := rfl
@[simp] theorem wr_free (n : Node) (a : Nat) (v : BitVec 32) : (wr n a v).free = n.free := rfl
@[simp] theorem wr_out (n : Node) (a : Nat) (v : BitVec 32) : (wr n a v).out = n.out := rfl
@[simp] theorem wr_qm (n : Node) (a : Nat) (v : BitVec 32) : (wr n a v).qm = n.qm := rfl
@[simp] theorem wr_mil (n : Node) (a : Nat) (v : BitVec 32) : (wr n a v).mil = n.mil := rfl
@[simp] theorem wr_tb (n : Node) (a : Nat) (v : BitVec 32) : (wr n a v).tb = n.tb := rfl
@[simp] theorem wr_line (n : Node) (a : Nat) (v : BitVec 32) : (wr n a v).line = n.line := rfl
@[simp] theorem wr_inn (n : Node) (a : Nat) (v : BitVec 32) : (wr n a v).inn = n.inn := rfl
@[simp] theorem wr_du (n : Node) (a : Nat) (v : BitVec 32) : (wr n a v).du = n.du := rfl
@[simp] theorem wr_au (n : Node) (a : Nat) (v : BitVec 32) : (wr n a v).au = n.au := rfl
@[simp] theorem wr_cf (n : Node) (a : Nat) (v : BitVec 32) : (wr n a v).cf = n.cf := rfl
@[simp] theorem wr_se (n : Node) (a : Nat) (v : BitVec 32) : (wr n a v).se = n.se := rfl
@[simp] theorem wr_st (n : Node) (a : Nat) (v : BitVec 32) : (wr n a v).st = n.st := rfl
@[simp] theorem wr_em (n : Node) (a : Nat) (v : BitVec 32) : (wr n a v).em = n.em := rfl
@[simp] theorem wr_cb (n : Node) (a : Nat) (v : BitVec 32) : (wr n a v).cb = n.cb := rfl
@[simp] theorem wr_sa (n : Node) (a : Nat) (v : BitVec 32) : (wr n a v).sa = n.sa := rfl
@[simp] theorem wr_ls (n : Node) (a : Nat) (v : BitVec 32) : (wr n a v).ls = n.ls := rfl
@[simp] theorem wr_pw (n : Node) (a : Nat) (v : BitVec 32) : (wr n a v).pw = n.pw := rfl
@[simp] theorem wr_hb (n : Node) (a : Nat) (v : BitVec 32) : (wr n a v).hb = n.hb := rfl
@[simp] theorem wr_holdRun (n : Node) (a : Nat) (v : BitVec 32) : (wr n a v).holdRun = n.holdRun := rfl
@[simp] theorem wr_up (n : Node) (a : Nat) (v : BitVec 32) : (wr n a v).up = n.up := rfl
@[simp] theorem ff_wr (n : Node) (a : Nat) (v : BitVec 32) (r : Nat) (g : Field) : ff (wr n a v) r g = ff n r g := rfl

@[simp] theorem sf_uid (n : Node) (a : Nat) (f : Field) (x : Nat) : (sf n a f x).uid = n.uid := rfl
@[simp] theorem sf_force (n : Node) (a : Nat) (f : Field) (x : Nat) : (sf n a f x).force = n.force := rfl
@[simp] theorem sf_shadow (n : Node) (a : Nat) (f : Field) (x : Nat) : (sf n a f x).shadow = n.shadow := rfl
@[simp] theorem sf_dram (n : Node) (a : Nat) (f : Field) (x : Nat) : (sf n a f x).dram = n.dram := rfl
@[simp] theorem sf_image (n : Node) (a : Nat) (f : Field) (x : Nat) : (sf n a f x).image = n.image := rfl
@[simp] theorem sf_view (n : Node) (a : Nat) (f : Field) (x : Nat) : (sf n a f x).view = n.view := rfl
@[simp] theorem sf_free (n : Node) (a : Nat) (f : Field) (x : Nat) : (sf n a f x).free = n.free := rfl
@[simp] theorem sf_out (n : Node) (a : Nat) (f : Field) (x : Nat) : (sf n a f x).out = n.out := rfl
@[simp] theorem sf_qm (n : Node) (a : Nat) (f : Field) (x : Nat) : (sf n a f x).qm = n.qm := rfl
@[simp] theorem sf_mil (n : Node) (a : Nat) (f : Field) (x : Nat) : (sf n a f x).mil = n.mil := rfl
@[simp] theorem sf_tb (n : Node) (a : Nat) (f : Field) (x : Nat) : (sf n a f x).tb = n.tb := rfl
@[simp] theorem sf_line (n : Node) (a : Nat) (f : Field) (x : Nat) : (sf n a f x).line = n.line := rfl
@[simp] theorem sf_inn (n : Node) (a : Nat) (f : Field) (x : Nat) : (sf n a f x).inn = n.inn := rfl
@[simp] theorem sf_du (n : Node) (a : Nat) (f : Field) (x : Nat) : (sf n a f x).du = n.du := rfl
@[simp] theorem sf_au (n : Node) (a : Nat) (f : Field) (x : Nat) : (sf n a f x).au = n.au := rfl
@[simp] theorem sf_cf (n : Node) (a : Nat) (f : Field) (x : Nat) : (sf n a f x).cf = n.cf := rfl
@[simp] theorem sf_se (n : Node) (a : Nat) (f : Field) (x : Nat) : (sf n a f x).se = n.se := rfl
@[simp] theorem sf_st (n : Node) (a : Nat) (f : Field) (x : Nat) : (sf n a f x).st = n.st := rfl
@[simp] theorem sf_em (n : Node) (a : Nat) (f : Field) (x : Nat) : (sf n a f x).em = n.em := rfl
@[simp] theorem sf_cb (n : Node) (a : Nat) (f : Field) (x : Nat) : (sf n a f x).cb = n.cb := rfl
@[simp] theorem sf_sa (n : Node) (a : Nat) (f : Field) (x : Nat) : (sf n a f x).sa = n.sa := rfl
@[simp] theorem sf_ls (n : Node) (a : Nat) (f : Field) (x : Nat) : (sf n a f x).ls = n.ls := rfl
@[simp] theorem sf_pw (n : Node) (a : Nat) (f : Field) (x : Nat) : (sf n a f x).pw = n.pw := rfl
@[simp] theorem sf_hb (n : Node) (a : Nat) (f : Field) (x : Nat) : (sf n a f x).hb = n.hb := rfl
@[simp] theorem sf_holdRun (n : Node) (a : Nat) (f : Field) (x : Nat) : (sf n a f x).holdRun = n.holdRun := rfl
@[simp] theorem sf_up (n : Node) (a : Nat) (f : Field) (x : Nat) : (sf n a f x).up = n.up := rfl
@[simp] theorem ff_sf (n : Node) (a : Nat) (f : Field) (x : Nat) (r : Nat) (g : Field) : ff (sf n a f x) r g = ff n r g := rfl

@[simp] theorem sbit_uid (n : Node) (a i : Nat) : (sbit n a i).uid = n.uid := rfl
@[simp] theorem sbit_force (n : Node) (a i : Nat) : (sbit n a i).force = n.force := rfl
@[simp] theorem sbit_shadow (n : Node) (a i : Nat) : (sbit n a i).shadow = n.shadow := rfl
@[simp] theorem sbit_dram (n : Node) (a i : Nat) : (sbit n a i).dram = n.dram := rfl
@[simp] theorem sbit_image (n : Node) (a i : Nat) : (sbit n a i).image = n.image := rfl
@[simp] theorem sbit_view (n : Node) (a i : Nat) : (sbit n a i).view = n.view := rfl
@[simp] theorem sbit_free (n : Node) (a i : Nat) : (sbit n a i).free = n.free := rfl
@[simp] theorem sbit_out (n : Node) (a i : Nat) : (sbit n a i).out = n.out := rfl
@[simp] theorem sbit_qm (n : Node) (a i : Nat) : (sbit n a i).qm = n.qm := rfl
@[simp] theorem sbit_mil (n : Node) (a i : Nat) : (sbit n a i).mil = n.mil := rfl
@[simp] theorem sbit_tb (n : Node) (a i : Nat) : (sbit n a i).tb = n.tb := rfl
@[simp] theorem sbit_line (n : Node) (a i : Nat) : (sbit n a i).line = n.line := rfl
@[simp] theorem sbit_inn (n : Node) (a i : Nat) : (sbit n a i).inn = n.inn := rfl
@[simp] theorem sbit_du (n : Node) (a i : Nat) : (sbit n a i).du = n.du := rfl
@[simp] theorem sbit_au (n : Node) (a i : Nat) : (sbit n a i).au = n.au := rfl
@[simp] theorem sbit_cf (n : Node) (a i : Nat) : (sbit n a i).cf = n.cf := rfl
@[simp] theorem sbit_se (n : Node) (a i : Nat) : (sbit n a i).se = n.se := rfl
@[simp] theorem sbit_st (n : Node) (a i : Nat) : (sbit n a i).st = n.st := rfl
@[simp] theorem sbit_em (n : Node) (a i : Nat) : (sbit n a i).em = n.em := rfl
@[simp] theorem sbit_cb (n : Node) (a i : Nat) : (sbit n a i).cb = n.cb := rfl
@[simp] theorem sbit_sa (n : Node) (a i : Nat) : (sbit n a i).sa = n.sa := rfl
@[simp] theorem sbit_ls (n : Node) (a i : Nat) : (sbit n a i).ls = n.ls := rfl
@[simp] theorem sbit_pw (n : Node) (a i : Nat) : (sbit n a i).pw = n.pw := rfl
@[simp] theorem sbit_hb (n : Node) (a i : Nat) : (sbit n a i).hb = n.hb := rfl
@[simp] theorem sbit_holdRun (n : Node) (a i : Nat) : (sbit n a i).holdRun = n.holdRun := rfl
@[simp] theorem sbit_up (n : Node) (a i : Nat) : (sbit n a i).up = n.up := rfl
@[simp] theorem ff_sbit (n : Node) (a i : Nat) (r : Nat) (g : Field) : ff (sbit n a i) r g = ff n r g := rfl

@[simp] theorem cbit_uid (n : Node) (a i : Nat) : (cbit n a i).uid = n.uid := rfl
@[simp] theorem cbit_force (n : Node) (a i : Nat) : (cbit n a i).force = n.force := rfl
@[simp] theorem cbit_shadow (n : Node) (a i : Nat) : (cbit n a i).shadow = n.shadow := rfl
@[simp] theorem cbit_dram (n : Node) (a i : Nat) : (cbit n a i).dram = n.dram := rfl
@[simp] theorem cbit_image (n : Node) (a i : Nat) : (cbit n a i).image = n.image := rfl
@[simp] theorem cbit_view (n : Node) (a i : Nat) : (cbit n a i).view = n.view := rfl
@[simp] theorem cbit_free (n : Node) (a i : Nat) : (cbit n a i).free = n.free := rfl
@[simp] theorem cbit_out (n : Node) (a i : Nat) : (cbit n a i).out = n.out := rfl
@[simp] theorem cbit_qm (n : Node) (a i : Nat) : (cbit n a i).qm = n.qm := rfl
@[simp] theorem cbit_mil (n : Node) (a i : Nat) : (cbit n a i).mil = n.mil := rfl
@[simp] theorem cbit_tb (n : Node) (a i : Nat) : (cbit n a i).tb = n.tb := rfl
@[simp] theorem cbit_line (n : Node) (a i : Nat) : (cbit n a i).line = n.line := rfl
@[simp] theorem cbit_inn (n : Node) (a i : Nat) : (cbit n a i).inn = n.inn := rfl
@[simp] theorem cbit_du (n : Node) (a i : Nat) : (cbit n a i).du = n.du := rfl
@[simp] theorem cbit_au (n : Node) (a i : Nat) : (cbit n a i).au = n.au := rfl
@[simp] theorem cbit_cf (n : Node) (a i : Nat) : (cbit n a i).cf = n.cf := rfl
@[simp] theorem cbit_se (n : Node) (a i : Nat) : (cbit n a i).se = n.se := rfl
@[simp] theorem cbit_st (n : Node) (a i : Nat) : (cbit n a i).st = n.st := rfl
@[simp] theorem cbit_em (n : Node) (a i : Nat) : (cbit n a i).em = n.em := rfl
@[simp] theorem cbit_cb (n : Node) (a i : Nat) : (cbit n a i).cb = n.cb := rfl
@[simp] theorem cbit_sa (n : Node) (a i : Nat) : (cbit n a i).sa = n.sa := rfl
@[simp] theorem cbit_ls (n : Node) (a i : Nat) : (cbit n a i).ls = n.ls := rfl
@[simp] theorem cbit_pw (n : Node) (a i : Nat) : (cbit n a i).pw = n.pw := rfl
@[simp] theorem cbit_hb (n : Node) (a i : Nat) : (cbit n a i).hb = n.hb := rfl
@[simp] theorem cbit_holdRun (n : Node) (a i : Nat) : (cbit n a i).holdRun = n.holdRun := rfl
@[simp] theorem cbit_up (n : Node) (a i : Nat) : (cbit n a i).up = n.up := rfl
@[simp] theorem ff_cbit (n : Node) (a i : Nat) (r : Nat) (g : Field) : ff (cbit n a i) r g = ff n r g := rfl

@[simp] theorem sflag_uid (n : Node) (a : Nat) (f : Field) (b : Bool) : (sflag n a f b).uid = n.uid := rfl
@[simp] theorem sflag_force (n : Node) (a : Nat) (f : Field) (b : Bool) : (sflag n a f b).force = n.force := rfl
@[simp] theorem sflag_shadow (n : Node) (a : Nat) (f : Field) (b : Bool) : (sflag n a f b).shadow = n.shadow := rfl
@[simp] theorem sflag_dram (n : Node) (a : Nat) (f : Field) (b : Bool) : (sflag n a f b).dram = n.dram := rfl
@[simp] theorem sflag_image (n : Node) (a : Nat) (f : Field) (b : Bool) : (sflag n a f b).image = n.image := rfl
@[simp] theorem sflag_view (n : Node) (a : Nat) (f : Field) (b : Bool) : (sflag n a f b).view = n.view := rfl
@[simp] theorem sflag_free (n : Node) (a : Nat) (f : Field) (b : Bool) : (sflag n a f b).free = n.free := rfl
@[simp] theorem sflag_out (n : Node) (a : Nat) (f : Field) (b : Bool) : (sflag n a f b).out = n.out := rfl
@[simp] theorem sflag_qm (n : Node) (a : Nat) (f : Field) (b : Bool) : (sflag n a f b).qm = n.qm := rfl
@[simp] theorem sflag_mil (n : Node) (a : Nat) (f : Field) (b : Bool) : (sflag n a f b).mil = n.mil := rfl
@[simp] theorem sflag_tb (n : Node) (a : Nat) (f : Field) (b : Bool) : (sflag n a f b).tb = n.tb := rfl
@[simp] theorem sflag_line (n : Node) (a : Nat) (f : Field) (b : Bool) : (sflag n a f b).line = n.line := rfl
@[simp] theorem sflag_inn (n : Node) (a : Nat) (f : Field) (b : Bool) : (sflag n a f b).inn = n.inn := rfl
@[simp] theorem sflag_du (n : Node) (a : Nat) (f : Field) (b : Bool) : (sflag n a f b).du = n.du := rfl
@[simp] theorem sflag_au (n : Node) (a : Nat) (f : Field) (b : Bool) : (sflag n a f b).au = n.au := rfl
@[simp] theorem sflag_cf (n : Node) (a : Nat) (f : Field) (b : Bool) : (sflag n a f b).cf = n.cf := rfl
@[simp] theorem sflag_se (n : Node) (a : Nat) (f : Field) (b : Bool) : (sflag n a f b).se = n.se := rfl
@[simp] theorem sflag_st (n : Node) (a : Nat) (f : Field) (b : Bool) : (sflag n a f b).st = n.st := rfl
@[simp] theorem sflag_em (n : Node) (a : Nat) (f : Field) (b : Bool) : (sflag n a f b).em = n.em := rfl
@[simp] theorem sflag_cb (n : Node) (a : Nat) (f : Field) (b : Bool) : (sflag n a f b).cb = n.cb := rfl
@[simp] theorem sflag_sa (n : Node) (a : Nat) (f : Field) (b : Bool) : (sflag n a f b).sa = n.sa := rfl
@[simp] theorem sflag_ls (n : Node) (a : Nat) (f : Field) (b : Bool) : (sflag n a f b).ls = n.ls := rfl
@[simp] theorem sflag_pw (n : Node) (a : Nat) (f : Field) (b : Bool) : (sflag n a f b).pw = n.pw := rfl
@[simp] theorem sflag_hb (n : Node) (a : Nat) (f : Field) (b : Bool) : (sflag n a f b).hb = n.hb := rfl
@[simp] theorem sflag_holdRun (n : Node) (a : Nat) (f : Field) (b : Bool) : (sflag n a f b).holdRun = n.holdRun := rfl
@[simp] theorem sflag_up (n : Node) (a : Nat) (f : Field) (b : Bool) : (sflag n a f b).up = n.up := rfl
@[simp] theorem ff_sflag (n : Node) (a : Nat) (f : Field) (b : Bool) (r : Nat) (g : Field) : ff (sflag n a f b) r g = ff n r g := rfl

@[simp] theorem countBy_uid (n : Node) (a k : Nat) : (countBy n a k).uid = n.uid := rfl
@[simp] theorem countBy_force (n : Node) (a k : Nat) : (countBy n a k).force = n.force := rfl
@[simp] theorem countBy_shadow (n : Node) (a k : Nat) : (countBy n a k).shadow = n.shadow := rfl
@[simp] theorem countBy_dram (n : Node) (a k : Nat) : (countBy n a k).dram = n.dram := rfl
@[simp] theorem countBy_image (n : Node) (a k : Nat) : (countBy n a k).image = n.image := rfl
@[simp] theorem countBy_view (n : Node) (a k : Nat) : (countBy n a k).view = n.view := rfl
@[simp] theorem countBy_free (n : Node) (a k : Nat) : (countBy n a k).free = n.free := rfl
@[simp] theorem countBy_out (n : Node) (a k : Nat) : (countBy n a k).out = n.out := rfl
@[simp] theorem countBy_qm (n : Node) (a k : Nat) : (countBy n a k).qm = n.qm := rfl
@[simp] theorem countBy_mil (n : Node) (a k : Nat) : (countBy n a k).mil = n.mil := rfl
@[simp] theorem countBy_tb (n : Node) (a k : Nat) : (countBy n a k).tb = n.tb := rfl
@[simp] theorem countBy_line (n : Node) (a k : Nat) : (countBy n a k).line = n.line := rfl
@[simp] theorem countBy_inn (n : Node) (a k : Nat) : (countBy n a k).inn = n.inn := rfl
@[simp] theorem countBy_du (n : Node) (a k : Nat) : (countBy n a k).du = n.du := rfl
@[simp] theorem countBy_au (n : Node) (a k : Nat) : (countBy n a k).au = n.au := rfl
@[simp] theorem countBy_cf (n : Node) (a k : Nat) : (countBy n a k).cf = n.cf := rfl
@[simp] theorem countBy_se (n : Node) (a k : Nat) : (countBy n a k).se = n.se := rfl
@[simp] theorem countBy_st (n : Node) (a k : Nat) : (countBy n a k).st = n.st := rfl
@[simp] theorem countBy_em (n : Node) (a k : Nat) : (countBy n a k).em = n.em := rfl
@[simp] theorem countBy_cb (n : Node) (a k : Nat) : (countBy n a k).cb = n.cb := rfl
@[simp] theorem countBy_sa (n : Node) (a k : Nat) : (countBy n a k).sa = n.sa := rfl
@[simp] theorem countBy_ls (n : Node) (a k : Nat) : (countBy n a k).ls = n.ls := rfl
@[simp] theorem countBy_pw (n : Node) (a k : Nat) : (countBy n a k).pw = n.pw := rfl
@[simp] theorem countBy_hb (n : Node) (a k : Nat) : (countBy n a k).hb = n.hb := rfl
@[simp] theorem countBy_holdRun (n : Node) (a k : Nat) : (countBy n a k).holdRun = n.holdRun := rfl
@[simp] theorem countBy_up (n : Node) (a k : Nat) : (countBy n a k).up = n.up := rfl
@[simp] theorem ff_countBy (n : Node) (a k : Nat) (r : Nat) (g : Field) : ff (countBy n a k) r g = ff n r g := rfl

@[simp] theorem count_uid (n : Node) (a : Nat) : (count n a).uid = n.uid := rfl
@[simp] theorem count_force (n : Node) (a : Nat) : (count n a).force = n.force := rfl
@[simp] theorem count_shadow (n : Node) (a : Nat) : (count n a).shadow = n.shadow := rfl
@[simp] theorem count_dram (n : Node) (a : Nat) : (count n a).dram = n.dram := rfl
@[simp] theorem count_image (n : Node) (a : Nat) : (count n a).image = n.image := rfl
@[simp] theorem count_view (n : Node) (a : Nat) : (count n a).view = n.view := rfl
@[simp] theorem count_free (n : Node) (a : Nat) : (count n a).free = n.free := rfl
@[simp] theorem count_out (n : Node) (a : Nat) : (count n a).out = n.out := rfl
@[simp] theorem count_qm (n : Node) (a : Nat) : (count n a).qm = n.qm := rfl
@[simp] theorem count_mil (n : Node) (a : Nat) : (count n a).mil = n.mil := rfl
@[simp] theorem count_tb (n : Node) (a : Nat) : (count n a).tb = n.tb := rfl
@[simp] theorem count_line (n : Node) (a : Nat) : (count n a).line = n.line := rfl
@[simp] theorem count_inn (n : Node) (a : Nat) : (count n a).inn = n.inn := rfl
@[simp] theorem count_du (n : Node) (a : Nat) : (count n a).du = n.du := rfl
@[simp] theorem count_au (n : Node) (a : Nat) : (count n a).au = n.au := rfl
@[simp] theorem count_cf (n : Node) (a : Nat) : (count n a).cf = n.cf := rfl
@[simp] theorem count_se (n : Node) (a : Nat) : (count n a).se = n.se := rfl
@[simp] theorem count_st (n : Node) (a : Nat) : (count n a).st = n.st := rfl
@[simp] theorem count_em (n : Node) (a : Nat) : (count n a).em = n.em := rfl
@[simp] theorem count_cb (n : Node) (a : Nat) : (count n a).cb = n.cb := rfl
@[simp] theorem count_sa (n : Node) (a : Nat) : (count n a).sa = n.sa := rfl
@[simp] theorem count_ls (n : Node) (a : Nat) : (count n a).ls = n.ls := rfl
@[simp] theorem count_pw (n : Node) (a : Nat) : (count n a).pw = n.pw := rfl
@[simp] theorem count_hb (n : Node) (a : Nat) : (count n a).hb = n.hb := rfl
@[simp] theorem count_holdRun (n : Node) (a : Nat) : (count n a).holdRun = n.holdRun := rfl
@[simp] theorem count_up (n : Node) (a : Nat) : (count n a).up = n.up := rfl
@[simp] theorem ff_count (n : Node) (a : Nat) (r : Nat) (g : Field) : ff (count n a) r g = ff n r g := rfl

@[simp] theorem countField_uid (n : Node) (a : Nat) (f : Field) : (countField n a f).uid = n.uid := rfl
@[simp] theorem countField_force (n : Node) (a : Nat) (f : Field) : (countField n a f).force = n.force := rfl
@[simp] theorem countField_shadow (n : Node) (a : Nat) (f : Field) : (countField n a f).shadow = n.shadow := rfl
@[simp] theorem countField_dram (n : Node) (a : Nat) (f : Field) : (countField n a f).dram = n.dram := rfl
@[simp] theorem countField_image (n : Node) (a : Nat) (f : Field) : (countField n a f).image = n.image := rfl
@[simp] theorem countField_view (n : Node) (a : Nat) (f : Field) : (countField n a f).view = n.view := rfl
@[simp] theorem countField_free (n : Node) (a : Nat) (f : Field) : (countField n a f).free = n.free := rfl
@[simp] theorem countField_out (n : Node) (a : Nat) (f : Field) : (countField n a f).out = n.out := rfl
@[simp] theorem countField_qm (n : Node) (a : Nat) (f : Field) : (countField n a f).qm = n.qm := rfl
@[simp] theorem countField_mil (n : Node) (a : Nat) (f : Field) : (countField n a f).mil = n.mil := rfl
@[simp] theorem countField_tb (n : Node) (a : Nat) (f : Field) : (countField n a f).tb = n.tb := rfl
@[simp] theorem countField_line (n : Node) (a : Nat) (f : Field) : (countField n a f).line = n.line := rfl
@[simp] theorem countField_inn (n : Node) (a : Nat) (f : Field) : (countField n a f).inn = n.inn := rfl
@[simp] theorem countField_du (n : Node) (a : Nat) (f : Field) : (countField n a f).du = n.du := rfl
@[simp] theorem countField_au (n : Node) (a : Nat) (f : Field) : (countField n a f).au = n.au := rfl
@[simp] theorem countField_cf (n : Node) (a : Nat) (f : Field) : (countField n a f).cf = n.cf := rfl
@[simp] theorem countField_se (n : Node) (a : Nat) (f : Field) : (countField n a f).se = n.se := rfl
@[simp] theorem countField_st (n : Node) (a : Nat) (f : Field) : (countField n a f).st = n.st := rfl
@[simp] theorem countField_em (n : Node) (a : Nat) (f : Field) : (countField n a f).em = n.em := rfl
@[simp] theorem countField_cb (n : Node) (a : Nat) (f : Field) : (countField n a f).cb = n.cb := rfl
@[simp] theorem countField_sa (n : Node) (a : Nat) (f : Field) : (countField n a f).sa = n.sa := rfl
@[simp] theorem countField_ls (n : Node) (a : Nat) (f : Field) : (countField n a f).ls = n.ls := rfl
@[simp] theorem countField_pw (n : Node) (a : Nat) (f : Field) : (countField n a f).pw = n.pw := rfl
@[simp] theorem countField_hb (n : Node) (a : Nat) (f : Field) : (countField n a f).hb = n.hb := rfl
@[simp] theorem countField_holdRun (n : Node) (a : Nat) (f : Field) : (countField n a f).holdRun = n.holdRun := rfl
@[simp] theorem countField_up (n : Node) (a : Nat) (f : Field) : (countField n a f).up = n.up := rfl
@[simp] theorem ff_countField (n : Node) (a : Nat) (f : Field) (r : Nat) (g : Field) : ff (countField n a f) r g = ff n r g := rfl

@[simp] theorem wr64_uid (n : Node) (lo hi v : Nat) : (wr64 n lo hi v).uid = n.uid := rfl
@[simp] theorem wr64_force (n : Node) (lo hi v : Nat) : (wr64 n lo hi v).force = n.force := rfl
@[simp] theorem wr64_shadow (n : Node) (lo hi v : Nat) : (wr64 n lo hi v).shadow = n.shadow := rfl
@[simp] theorem wr64_dram (n : Node) (lo hi v : Nat) : (wr64 n lo hi v).dram = n.dram := rfl
@[simp] theorem wr64_image (n : Node) (lo hi v : Nat) : (wr64 n lo hi v).image = n.image := rfl
@[simp] theorem wr64_view (n : Node) (lo hi v : Nat) : (wr64 n lo hi v).view = n.view := rfl
@[simp] theorem wr64_free (n : Node) (lo hi v : Nat) : (wr64 n lo hi v).free = n.free := rfl
@[simp] theorem wr64_out (n : Node) (lo hi v : Nat) : (wr64 n lo hi v).out = n.out := rfl
@[simp] theorem wr64_qm (n : Node) (lo hi v : Nat) : (wr64 n lo hi v).qm = n.qm := rfl
@[simp] theorem wr64_mil (n : Node) (lo hi v : Nat) : (wr64 n lo hi v).mil = n.mil := rfl
@[simp] theorem wr64_tb (n : Node) (lo hi v : Nat) : (wr64 n lo hi v).tb = n.tb := rfl
@[simp] theorem wr64_line (n : Node) (lo hi v : Nat) : (wr64 n lo hi v).line = n.line := rfl
@[simp] theorem wr64_inn (n : Node) (lo hi v : Nat) : (wr64 n lo hi v).inn = n.inn := rfl
@[simp] theorem wr64_du (n : Node) (lo hi v : Nat) : (wr64 n lo hi v).du = n.du := rfl
@[simp] theorem wr64_au (n : Node) (lo hi v : Nat) : (wr64 n lo hi v).au = n.au := rfl
@[simp] theorem wr64_cf (n : Node) (lo hi v : Nat) : (wr64 n lo hi v).cf = n.cf := rfl
@[simp] theorem wr64_se (n : Node) (lo hi v : Nat) : (wr64 n lo hi v).se = n.se := rfl
@[simp] theorem wr64_st (n : Node) (lo hi v : Nat) : (wr64 n lo hi v).st = n.st := rfl
@[simp] theorem wr64_em (n : Node) (lo hi v : Nat) : (wr64 n lo hi v).em = n.em := rfl
@[simp] theorem wr64_cb (n : Node) (lo hi v : Nat) : (wr64 n lo hi v).cb = n.cb := rfl
@[simp] theorem wr64_sa (n : Node) (lo hi v : Nat) : (wr64 n lo hi v).sa = n.sa := rfl
@[simp] theorem wr64_ls (n : Node) (lo hi v : Nat) : (wr64 n lo hi v).ls = n.ls := rfl
@[simp] theorem wr64_pw (n : Node) (lo hi v : Nat) : (wr64 n lo hi v).pw = n.pw := rfl
@[simp] theorem wr64_hb (n : Node) (lo hi v : Nat) : (wr64 n lo hi v).hb = n.hb := rfl
@[simp] theorem wr64_holdRun (n : Node) (lo hi v : Nat) : (wr64 n lo hi v).holdRun = n.holdRun := rfl
@[simp] theorem wr64_up (n : Node) (lo hi v : Nat) : (wr64 n lo hi v).up = n.up := rfl
@[simp] theorem ff_wr64 (n : Node) (lo hi v : Nat) (r : Nat) (g : Field) : ff (wr64 n lo hi v) r g = ff n r g := rfl

@[simp] theorem quiet_uid (n : Node) : (quiet n).uid = n.uid := rfl
@[simp] theorem quiet_regs (n : Node) : (quiet n).regs = n.regs := rfl
@[simp] theorem quiet_force (n : Node) : (quiet n).force = n.force := rfl
@[simp] theorem quiet_shadow (n : Node) : (quiet n).shadow = n.shadow := rfl
@[simp] theorem quiet_dram (n : Node) : (quiet n).dram = n.dram := rfl
@[simp] theorem quiet_image (n : Node) : (quiet n).image = n.image := rfl
@[simp] theorem quiet_view (n : Node) : (quiet n).view = n.view := rfl
@[simp] theorem quiet_free (n : Node) : (quiet n).free = n.free := rfl
@[simp] theorem quiet_out (n : Node) : (quiet n).out = [] := rfl
@[simp] theorem quiet_qm (n : Node) : (quiet n).qm = n.qm := rfl
@[simp] theorem quiet_mil (n : Node) : (quiet n).mil = n.mil := rfl
@[simp] theorem quiet_tb (n : Node) : (quiet n).tb = n.tb := rfl
@[simp] theorem quiet_line (n : Node) : (quiet n).line = n.line := rfl
@[simp] theorem quiet_inn (n : Node) : (quiet n).inn = n.inn := rfl
@[simp] theorem quiet_du (n : Node) : (quiet n).du = n.du := rfl
@[simp] theorem quiet_au (n : Node) : (quiet n).au = n.au := rfl
@[simp] theorem quiet_cf (n : Node) : (quiet n).cf = n.cf := rfl
@[simp] theorem quiet_se (n : Node) : (quiet n).se = n.se := rfl
@[simp] theorem quiet_st (n : Node) : (quiet n).st = n.st := rfl
@[simp] theorem quiet_em (n : Node) : (quiet n).em = n.em := rfl
@[simp] theorem quiet_cb (n : Node) : (quiet n).cb = n.cb := rfl
@[simp] theorem quiet_sa (n : Node) : (quiet n).sa = n.sa := rfl
@[simp] theorem quiet_ls (n : Node) : (quiet n).ls = n.ls := rfl
@[simp] theorem quiet_pw (n : Node) : (quiet n).pw = n.pw := rfl
@[simp] theorem quiet_hb (n : Node) : (quiet n).hb = n.hb := rfl
@[simp] theorem quiet_holdRun (n : Node) : (quiet n).holdRun = n.holdRun := rfl
@[simp] theorem quiet_up (n : Node) : (quiet n).up = n.up := rfl
@[simp] theorem rd_quiet (n : Node) (r : Nat) : rd (quiet n) r = rd n r := rfl
@[simp] theorem gf_quiet (n : Node) (r : Nat) (g : Field) : gf (quiet n) r g = gf n r g := rfl
@[simp] theorem ff_quiet (n : Node) (r : Nat) (g : Field) : ff (quiet n) r g = ff n r g := rfl

@[simp] theorem emit_uid (n : Node) (o : Output) : (emit n o).uid = n.uid := rfl
@[simp] theorem emit_regs (n : Node) (o : Output) : (emit n o).regs = n.regs := rfl
@[simp] theorem emit_force (n : Node) (o : Output) : (emit n o).force = n.force := rfl
@[simp] theorem emit_shadow (n : Node) (o : Output) : (emit n o).shadow = n.shadow := rfl
@[simp] theorem emit_dram (n : Node) (o : Output) : (emit n o).dram = n.dram := rfl
@[simp] theorem emit_image (n : Node) (o : Output) : (emit n o).image = n.image := rfl
@[simp] theorem emit_view (n : Node) (o : Output) : (emit n o).view = n.view := rfl
@[simp] theorem emit_free (n : Node) (o : Output) : (emit n o).free = n.free := rfl
@[simp] theorem emit_out (n : Node) (o : Output) : (emit n o).out = n.out ++ [o] := rfl
@[simp] theorem emit_qm (n : Node) (o : Output) : (emit n o).qm = n.qm := rfl
@[simp] theorem emit_mil (n : Node) (o : Output) : (emit n o).mil = n.mil := rfl
@[simp] theorem emit_tb (n : Node) (o : Output) : (emit n o).tb = n.tb := rfl
@[simp] theorem emit_line (n : Node) (o : Output) : (emit n o).line = n.line := rfl
@[simp] theorem emit_inn (n : Node) (o : Output) : (emit n o).inn = n.inn := rfl
@[simp] theorem emit_du (n : Node) (o : Output) : (emit n o).du = n.du := rfl
@[simp] theorem emit_au (n : Node) (o : Output) : (emit n o).au = n.au := rfl
@[simp] theorem emit_cf (n : Node) (o : Output) : (emit n o).cf = n.cf := rfl
@[simp] theorem emit_se (n : Node) (o : Output) : (emit n o).se = n.se := rfl
@[simp] theorem emit_st (n : Node) (o : Output) : (emit n o).st = n.st := rfl
@[simp] theorem emit_em (n : Node) (o : Output) : (emit n o).em = n.em := rfl
@[simp] theorem emit_cb (n : Node) (o : Output) : (emit n o).cb = n.cb := rfl
@[simp] theorem emit_sa (n : Node) (o : Output) : (emit n o).sa = n.sa := rfl
@[simp] theorem emit_ls (n : Node) (o : Output) : (emit n o).ls = n.ls := rfl
@[simp] theorem emit_pw (n : Node) (o : Output) : (emit n o).pw = n.pw := rfl
@[simp] theorem emit_hb (n : Node) (o : Output) : (emit n o).hb = n.hb := rfl
@[simp] theorem emit_holdRun (n : Node) (o : Output) : (emit n o).holdRun = n.holdRun := rfl
@[simp] theorem emit_up (n : Node) (o : Output) : (emit n o).up = n.up := rfl
@[simp] theorem rd_emit (n : Node) (o : Output) (r : Nat) : rd (emit n o) r = rd n r := rfl
@[simp] theorem gf_emit (n : Node) (o : Output) (r : Nat) (g : Field) : gf (emit n o) r g = gf n r g := rfl
@[simp] theorem ff_emit (n : Node) (o : Output) (r : Nat) (g : Field) : ff (emit n o) r g = ff n r g := rfl

@[simp] theorem setImg_uid (n : Node) (off : Nat) (bs : List Byte) : (setImg n off bs).uid = n.uid := rfl
@[simp] theorem setImg_regs (n : Node) (off : Nat) (bs : List Byte) : (setImg n off bs).regs = n.regs := rfl
@[simp] theorem setImg_force (n : Node) (off : Nat) (bs : List Byte) : (setImg n off bs).force = n.force := rfl
@[simp] theorem setImg_shadow (n : Node) (off : Nat) (bs : List Byte) : (setImg n off bs).shadow = n.shadow := rfl
@[simp] theorem setImg_dram (n : Node) (off : Nat) (bs : List Byte) : (setImg n off bs).dram = n.dram := rfl
@[simp] theorem setImg_image (n : Node) (off : Nat) (bs : List Byte) : (setImg n off bs).image = writeBytes n.image off bs := rfl
@[simp] theorem setImg_view (n : Node) (off : Nat) (bs : List Byte) : (setImg n off bs).view = n.view := rfl
@[simp] theorem setImg_free (n : Node) (off : Nat) (bs : List Byte) : (setImg n off bs).free = n.free := rfl
@[simp] theorem setImg_out (n : Node) (off : Nat) (bs : List Byte) : (setImg n off bs).out = n.out := rfl
@[simp] theorem setImg_qm (n : Node) (off : Nat) (bs : List Byte) : (setImg n off bs).qm = n.qm := rfl
@[simp] theorem setImg_mil (n : Node) (off : Nat) (bs : List Byte) : (setImg n off bs).mil = n.mil := rfl
@[simp] theorem setImg_tb (n : Node) (off : Nat) (bs : List Byte) : (setImg n off bs).tb = n.tb := rfl
@[simp] theorem setImg_line (n : Node) (off : Nat) (bs : List Byte) : (setImg n off bs).line = n.line := rfl
@[simp] theorem setImg_inn (n : Node) (off : Nat) (bs : List Byte) : (setImg n off bs).inn = n.inn := rfl
@[simp] theorem setImg_du (n : Node) (off : Nat) (bs : List Byte) : (setImg n off bs).du = n.du := rfl
@[simp] theorem setImg_au (n : Node) (off : Nat) (bs : List Byte) : (setImg n off bs).au = n.au := rfl
@[simp] theorem setImg_cf (n : Node) (off : Nat) (bs : List Byte) : (setImg n off bs).cf = n.cf := rfl
@[simp] theorem setImg_se (n : Node) (off : Nat) (bs : List Byte) : (setImg n off bs).se = n.se := rfl
@[simp] theorem setImg_st (n : Node) (off : Nat) (bs : List Byte) : (setImg n off bs).st = n.st := rfl
@[simp] theorem setImg_em (n : Node) (off : Nat) (bs : List Byte) : (setImg n off bs).em = n.em := rfl
@[simp] theorem setImg_cb (n : Node) (off : Nat) (bs : List Byte) : (setImg n off bs).cb = n.cb := rfl
@[simp] theorem setImg_sa (n : Node) (off : Nat) (bs : List Byte) : (setImg n off bs).sa = n.sa := rfl
@[simp] theorem setImg_ls (n : Node) (off : Nat) (bs : List Byte) : (setImg n off bs).ls = n.ls := rfl
@[simp] theorem setImg_pw (n : Node) (off : Nat) (bs : List Byte) : (setImg n off bs).pw = n.pw := rfl
@[simp] theorem setImg_hb (n : Node) (off : Nat) (bs : List Byte) : (setImg n off bs).hb = n.hb := rfl
@[simp] theorem setImg_holdRun (n : Node) (off : Nat) (bs : List Byte) : (setImg n off bs).holdRun = n.holdRun := rfl
@[simp] theorem setImg_up (n : Node) (off : Nat) (bs : List Byte) : (setImg n off bs).up = n.up := rfl
@[simp] theorem rd_setImg (n : Node) (off : Nat) (bs : List Byte) (r : Nat) : rd (setImg n off bs) r = rd n r := rfl
@[simp] theorem gf_setImg (n : Node) (off : Nat) (bs : List Byte) (r : Nat) (g : Field) : gf (setImg n off bs) r g = gf n r g := rfl
@[simp] theorem ff_setImg (n : Node) (off : Nat) (bs : List Byte) (r : Nat) (g : Field) : ff (setImg n off bs) r g = ff n r g := rfl

@[simp] theorem dramStore_uid (n : Node) (a : Nat) (bs : List Byte) : (dramStore n a bs).uid = n.uid := rfl
@[simp] theorem dramStore_regs (n : Node) (a : Nat) (bs : List Byte) : (dramStore n a bs).regs = n.regs := rfl
@[simp] theorem dramStore_force (n : Node) (a : Nat) (bs : List Byte) : (dramStore n a bs).force = n.force := rfl
@[simp] theorem dramStore_shadow (n : Node) (a : Nat) (bs : List Byte) : (dramStore n a bs).shadow = n.shadow := rfl
@[simp] theorem dramStore_dram (n : Node) (a : Nat) (bs : List Byte) : (dramStore n a bs).dram = writeBytes n.dram a bs := rfl
@[simp] theorem dramStore_image (n : Node) (a : Nat) (bs : List Byte) : (dramStore n a bs).image = n.image := rfl
@[simp] theorem dramStore_view (n : Node) (a : Nat) (bs : List Byte) : (dramStore n a bs).view = n.view := rfl
@[simp] theorem dramStore_free (n : Node) (a : Nat) (bs : List Byte) : (dramStore n a bs).free = n.free := rfl
@[simp] theorem dramStore_out (n : Node) (a : Nat) (bs : List Byte) : (dramStore n a bs).out = n.out := rfl
@[simp] theorem dramStore_qm (n : Node) (a : Nat) (bs : List Byte) : (dramStore n a bs).qm = n.qm := rfl
@[simp] theorem dramStore_mil (n : Node) (a : Nat) (bs : List Byte) : (dramStore n a bs).mil = n.mil := rfl
@[simp] theorem dramStore_tb (n : Node) (a : Nat) (bs : List Byte) : (dramStore n a bs).tb = n.tb := rfl
@[simp] theorem dramStore_line (n : Node) (a : Nat) (bs : List Byte) : (dramStore n a bs).line = n.line := rfl
@[simp] theorem dramStore_inn (n : Node) (a : Nat) (bs : List Byte) : (dramStore n a bs).inn = n.inn := rfl
@[simp] theorem dramStore_du (n : Node) (a : Nat) (bs : List Byte) : (dramStore n a bs).du = n.du := rfl
@[simp] theorem dramStore_au (n : Node) (a : Nat) (bs : List Byte) : (dramStore n a bs).au = n.au := rfl
@[simp] theorem dramStore_cf (n : Node) (a : Nat) (bs : List Byte) : (dramStore n a bs).cf = n.cf := rfl
@[simp] theorem dramStore_se (n : Node) (a : Nat) (bs : List Byte) : (dramStore n a bs).se = n.se := rfl
@[simp] theorem dramStore_st (n : Node) (a : Nat) (bs : List Byte) : (dramStore n a bs).st = n.st := rfl
@[simp] theorem dramStore_em (n : Node) (a : Nat) (bs : List Byte) : (dramStore n a bs).em = n.em := rfl
@[simp] theorem dramStore_cb (n : Node) (a : Nat) (bs : List Byte) : (dramStore n a bs).cb = n.cb := rfl
@[simp] theorem dramStore_sa (n : Node) (a : Nat) (bs : List Byte) : (dramStore n a bs).sa = n.sa := rfl
@[simp] theorem dramStore_ls (n : Node) (a : Nat) (bs : List Byte) : (dramStore n a bs).ls = n.ls := rfl
@[simp] theorem dramStore_pw (n : Node) (a : Nat) (bs : List Byte) : (dramStore n a bs).pw = n.pw := rfl
@[simp] theorem dramStore_hb (n : Node) (a : Nat) (bs : List Byte) : (dramStore n a bs).hb = n.hb := rfl
@[simp] theorem dramStore_holdRun (n : Node) (a : Nat) (bs : List Byte) : (dramStore n a bs).holdRun = n.holdRun := rfl
@[simp] theorem dramStore_up (n : Node) (a : Nat) (bs : List Byte) : (dramStore n a bs).up = n.up := rfl
@[simp] theorem rd_dramStore (n : Node) (a : Nat) (bs : List Byte) (r : Nat) : rd (dramStore n a bs) r = rd n r := rfl
@[simp] theorem gf_dramStore (n : Node) (a : Nat) (bs : List Byte) (r : Nat) (g : Field) : gf (dramStore n a bs) r g = gf n r g := rfl
@[simp] theorem ff_dramStore (n : Node) (a : Nat) (bs : List Byte) (r : Nat) (g : Field) : ff (dramStore n a bs) r g = ff n r g := rfl

@[simp] theorem setPort_uid (n : Node) (p : Nat) (x : Port) : (setPort n p x).uid = n.uid := rfl
@[simp] theorem setPort_regs (n : Node) (p : Nat) (x : Port) : (setPort n p x).regs = n.regs := rfl
@[simp] theorem setPort_force (n : Node) (p : Nat) (x : Port) : (setPort n p x).force = n.force := rfl
@[simp] theorem setPort_shadow (n : Node) (p : Nat) (x : Port) : (setPort n p x).shadow = n.shadow := rfl
@[simp] theorem setPort_dram (n : Node) (p : Nat) (x : Port) : (setPort n p x).dram = n.dram := rfl
@[simp] theorem setPort_image (n : Node) (p : Nat) (x : Port) : (setPort n p x).image = n.image := rfl
@[simp] theorem setPort_view (n : Node) (p : Nat) (x : Port) : (setPort n p x).view = n.view := rfl
@[simp] theorem setPort_free (n : Node) (p : Nat) (x : Port) : (setPort n p x).free = n.free := rfl
@[simp] theorem setPort_out (n : Node) (p : Nat) (x : Port) : (setPort n p x).out = n.out := rfl
@[simp] theorem setPort_qm (n : Node) (p : Nat) (x : Port) : (setPort n p x).qm = n.qm := rfl
@[simp] theorem setPort_mil (n : Node) (p : Nat) (x : Port) : (setPort n p x).mil = n.mil := rfl
@[simp] theorem setPort_tb (n : Node) (p : Nat) (x : Port) : (setPort n p x).tb = n.tb := rfl
@[simp] theorem setPort_line (n : Node) (p : Nat) (x : Port) : (setPort n p x).line = { n.line with ports := put {} n.line.ports p x } := rfl
@[simp] theorem setPort_inn (n : Node) (p : Nat) (x : Port) : (setPort n p x).inn = n.inn := rfl
@[simp] theorem setPort_du (n : Node) (p : Nat) (x : Port) : (setPort n p x).du = n.du := rfl
@[simp] theorem setPort_au (n : Node) (p : Nat) (x : Port) : (setPort n p x).au = n.au := rfl
@[simp] theorem setPort_cf (n : Node) (p : Nat) (x : Port) : (setPort n p x).cf = n.cf := rfl
@[simp] theorem setPort_se (n : Node) (p : Nat) (x : Port) : (setPort n p x).se = n.se := rfl
@[simp] theorem setPort_st (n : Node) (p : Nat) (x : Port) : (setPort n p x).st = n.st := rfl
@[simp] theorem setPort_em (n : Node) (p : Nat) (x : Port) : (setPort n p x).em = n.em := rfl
@[simp] theorem setPort_cb (n : Node) (p : Nat) (x : Port) : (setPort n p x).cb = n.cb := rfl
@[simp] theorem setPort_sa (n : Node) (p : Nat) (x : Port) : (setPort n p x).sa = n.sa := rfl
@[simp] theorem setPort_ls (n : Node) (p : Nat) (x : Port) : (setPort n p x).ls = n.ls := rfl
@[simp] theorem setPort_pw (n : Node) (p : Nat) (x : Port) : (setPort n p x).pw = n.pw := rfl
@[simp] theorem setPort_hb (n : Node) (p : Nat) (x : Port) : (setPort n p x).hb = n.hb := rfl
@[simp] theorem setPort_holdRun (n : Node) (p : Nat) (x : Port) : (setPort n p x).holdRun = n.holdRun := rfl
@[simp] theorem setPort_up (n : Node) (p : Nat) (x : Port) : (setPort n p x).up = n.up := rfl
@[simp] theorem rd_setPort (n : Node) (p : Nat) (x : Port) (r : Nat) : rd (setPort n p x) r = rd n r := rfl
@[simp] theorem gf_setPort (n : Node) (p : Nat) (x : Port) (r : Nat) (g : Field) : gf (setPort n p x) r g = gf n r g := rfl
@[simp] theorem ff_setPort (n : Node) (p : Nat) (x : Port) (r : Nat) (g : Field) : ff (setPort n p x) r g = ff n r g := rfl

@[simp] theorem setChan_uid (n : Node) (c : Nat) (x : Chan) : (setChan n c x).uid = n.uid := rfl
@[simp] theorem setChan_regs (n : Node) (c : Nat) (x : Chan) : (setChan n c x).regs = n.regs := rfl
@[simp] theorem setChan_force (n : Node) (c : Nat) (x : Chan) : (setChan n c x).force = n.force := rfl
@[simp] theorem setChan_shadow (n : Node) (c : Nat) (x : Chan) : (setChan n c x).shadow = n.shadow := rfl
@[simp] theorem setChan_dram (n : Node) (c : Nat) (x : Chan) : (setChan n c x).dram = n.dram := rfl
@[simp] theorem setChan_image (n : Node) (c : Nat) (x : Chan) : (setChan n c x).image = n.image := rfl
@[simp] theorem setChan_view (n : Node) (c : Nat) (x : Chan) : (setChan n c x).view = n.view := rfl
@[simp] theorem setChan_free (n : Node) (c : Nat) (x : Chan) : (setChan n c x).free = n.free := rfl
@[simp] theorem setChan_out (n : Node) (c : Nat) (x : Chan) : (setChan n c x).out = n.out := rfl
@[simp] theorem setChan_qm (n : Node) (c : Nat) (x : Chan) : (setChan n c x).qm = n.qm := rfl
@[simp] theorem setChan_mil (n : Node) (c : Nat) (x : Chan) : (setChan n c x).mil = n.mil := rfl
@[simp] theorem setChan_tb (n : Node) (c : Nat) (x : Chan) : (setChan n c x).tb = n.tb := rfl
@[simp] theorem setChan_line (n : Node) (c : Nat) (x : Chan) : (setChan n c x).line = { n.line with chans := put {} n.line.chans c x } := rfl
@[simp] theorem setChan_inn (n : Node) (c : Nat) (x : Chan) : (setChan n c x).inn = n.inn := rfl
@[simp] theorem setChan_du (n : Node) (c : Nat) (x : Chan) : (setChan n c x).du = n.du := rfl
@[simp] theorem setChan_au (n : Node) (c : Nat) (x : Chan) : (setChan n c x).au = n.au := rfl
@[simp] theorem setChan_cf (n : Node) (c : Nat) (x : Chan) : (setChan n c x).cf = n.cf := rfl
@[simp] theorem setChan_se (n : Node) (c : Nat) (x : Chan) : (setChan n c x).se = n.se := rfl
@[simp] theorem setChan_st (n : Node) (c : Nat) (x : Chan) : (setChan n c x).st = n.st := rfl
@[simp] theorem setChan_em (n : Node) (c : Nat) (x : Chan) : (setChan n c x).em = n.em := rfl
@[simp] theorem setChan_cb (n : Node) (c : Nat) (x : Chan) : (setChan n c x).cb = n.cb := rfl
@[simp] theorem setChan_sa (n : Node) (c : Nat) (x : Chan) : (setChan n c x).sa = n.sa := rfl
@[simp] theorem setChan_ls (n : Node) (c : Nat) (x : Chan) : (setChan n c x).ls = n.ls := rfl
@[simp] theorem setChan_pw (n : Node) (c : Nat) (x : Chan) : (setChan n c x).pw = n.pw := rfl
@[simp] theorem setChan_hb (n : Node) (c : Nat) (x : Chan) : (setChan n c x).hb = n.hb := rfl
@[simp] theorem setChan_holdRun (n : Node) (c : Nat) (x : Chan) : (setChan n c x).holdRun = n.holdRun := rfl
@[simp] theorem setChan_up (n : Node) (c : Nat) (x : Chan) : (setChan n c x).up = n.up := rfl
@[simp] theorem rd_setChan (n : Node) (c : Nat) (x : Chan) (r : Nat) : rd (setChan n c x) r = rd n r := rfl
@[simp] theorem gf_setChan (n : Node) (c : Nat) (x : Chan) (r : Nat) (g : Field) : gf (setChan n c x) r g = gf n r g := rfl
@[simp] theorem ff_setChan (n : Node) (c : Nat) (x : Chan) (r : Nat) (g : Field) : ff (setChan n c x) r g = ff n r g := rfl

@[simp] theorem setDesc_uid (n : Node) (q : Nat) (d : Desc) : (setDesc n q d).uid = n.uid := rfl
@[simp] theorem setDesc_regs (n : Node) (q : Nat) (d : Desc) : (setDesc n q d).regs = n.regs := rfl
@[simp] theorem setDesc_force (n : Node) (q : Nat) (d : Desc) : (setDesc n q d).force = n.force := rfl
@[simp] theorem setDesc_shadow (n : Node) (q : Nat) (d : Desc) : (setDesc n q d).shadow = n.shadow := rfl
@[simp] theorem setDesc_dram (n : Node) (q : Nat) (d : Desc) : (setDesc n q d).dram = n.dram := rfl
@[simp] theorem setDesc_image (n : Node) (q : Nat) (d : Desc) : (setDesc n q d).image = n.image := rfl
@[simp] theorem setDesc_view (n : Node) (q : Nat) (d : Desc) : (setDesc n q d).view = n.view := rfl
@[simp] theorem setDesc_free (n : Node) (q : Nat) (d : Desc) : (setDesc n q d).free = n.free := rfl
@[simp] theorem setDesc_out (n : Node) (q : Nat) (d : Desc) : (setDesc n q d).out = n.out := rfl
@[simp] theorem setDesc_qm (n : Node) (q : Nat) (d : Desc) : (setDesc n q d).qm = { n.qm with desc := put {} n.qm.desc q d } := rfl
@[simp] theorem setDesc_mil (n : Node) (q : Nat) (d : Desc) : (setDesc n q d).mil = n.mil := rfl
@[simp] theorem setDesc_tb (n : Node) (q : Nat) (d : Desc) : (setDesc n q d).tb = n.tb := rfl
@[simp] theorem setDesc_line (n : Node) (q : Nat) (d : Desc) : (setDesc n q d).line = n.line := rfl
@[simp] theorem setDesc_inn (n : Node) (q : Nat) (d : Desc) : (setDesc n q d).inn = n.inn := rfl
@[simp] theorem setDesc_du (n : Node) (q : Nat) (d : Desc) : (setDesc n q d).du = n.du := rfl
@[simp] theorem setDesc_au (n : Node) (q : Nat) (d : Desc) : (setDesc n q d).au = n.au := rfl
@[simp] theorem setDesc_cf (n : Node) (q : Nat) (d : Desc) : (setDesc n q d).cf = n.cf := rfl
@[simp] theorem setDesc_se (n : Node) (q : Nat) (d : Desc) : (setDesc n q d).se = n.se := rfl
@[simp] theorem setDesc_st (n : Node) (q : Nat) (d : Desc) : (setDesc n q d).st = n.st := rfl
@[simp] theorem setDesc_em (n : Node) (q : Nat) (d : Desc) : (setDesc n q d).em = n.em := rfl
@[simp] theorem setDesc_cb (n : Node) (q : Nat) (d : Desc) : (setDesc n q d).cb = n.cb := rfl
@[simp] theorem setDesc_sa (n : Node) (q : Nat) (d : Desc) : (setDesc n q d).sa = n.sa := rfl
@[simp] theorem setDesc_ls (n : Node) (q : Nat) (d : Desc) : (setDesc n q d).ls = n.ls := rfl
@[simp] theorem setDesc_pw (n : Node) (q : Nat) (d : Desc) : (setDesc n q d).pw = n.pw := rfl
@[simp] theorem setDesc_hb (n : Node) (q : Nat) (d : Desc) : (setDesc n q d).hb = n.hb := rfl
@[simp] theorem setDesc_holdRun (n : Node) (q : Nat) (d : Desc) : (setDesc n q d).holdRun = n.holdRun := rfl
@[simp] theorem setDesc_up (n : Node) (q : Nat) (d : Desc) : (setDesc n q d).up = n.up := rfl
@[simp] theorem rd_setDesc (n : Node) (q : Nat) (d : Desc) (r : Nat) : rd (setDesc n q d) r = rd n r := rfl
@[simp] theorem gf_setDesc (n : Node) (q : Nat) (d : Desc) (r : Nat) (g : Field) : gf (setDesc n q d) r g = gf n r g := rfl
@[simp] theorem ff_setDesc (n : Node) (q : Nat) (d : Desc) (r : Nat) (g : Field) : ff (setDesc n q d) r g = ff n r g := rfl

@[simp] theorem setWeir_uid (n : Node) (w : Nat) (x : Weir) : (setWeir n w x).uid = n.uid := rfl
@[simp] theorem setWeir_regs (n : Node) (w : Nat) (x : Weir) : (setWeir n w x).regs = n.regs := rfl
@[simp] theorem setWeir_force (n : Node) (w : Nat) (x : Weir) : (setWeir n w x).force = n.force := rfl
@[simp] theorem setWeir_shadow (n : Node) (w : Nat) (x : Weir) : (setWeir n w x).shadow = n.shadow := rfl
@[simp] theorem setWeir_dram (n : Node) (w : Nat) (x : Weir) : (setWeir n w x).dram = n.dram := rfl
@[simp] theorem setWeir_image (n : Node) (w : Nat) (x : Weir) : (setWeir n w x).image = n.image := rfl
@[simp] theorem setWeir_view (n : Node) (w : Nat) (x : Weir) : (setWeir n w x).view = n.view := rfl
@[simp] theorem setWeir_free (n : Node) (w : Nat) (x : Weir) : (setWeir n w x).free = n.free := rfl
@[simp] theorem setWeir_out (n : Node) (w : Nat) (x : Weir) : (setWeir n w x).out = n.out := rfl
@[simp] theorem setWeir_qm (n : Node) (w : Nat) (x : Weir) : (setWeir n w x).qm = { n.qm with weirs := put {} n.qm.weirs w x } := rfl
@[simp] theorem setWeir_mil (n : Node) (w : Nat) (x : Weir) : (setWeir n w x).mil = n.mil := rfl
@[simp] theorem setWeir_tb (n : Node) (w : Nat) (x : Weir) : (setWeir n w x).tb = n.tb := rfl
@[simp] theorem setWeir_line (n : Node) (w : Nat) (x : Weir) : (setWeir n w x).line = n.line := rfl
@[simp] theorem setWeir_inn (n : Node) (w : Nat) (x : Weir) : (setWeir n w x).inn = n.inn := rfl
@[simp] theorem setWeir_du (n : Node) (w : Nat) (x : Weir) : (setWeir n w x).du = n.du := rfl
@[simp] theorem setWeir_au (n : Node) (w : Nat) (x : Weir) : (setWeir n w x).au = n.au := rfl
@[simp] theorem setWeir_cf (n : Node) (w : Nat) (x : Weir) : (setWeir n w x).cf = n.cf := rfl
@[simp] theorem setWeir_se (n : Node) (w : Nat) (x : Weir) : (setWeir n w x).se = n.se := rfl
@[simp] theorem setWeir_st (n : Node) (w : Nat) (x : Weir) : (setWeir n w x).st = n.st := rfl
@[simp] theorem setWeir_em (n : Node) (w : Nat) (x : Weir) : (setWeir n w x).em = n.em := rfl
@[simp] theorem setWeir_cb (n : Node) (w : Nat) (x : Weir) : (setWeir n w x).cb = n.cb := rfl
@[simp] theorem setWeir_sa (n : Node) (w : Nat) (x : Weir) : (setWeir n w x).sa = n.sa := rfl
@[simp] theorem setWeir_ls (n : Node) (w : Nat) (x : Weir) : (setWeir n w x).ls = n.ls := rfl
@[simp] theorem setWeir_pw (n : Node) (w : Nat) (x : Weir) : (setWeir n w x).pw = n.pw := rfl
@[simp] theorem setWeir_hb (n : Node) (w : Nat) (x : Weir) : (setWeir n w x).hb = n.hb := rfl
@[simp] theorem setWeir_holdRun (n : Node) (w : Nat) (x : Weir) : (setWeir n w x).holdRun = n.holdRun := rfl
@[simp] theorem setWeir_up (n : Node) (w : Nat) (x : Weir) : (setWeir n w x).up = n.up := rfl
@[simp] theorem rd_setWeir (n : Node) (w : Nat) (x : Weir) (r : Nat) : rd (setWeir n w x) r = rd n r := rfl
@[simp] theorem gf_setWeir (n : Node) (w : Nat) (x : Weir) (r : Nat) (g : Field) : gf (setWeir n w x) r g = gf n r g := rfl
@[simp] theorem ff_setWeir (n : Node) (w : Nat) (x : Weir) (r : Nat) (g : Field) : ff (setWeir n w x) r g = ff n r g := rfl

@[simp] theorem withLog_uid (n : Node) (l : LogState) : (withLog n l).uid = n.uid := rfl
@[simp] theorem withLog_regs (n : Node) (l : LogState) : (withLog n l).regs = n.regs := rfl
@[simp] theorem withLog_force (n : Node) (l : LogState) : (withLog n l).force = n.force := rfl
@[simp] theorem withLog_shadow (n : Node) (l : LogState) : (withLog n l).shadow = n.shadow := rfl
@[simp] theorem withLog_dram (n : Node) (l : LogState) : (withLog n l).dram = n.dram := rfl
@[simp] theorem withLog_image (n : Node) (l : LogState) : (withLog n l).image = n.image := rfl
@[simp] theorem withLog_view (n : Node) (l : LogState) : (withLog n l).view = n.view := rfl
@[simp] theorem withLog_free (n : Node) (l : LogState) : (withLog n l).free = n.free := rfl
@[simp] theorem withLog_out (n : Node) (l : LogState) : (withLog n l).out = n.out := rfl
@[simp] theorem withLog_qm (n : Node) (l : LogState) : (withLog n l).qm = { n.qm with log := l } := rfl
@[simp] theorem withLog_mil (n : Node) (l : LogState) : (withLog n l).mil = n.mil := rfl
@[simp] theorem withLog_tb (n : Node) (l : LogState) : (withLog n l).tb = n.tb := rfl
@[simp] theorem withLog_line (n : Node) (l : LogState) : (withLog n l).line = n.line := rfl
@[simp] theorem withLog_inn (n : Node) (l : LogState) : (withLog n l).inn = n.inn := rfl
@[simp] theorem withLog_du (n : Node) (l : LogState) : (withLog n l).du = n.du := rfl
@[simp] theorem withLog_au (n : Node) (l : LogState) : (withLog n l).au = n.au := rfl
@[simp] theorem withLog_cf (n : Node) (l : LogState) : (withLog n l).cf = n.cf := rfl
@[simp] theorem withLog_se (n : Node) (l : LogState) : (withLog n l).se = n.se := rfl
@[simp] theorem withLog_st (n : Node) (l : LogState) : (withLog n l).st = n.st := rfl
@[simp] theorem withLog_em (n : Node) (l : LogState) : (withLog n l).em = n.em := rfl
@[simp] theorem withLog_cb (n : Node) (l : LogState) : (withLog n l).cb = n.cb := rfl
@[simp] theorem withLog_sa (n : Node) (l : LogState) : (withLog n l).sa = n.sa := rfl
@[simp] theorem withLog_ls (n : Node) (l : LogState) : (withLog n l).ls = n.ls := rfl
@[simp] theorem withLog_pw (n : Node) (l : LogState) : (withLog n l).pw = n.pw := rfl
@[simp] theorem withLog_hb (n : Node) (l : LogState) : (withLog n l).hb = n.hb := rfl
@[simp] theorem withLog_holdRun (n : Node) (l : LogState) : (withLog n l).holdRun = n.holdRun := rfl
@[simp] theorem withLog_up (n : Node) (l : LogState) : (withLog n l).up = n.up := rfl
@[simp] theorem rd_withLog (n : Node) (l : LogState) (r : Nat) : rd (withLog n l) r = rd n r := rfl
@[simp] theorem gf_withLog (n : Node) (l : LogState) (r : Nat) (g : Field) : gf (withLog n l) r g = gf n r g := rfl
@[simp] theorem ff_withLog (n : Node) (l : LogState) (r : Nat) (g : Field) : ff (withLog n l) r g = ff n r g := rfl

@[simp] theorem setProg_uid (n : Node) (k : Nat) (p : Prog) : (setProg n k p).uid = n.uid := rfl
@[simp] theorem setProg_regs (n : Node) (k : Nat) (p : Prog) : (setProg n k p).regs = n.regs := rfl
@[simp] theorem setProg_force (n : Node) (k : Nat) (p : Prog) : (setProg n k p).force = n.force := rfl
@[simp] theorem setProg_shadow (n : Node) (k : Nat) (p : Prog) : (setProg n k p).shadow = n.shadow := rfl
@[simp] theorem setProg_dram (n : Node) (k : Nat) (p : Prog) : (setProg n k p).dram = n.dram := rfl
@[simp] theorem setProg_image (n : Node) (k : Nat) (p : Prog) : (setProg n k p).image = n.image := rfl
@[simp] theorem setProg_view (n : Node) (k : Nat) (p : Prog) : (setProg n k p).view = n.view := rfl
@[simp] theorem setProg_free (n : Node) (k : Nat) (p : Prog) : (setProg n k p).free = n.free := rfl
@[simp] theorem setProg_out (n : Node) (k : Nat) (p : Prog) : (setProg n k p).out = n.out := rfl
@[simp] theorem setProg_qm (n : Node) (k : Nat) (p : Prog) : (setProg n k p).qm = n.qm := rfl
@[simp] theorem setProg_mil (n : Node) (k : Nat) (p : Prog) : (setProg n k p).mil = { n.mil with progs := put {} n.mil.progs k p } := rfl
@[simp] theorem setProg_tb (n : Node) (k : Nat) (p : Prog) : (setProg n k p).tb = n.tb := rfl
@[simp] theorem setProg_line (n : Node) (k : Nat) (p : Prog) : (setProg n k p).line = n.line := rfl
@[simp] theorem setProg_inn (n : Node) (k : Nat) (p : Prog) : (setProg n k p).inn = n.inn := rfl
@[simp] theorem setProg_du (n : Node) (k : Nat) (p : Prog) : (setProg n k p).du = n.du := rfl
@[simp] theorem setProg_au (n : Node) (k : Nat) (p : Prog) : (setProg n k p).au = n.au := rfl
@[simp] theorem setProg_cf (n : Node) (k : Nat) (p : Prog) : (setProg n k p).cf = n.cf := rfl
@[simp] theorem setProg_se (n : Node) (k : Nat) (p : Prog) : (setProg n k p).se = n.se := rfl
@[simp] theorem setProg_st (n : Node) (k : Nat) (p : Prog) : (setProg n k p).st = n.st := rfl
@[simp] theorem setProg_em (n : Node) (k : Nat) (p : Prog) : (setProg n k p).em = n.em := rfl
@[simp] theorem setProg_cb (n : Node) (k : Nat) (p : Prog) : (setProg n k p).cb = n.cb := rfl
@[simp] theorem setProg_sa (n : Node) (k : Nat) (p : Prog) : (setProg n k p).sa = n.sa := rfl
@[simp] theorem setProg_ls (n : Node) (k : Nat) (p : Prog) : (setProg n k p).ls = n.ls := rfl
@[simp] theorem setProg_pw (n : Node) (k : Nat) (p : Prog) : (setProg n k p).pw = n.pw := rfl
@[simp] theorem setProg_hb (n : Node) (k : Nat) (p : Prog) : (setProg n k p).hb = n.hb := rfl
@[simp] theorem setProg_holdRun (n : Node) (k : Nat) (p : Prog) : (setProg n k p).holdRun = n.holdRun := rfl
@[simp] theorem setProg_up (n : Node) (k : Nat) (p : Prog) : (setProg n k p).up = n.up := rfl
@[simp] theorem rd_setProg (n : Node) (k : Nat) (p : Prog) (r : Nat) : rd (setProg n k p) r = rd n r := rfl
@[simp] theorem gf_setProg (n : Node) (k : Nat) (p : Prog) (r : Nat) (g : Field) : gf (setProg n k p) r g = gf n r g := rfl
@[simp] theorem ff_setProg (n : Node) (k : Nat) (p : Prog) (r : Nat) (g : Field) : ff (setProg n k p) r g = ff n r g := rfl

@[simp] theorem setEngine_uid (n : Node) (e : Nat) (x : Engine) : (setEngine n e x).uid = n.uid := rfl
@[simp] theorem setEngine_regs (n : Node) (e : Nat) (x : Engine) : (setEngine n e x).regs = n.regs := rfl
@[simp] theorem setEngine_force (n : Node) (e : Nat) (x : Engine) : (setEngine n e x).force = n.force := rfl
@[simp] theorem setEngine_shadow (n : Node) (e : Nat) (x : Engine) : (setEngine n e x).shadow = n.shadow := rfl
@[simp] theorem setEngine_dram (n : Node) (e : Nat) (x : Engine) : (setEngine n e x).dram = n.dram := rfl
@[simp] theorem setEngine_image (n : Node) (e : Nat) (x : Engine) : (setEngine n e x).image = n.image := rfl
@[simp] theorem setEngine_view (n : Node) (e : Nat) (x : Engine) : (setEngine n e x).view = n.view := rfl
@[simp] theorem setEngine_free (n : Node) (e : Nat) (x : Engine) : (setEngine n e x).free = n.free := rfl
@[simp] theorem setEngine_out (n : Node) (e : Nat) (x : Engine) : (setEngine n e x).out = n.out := rfl
@[simp] theorem setEngine_qm (n : Node) (e : Nat) (x : Engine) : (setEngine n e x).qm = n.qm := rfl
@[simp] theorem setEngine_mil (n : Node) (e : Nat) (x : Engine) : (setEngine n e x).mil = { n.mil with engines := put {} n.mil.engines e x } := rfl
@[simp] theorem setEngine_tb (n : Node) (e : Nat) (x : Engine) : (setEngine n e x).tb = n.tb := rfl
@[simp] theorem setEngine_line (n : Node) (e : Nat) (x : Engine) : (setEngine n e x).line = n.line := rfl
@[simp] theorem setEngine_inn (n : Node) (e : Nat) (x : Engine) : (setEngine n e x).inn = n.inn := rfl
@[simp] theorem setEngine_du (n : Node) (e : Nat) (x : Engine) : (setEngine n e x).du = n.du := rfl
@[simp] theorem setEngine_au (n : Node) (e : Nat) (x : Engine) : (setEngine n e x).au = n.au := rfl
@[simp] theorem setEngine_cf (n : Node) (e : Nat) (x : Engine) : (setEngine n e x).cf = n.cf := rfl
@[simp] theorem setEngine_se (n : Node) (e : Nat) (x : Engine) : (setEngine n e x).se = n.se := rfl
@[simp] theorem setEngine_st (n : Node) (e : Nat) (x : Engine) : (setEngine n e x).st = n.st := rfl
@[simp] theorem setEngine_em (n : Node) (e : Nat) (x : Engine) : (setEngine n e x).em = n.em := rfl
@[simp] theorem setEngine_cb (n : Node) (e : Nat) (x : Engine) : (setEngine n e x).cb = n.cb := rfl
@[simp] theorem setEngine_sa (n : Node) (e : Nat) (x : Engine) : (setEngine n e x).sa = n.sa := rfl
@[simp] theorem setEngine_ls (n : Node) (e : Nat) (x : Engine) : (setEngine n e x).ls = n.ls := rfl
@[simp] theorem setEngine_pw (n : Node) (e : Nat) (x : Engine) : (setEngine n e x).pw = n.pw := rfl
@[simp] theorem setEngine_hb (n : Node) (e : Nat) (x : Engine) : (setEngine n e x).hb = n.hb := rfl
@[simp] theorem setEngine_holdRun (n : Node) (e : Nat) (x : Engine) : (setEngine n e x).holdRun = n.holdRun := rfl
@[simp] theorem setEngine_up (n : Node) (e : Nat) (x : Engine) : (setEngine n e x).up = n.up := rfl
@[simp] theorem rd_setEngine (n : Node) (e : Nat) (x : Engine) (r : Nat) : rd (setEngine n e x) r = rd n r := rfl
@[simp] theorem gf_setEngine (n : Node) (e : Nat) (x : Engine) (r : Nat) (g : Field) : gf (setEngine n e x) r g = gf n r g := rfl
@[simp] theorem ff_setEngine (n : Node) (e : Nat) (x : Engine) (r : Nat) (g : Field) : ff (setEngine n e x) r g = ff n r g := rfl

@[simp] theorem setMac_uid (n : Node) (m : Nat) (x : Mac) : (setMac n m x).uid = n.uid := rfl
@[simp] theorem setMac_regs (n : Node) (m : Nat) (x : Mac) : (setMac n m x).regs = n.regs := rfl
@[simp] theorem setMac_force (n : Node) (m : Nat) (x : Mac) : (setMac n m x).force = n.force := rfl
@[simp] theorem setMac_shadow (n : Node) (m : Nat) (x : Mac) : (setMac n m x).shadow = n.shadow := rfl
@[simp] theorem setMac_dram (n : Node) (m : Nat) (x : Mac) : (setMac n m x).dram = n.dram := rfl
@[simp] theorem setMac_image (n : Node) (m : Nat) (x : Mac) : (setMac n m x).image = n.image := rfl
@[simp] theorem setMac_view (n : Node) (m : Nat) (x : Mac) : (setMac n m x).view = n.view := rfl
@[simp] theorem setMac_free (n : Node) (m : Nat) (x : Mac) : (setMac n m x).free = n.free := rfl
@[simp] theorem setMac_out (n : Node) (m : Nat) (x : Mac) : (setMac n m x).out = n.out := rfl
@[simp] theorem setMac_qm (n : Node) (m : Nat) (x : Mac) : (setMac n m x).qm = n.qm := rfl
@[simp] theorem setMac_mil (n : Node) (m : Nat) (x : Mac) : (setMac n m x).mil = n.mil := rfl
@[simp] theorem setMac_tb (n : Node) (m : Nat) (x : Mac) : (setMac n m x).tb = n.tb := rfl
@[simp] theorem setMac_line (n : Node) (m : Nat) (x : Mac) : (setMac n m x).line = n.line := rfl
@[simp] theorem setMac_inn (n : Node) (m : Nat) (x : Mac) : (setMac n m x).inn = n.inn := rfl
@[simp] theorem setMac_du (n : Node) (m : Nat) (x : Mac) : (setMac n m x).du = n.du := rfl
@[simp] theorem setMac_au (n : Node) (m : Nat) (x : Mac) : (setMac n m x).au = n.au := rfl
@[simp] theorem setMac_cf (n : Node) (m : Nat) (x : Mac) : (setMac n m x).cf = n.cf := rfl
@[simp] theorem setMac_se (n : Node) (m : Nat) (x : Mac) : (setMac n m x).se = n.se := rfl
@[simp] theorem setMac_st (n : Node) (m : Nat) (x : Mac) : (setMac n m x).st = n.st := rfl
@[simp] theorem setMac_em (n : Node) (m : Nat) (x : Mac) : (setMac n m x).em = put {} n.em m x := rfl
@[simp] theorem setMac_cb (n : Node) (m : Nat) (x : Mac) : (setMac n m x).cb = n.cb := rfl
@[simp] theorem setMac_sa (n : Node) (m : Nat) (x : Mac) : (setMac n m x).sa = n.sa := rfl
@[simp] theorem setMac_ls (n : Node) (m : Nat) (x : Mac) : (setMac n m x).ls = n.ls := rfl
@[simp] theorem setMac_pw (n : Node) (m : Nat) (x : Mac) : (setMac n m x).pw = n.pw := rfl
@[simp] theorem setMac_hb (n : Node) (m : Nat) (x : Mac) : (setMac n m x).hb = n.hb := rfl
@[simp] theorem setMac_holdRun (n : Node) (m : Nat) (x : Mac) : (setMac n m x).holdRun = n.holdRun := rfl
@[simp] theorem setMac_up (n : Node) (m : Nat) (x : Mac) : (setMac n m x).up = n.up := rfl
@[simp] theorem rd_setMac (n : Node) (m : Nat) (x : Mac) (r : Nat) : rd (setMac n m x) r = rd n r := rfl
@[simp] theorem gf_setMac (n : Node) (m : Nat) (x : Mac) (r : Nat) (g : Field) : gf (setMac n m x) r g = gf n r g := rfl
@[simp] theorem ff_setMac (n : Node) (m : Nat) (x : Mac) (r : Nat) (g : Field) : ff (setMac n m x) r g = ff n r g := rfl

@[simp] theorem setCan_uid (n : Node) (c : Nat) (x : Can) : (setCan n c x).uid = n.uid := rfl
@[simp] theorem setCan_regs (n : Node) (c : Nat) (x : Can) : (setCan n c x).regs = n.regs := rfl
@[simp] theorem setCan_force (n : Node) (c : Nat) (x : Can) : (setCan n c x).force = n.force := rfl
@[simp] theorem setCan_shadow (n : Node) (c : Nat) (x : Can) : (setCan n c x).shadow = n.shadow := rfl
@[simp] theorem setCan_dram (n : Node) (c : Nat) (x : Can) : (setCan n c x).dram = n.dram := rfl
@[simp] theorem setCan_image (n : Node) (c : Nat) (x : Can) : (setCan n c x).image = n.image := rfl
@[simp] theorem setCan_view (n : Node) (c : Nat) (x : Can) : (setCan n c x).view = n.view := rfl
@[simp] theorem setCan_free (n : Node) (c : Nat) (x : Can) : (setCan n c x).free = n.free := rfl
@[simp] theorem setCan_out (n : Node) (c : Nat) (x : Can) : (setCan n c x).out = n.out := rfl
@[simp] theorem setCan_qm (n : Node) (c : Nat) (x : Can) : (setCan n c x).qm = n.qm := rfl
@[simp] theorem setCan_mil (n : Node) (c : Nat) (x : Can) : (setCan n c x).mil = n.mil := rfl
@[simp] theorem setCan_tb (n : Node) (c : Nat) (x : Can) : (setCan n c x).tb = n.tb := rfl
@[simp] theorem setCan_line (n : Node) (c : Nat) (x : Can) : (setCan n c x).line = n.line := rfl
@[simp] theorem setCan_inn (n : Node) (c : Nat) (x : Can) : (setCan n c x).inn = n.inn := rfl
@[simp] theorem setCan_du (n : Node) (c : Nat) (x : Can) : (setCan n c x).du = n.du := rfl
@[simp] theorem setCan_au (n : Node) (c : Nat) (x : Can) : (setCan n c x).au = n.au := rfl
@[simp] theorem setCan_cf (n : Node) (c : Nat) (x : Can) : (setCan n c x).cf = n.cf := rfl
@[simp] theorem setCan_se (n : Node) (c : Nat) (x : Can) : (setCan n c x).se = n.se := rfl
@[simp] theorem setCan_st (n : Node) (c : Nat) (x : Can) : (setCan n c x).st = n.st := rfl
@[simp] theorem setCan_em (n : Node) (c : Nat) (x : Can) : (setCan n c x).em = n.em := rfl
@[simp] theorem setCan_cb (n : Node) (c : Nat) (x : Can) : (setCan n c x).cb = put {} n.cb c x := rfl
@[simp] theorem setCan_sa (n : Node) (c : Nat) (x : Can) : (setCan n c x).sa = n.sa := rfl
@[simp] theorem setCan_ls (n : Node) (c : Nat) (x : Can) : (setCan n c x).ls = n.ls := rfl
@[simp] theorem setCan_pw (n : Node) (c : Nat) (x : Can) : (setCan n c x).pw = n.pw := rfl
@[simp] theorem setCan_hb (n : Node) (c : Nat) (x : Can) : (setCan n c x).hb = n.hb := rfl
@[simp] theorem setCan_holdRun (n : Node) (c : Nat) (x : Can) : (setCan n c x).holdRun = n.holdRun := rfl
@[simp] theorem setCan_up (n : Node) (c : Nat) (x : Can) : (setCan n c x).up = n.up := rfl
@[simp] theorem rd_setCan (n : Node) (c : Nat) (x : Can) (r : Nat) : rd (setCan n c x) r = rd n r := rfl
@[simp] theorem gf_setCan (n : Node) (c : Nat) (x : Can) (r : Nat) (g : Field) : gf (setCan n c x) r g = gf n r g := rfl
@[simp] theorem ff_setCan (n : Node) (c : Nat) (x : Can) (r : Nat) (g : Field) : ff (setCan n c x) r g = ff n r g := rfl

@[simp] theorem setBranch_uid (n : Node) (b : Nat) (x : Branch) : (setBranch n b x).uid = n.uid := rfl
@[simp] theorem setBranch_regs (n : Node) (b : Nat) (x : Branch) : (setBranch n b x).regs = n.regs := rfl
@[simp] theorem setBranch_force (n : Node) (b : Nat) (x : Branch) : (setBranch n b x).force = n.force := rfl
@[simp] theorem setBranch_shadow (n : Node) (b : Nat) (x : Branch) : (setBranch n b x).shadow = n.shadow := rfl
@[simp] theorem setBranch_dram (n : Node) (b : Nat) (x : Branch) : (setBranch n b x).dram = n.dram := rfl
@[simp] theorem setBranch_image (n : Node) (b : Nat) (x : Branch) : (setBranch n b x).image = n.image := rfl
@[simp] theorem setBranch_view (n : Node) (b : Nat) (x : Branch) : (setBranch n b x).view = n.view := rfl
@[simp] theorem setBranch_free (n : Node) (b : Nat) (x : Branch) : (setBranch n b x).free = n.free := rfl
@[simp] theorem setBranch_out (n : Node) (b : Nat) (x : Branch) : (setBranch n b x).out = n.out := rfl
@[simp] theorem setBranch_qm (n : Node) (b : Nat) (x : Branch) : (setBranch n b x).qm = n.qm := rfl
@[simp] theorem setBranch_mil (n : Node) (b : Nat) (x : Branch) : (setBranch n b x).mil = n.mil := rfl
@[simp] theorem setBranch_tb (n : Node) (b : Nat) (x : Branch) : (setBranch n b x).tb = n.tb := rfl
@[simp] theorem setBranch_line (n : Node) (b : Nat) (x : Branch) : (setBranch n b x).line = n.line := rfl
@[simp] theorem setBranch_inn (n : Node) (b : Nat) (x : Branch) : (setBranch n b x).inn = n.inn := rfl
@[simp] theorem setBranch_du (n : Node) (b : Nat) (x : Branch) : (setBranch n b x).du = n.du := rfl
@[simp] theorem setBranch_au (n : Node) (b : Nat) (x : Branch) : (setBranch n b x).au = n.au := rfl
@[simp] theorem setBranch_cf (n : Node) (b : Nat) (x : Branch) : (setBranch n b x).cf = n.cf := rfl
@[simp] theorem setBranch_se (n : Node) (b : Nat) (x : Branch) : (setBranch n b x).se = n.se := rfl
@[simp] theorem setBranch_st (n : Node) (b : Nat) (x : Branch) : (setBranch n b x).st = put {} n.st b x := rfl
@[simp] theorem setBranch_em (n : Node) (b : Nat) (x : Branch) : (setBranch n b x).em = n.em := rfl
@[simp] theorem setBranch_cb (n : Node) (b : Nat) (x : Branch) : (setBranch n b x).cb = n.cb := rfl
@[simp] theorem setBranch_sa (n : Node) (b : Nat) (x : Branch) : (setBranch n b x).sa = n.sa := rfl
@[simp] theorem setBranch_ls (n : Node) (b : Nat) (x : Branch) : (setBranch n b x).ls = n.ls := rfl
@[simp] theorem setBranch_pw (n : Node) (b : Nat) (x : Branch) : (setBranch n b x).pw = n.pw := rfl
@[simp] theorem setBranch_hb (n : Node) (b : Nat) (x : Branch) : (setBranch n b x).hb = n.hb := rfl
@[simp] theorem setBranch_holdRun (n : Node) (b : Nat) (x : Branch) : (setBranch n b x).holdRun = n.holdRun := rfl
@[simp] theorem setBranch_up (n : Node) (b : Nat) (x : Branch) : (setBranch n b x).up = n.up := rfl
@[simp] theorem rd_setBranch (n : Node) (b : Nat) (x : Branch) (r : Nat) : rd (setBranch n b x) r = rd n r := rfl
@[simp] theorem gf_setBranch (n : Node) (b : Nat) (x : Branch) (r : Nat) (g : Field) : gf (setBranch n b x) r g = gf n r g := rfl
@[simp] theorem ff_setBranch (n : Node) (b : Nat) (x : Branch) (r : Nat) (g : Field) : ff (setBranch n b x) r g = ff n r g := rfl

@[simp] theorem withTb_uid (n : Node) (f : TbState → TbState) : (withTb n f).uid = n.uid := rfl
@[simp] theorem withTb_regs (n : Node) (f : TbState → TbState) : (withTb n f).regs = n.regs := rfl
@[simp] theorem withTb_force (n : Node) (f : TbState → TbState) : (withTb n f).force = n.force := rfl
@[simp] theorem withTb_shadow (n : Node) (f : TbState → TbState) : (withTb n f).shadow = n.shadow := rfl
@[simp] theorem withTb_dram (n : Node) (f : TbState → TbState) : (withTb n f).dram = n.dram := rfl
@[simp] theorem withTb_image (n : Node) (f : TbState → TbState) : (withTb n f).image = n.image := rfl
@[simp] theorem withTb_view (n : Node) (f : TbState → TbState) : (withTb n f).view = n.view := rfl
@[simp] theorem withTb_free (n : Node) (f : TbState → TbState) : (withTb n f).free = n.free := rfl
@[simp] theorem withTb_out (n : Node) (f : TbState → TbState) : (withTb n f).out = n.out := rfl
@[simp] theorem withTb_qm (n : Node) (f : TbState → TbState) : (withTb n f).qm = n.qm := rfl
@[simp] theorem withTb_mil (n : Node) (f : TbState → TbState) : (withTb n f).mil = n.mil := rfl
@[simp] theorem withTb_tb (n : Node) (f : TbState → TbState) : (withTb n f).tb = f n.tb := rfl
@[simp] theorem withTb_line (n : Node) (f : TbState → TbState) : (withTb n f).line = n.line := rfl
@[simp] theorem withTb_inn (n : Node) (f : TbState → TbState) : (withTb n f).inn = n.inn := rfl
@[simp] theorem withTb_du (n : Node) (f : TbState → TbState) : (withTb n f).du = n.du := rfl
@[simp] theorem withTb_au (n : Node) (f : TbState → TbState) : (withTb n f).au = n.au := rfl
@[simp] theorem withTb_cf (n : Node) (f : TbState → TbState) : (withTb n f).cf = n.cf := rfl
@[simp] theorem withTb_se (n : Node) (f : TbState → TbState) : (withTb n f).se = n.se := rfl
@[simp] theorem withTb_st (n : Node) (f : TbState → TbState) : (withTb n f).st = n.st := rfl
@[simp] theorem withTb_em (n : Node) (f : TbState → TbState) : (withTb n f).em = n.em := rfl
@[simp] theorem withTb_cb (n : Node) (f : TbState → TbState) : (withTb n f).cb = n.cb := rfl
@[simp] theorem withTb_sa (n : Node) (f : TbState → TbState) : (withTb n f).sa = n.sa := rfl
@[simp] theorem withTb_ls (n : Node) (f : TbState → TbState) : (withTb n f).ls = n.ls := rfl
@[simp] theorem withTb_pw (n : Node) (f : TbState → TbState) : (withTb n f).pw = n.pw := rfl
@[simp] theorem withTb_hb (n : Node) (f : TbState → TbState) : (withTb n f).hb = n.hb := rfl
@[simp] theorem withTb_holdRun (n : Node) (f : TbState → TbState) : (withTb n f).holdRun = n.holdRun := rfl
@[simp] theorem withTb_up (n : Node) (f : TbState → TbState) : (withTb n f).up = n.up := rfl
@[simp] theorem rd_withTb (n : Node) (f : TbState → TbState) (r : Nat) : rd (withTb n f) r = rd n r := rfl
@[simp] theorem gf_withTb (n : Node) (f : TbState → TbState) (r : Nat) (g : Field) : gf (withTb n f) r g = gf n r g := rfl
@[simp] theorem ff_withTb (n : Node) (f : TbState → TbState) (r : Nat) (g : Field) : ff (withTb n f) r g = ff n r g := rfl

@[simp] theorem withIn_uid (n : Node) (f : InState → InState) : (withIn n f).uid = n.uid := rfl
@[simp] theorem withIn_regs (n : Node) (f : InState → InState) : (withIn n f).regs = n.regs := rfl
@[simp] theorem withIn_force (n : Node) (f : InState → InState) : (withIn n f).force = n.force := rfl
@[simp] theorem withIn_shadow (n : Node) (f : InState → InState) : (withIn n f).shadow = n.shadow := rfl
@[simp] theorem withIn_dram (n : Node) (f : InState → InState) : (withIn n f).dram = n.dram := rfl
@[simp] theorem withIn_image (n : Node) (f : InState → InState) : (withIn n f).image = n.image := rfl
@[simp] theorem withIn_view (n : Node) (f : InState → InState) : (withIn n f).view = n.view := rfl
@[simp] theorem withIn_free (n : Node) (f : InState → InState) : (withIn n f).free = n.free := rfl
@[simp] theorem withIn_out (n : Node) (f : InState → InState) : (withIn n f).out = n.out := rfl
@[simp] theorem withIn_qm (n : Node) (f : InState → InState) : (withIn n f).qm = n.qm := rfl
@[simp] theorem withIn_mil (n : Node) (f : InState → InState) : (withIn n f).mil = n.mil := rfl
@[simp] theorem withIn_tb (n : Node) (f : InState → InState) : (withIn n f).tb = n.tb := rfl
@[simp] theorem withIn_line (n : Node) (f : InState → InState) : (withIn n f).line = n.line := rfl
@[simp] theorem withIn_inn (n : Node) (f : InState → InState) : (withIn n f).inn = f n.inn := rfl
@[simp] theorem withIn_du (n : Node) (f : InState → InState) : (withIn n f).du = n.du := rfl
@[simp] theorem withIn_au (n : Node) (f : InState → InState) : (withIn n f).au = n.au := rfl
@[simp] theorem withIn_cf (n : Node) (f : InState → InState) : (withIn n f).cf = n.cf := rfl
@[simp] theorem withIn_se (n : Node) (f : InState → InState) : (withIn n f).se = n.se := rfl
@[simp] theorem withIn_st (n : Node) (f : InState → InState) : (withIn n f).st = n.st := rfl
@[simp] theorem withIn_em (n : Node) (f : InState → InState) : (withIn n f).em = n.em := rfl
@[simp] theorem withIn_cb (n : Node) (f : InState → InState) : (withIn n f).cb = n.cb := rfl
@[simp] theorem withIn_sa (n : Node) (f : InState → InState) : (withIn n f).sa = n.sa := rfl
@[simp] theorem withIn_ls (n : Node) (f : InState → InState) : (withIn n f).ls = n.ls := rfl
@[simp] theorem withIn_pw (n : Node) (f : InState → InState) : (withIn n f).pw = n.pw := rfl
@[simp] theorem withIn_hb (n : Node) (f : InState → InState) : (withIn n f).hb = n.hb := rfl
@[simp] theorem withIn_holdRun (n : Node) (f : InState → InState) : (withIn n f).holdRun = n.holdRun := rfl
@[simp] theorem withIn_up (n : Node) (f : InState → InState) : (withIn n f).up = n.up := rfl
@[simp] theorem rd_withIn (n : Node) (f : InState → InState) (r : Nat) : rd (withIn n f) r = rd n r := rfl
@[simp] theorem gf_withIn (n : Node) (f : InState → InState) (r : Nat) (g : Field) : gf (withIn n f) r g = gf n r g := rfl
@[simp] theorem ff_withIn (n : Node) (f : InState → InState) (r : Nat) (g : Field) : ff (withIn n f) r g = ff n r g := rfl

@[simp] theorem withDu_uid (n : Node) (f : DuState → DuState) : (withDu n f).uid = n.uid := rfl
@[simp] theorem withDu_regs (n : Node) (f : DuState → DuState) : (withDu n f).regs = n.regs := rfl
@[simp] theorem withDu_force (n : Node) (f : DuState → DuState) : (withDu n f).force = n.force := rfl
@[simp] theorem withDu_shadow (n : Node) (f : DuState → DuState) : (withDu n f).shadow = n.shadow := rfl
@[simp] theorem withDu_dram (n : Node) (f : DuState → DuState) : (withDu n f).dram = n.dram := rfl
@[simp] theorem withDu_image (n : Node) (f : DuState → DuState) : (withDu n f).image = n.image := rfl
@[simp] theorem withDu_view (n : Node) (f : DuState → DuState) : (withDu n f).view = n.view := rfl
@[simp] theorem withDu_free (n : Node) (f : DuState → DuState) : (withDu n f).free = n.free := rfl
@[simp] theorem withDu_out (n : Node) (f : DuState → DuState) : (withDu n f).out = n.out := rfl
@[simp] theorem withDu_qm (n : Node) (f : DuState → DuState) : (withDu n f).qm = n.qm := rfl
@[simp] theorem withDu_mil (n : Node) (f : DuState → DuState) : (withDu n f).mil = n.mil := rfl
@[simp] theorem withDu_tb (n : Node) (f : DuState → DuState) : (withDu n f).tb = n.tb := rfl
@[simp] theorem withDu_line (n : Node) (f : DuState → DuState) : (withDu n f).line = n.line := rfl
@[simp] theorem withDu_inn (n : Node) (f : DuState → DuState) : (withDu n f).inn = n.inn := rfl
@[simp] theorem withDu_du (n : Node) (f : DuState → DuState) : (withDu n f).du = f n.du := rfl
@[simp] theorem withDu_au (n : Node) (f : DuState → DuState) : (withDu n f).au = n.au := rfl
@[simp] theorem withDu_cf (n : Node) (f : DuState → DuState) : (withDu n f).cf = n.cf := rfl
@[simp] theorem withDu_se (n : Node) (f : DuState → DuState) : (withDu n f).se = n.se := rfl
@[simp] theorem withDu_st (n : Node) (f : DuState → DuState) : (withDu n f).st = n.st := rfl
@[simp] theorem withDu_em (n : Node) (f : DuState → DuState) : (withDu n f).em = n.em := rfl
@[simp] theorem withDu_cb (n : Node) (f : DuState → DuState) : (withDu n f).cb = n.cb := rfl
@[simp] theorem withDu_sa (n : Node) (f : DuState → DuState) : (withDu n f).sa = n.sa := rfl
@[simp] theorem withDu_ls (n : Node) (f : DuState → DuState) : (withDu n f).ls = n.ls := rfl
@[simp] theorem withDu_pw (n : Node) (f : DuState → DuState) : (withDu n f).pw = n.pw := rfl
@[simp] theorem withDu_hb (n : Node) (f : DuState → DuState) : (withDu n f).hb = n.hb := rfl
@[simp] theorem withDu_holdRun (n : Node) (f : DuState → DuState) : (withDu n f).holdRun = n.holdRun := rfl
@[simp] theorem withDu_up (n : Node) (f : DuState → DuState) : (withDu n f).up = n.up := rfl
@[simp] theorem rd_withDu (n : Node) (f : DuState → DuState) (r : Nat) : rd (withDu n f) r = rd n r := rfl
@[simp] theorem gf_withDu (n : Node) (f : DuState → DuState) (r : Nat) (g : Field) : gf (withDu n f) r g = gf n r g := rfl
@[simp] theorem ff_withDu (n : Node) (f : DuState → DuState) (r : Nat) (g : Field) : ff (withDu n f) r g = ff n r g := rfl

@[simp] theorem withAu_uid (n : Node) (f : AuState → AuState) : (withAu n f).uid = n.uid := rfl
@[simp] theorem withAu_regs (n : Node) (f : AuState → AuState) : (withAu n f).regs = n.regs := rfl
@[simp] theorem withAu_force (n : Node) (f : AuState → AuState) : (withAu n f).force = n.force := rfl
@[simp] theorem withAu_shadow (n : Node) (f : AuState → AuState) : (withAu n f).shadow = n.shadow := rfl
@[simp] theorem withAu_dram (n : Node) (f : AuState → AuState) : (withAu n f).dram = n.dram := rfl
@[simp] theorem withAu_image (n : Node) (f : AuState → AuState) : (withAu n f).image = n.image := rfl
@[simp] theorem withAu_view (n : Node) (f : AuState → AuState) : (withAu n f).view = n.view := rfl
@[simp] theorem withAu_free (n : Node) (f : AuState → AuState) : (withAu n f).free = n.free := rfl
@[simp] theorem withAu_out (n : Node) (f : AuState → AuState) : (withAu n f).out = n.out := rfl
@[simp] theorem withAu_qm (n : Node) (f : AuState → AuState) : (withAu n f).qm = n.qm := rfl
@[simp] theorem withAu_mil (n : Node) (f : AuState → AuState) : (withAu n f).mil = n.mil := rfl
@[simp] theorem withAu_tb (n : Node) (f : AuState → AuState) : (withAu n f).tb = n.tb := rfl
@[simp] theorem withAu_line (n : Node) (f : AuState → AuState) : (withAu n f).line = n.line := rfl
@[simp] theorem withAu_inn (n : Node) (f : AuState → AuState) : (withAu n f).inn = n.inn := rfl
@[simp] theorem withAu_du (n : Node) (f : AuState → AuState) : (withAu n f).du = n.du := rfl
@[simp] theorem withAu_au (n : Node) (f : AuState → AuState) : (withAu n f).au = f n.au := rfl
@[simp] theorem withAu_cf (n : Node) (f : AuState → AuState) : (withAu n f).cf = n.cf := rfl
@[simp] theorem withAu_se (n : Node) (f : AuState → AuState) : (withAu n f).se = n.se := rfl
@[simp] theorem withAu_st (n : Node) (f : AuState → AuState) : (withAu n f).st = n.st := rfl
@[simp] theorem withAu_em (n : Node) (f : AuState → AuState) : (withAu n f).em = n.em := rfl
@[simp] theorem withAu_cb (n : Node) (f : AuState → AuState) : (withAu n f).cb = n.cb := rfl
@[simp] theorem withAu_sa (n : Node) (f : AuState → AuState) : (withAu n f).sa = n.sa := rfl
@[simp] theorem withAu_ls (n : Node) (f : AuState → AuState) : (withAu n f).ls = n.ls := rfl
@[simp] theorem withAu_pw (n : Node) (f : AuState → AuState) : (withAu n f).pw = n.pw := rfl
@[simp] theorem withAu_hb (n : Node) (f : AuState → AuState) : (withAu n f).hb = n.hb := rfl
@[simp] theorem withAu_holdRun (n : Node) (f : AuState → AuState) : (withAu n f).holdRun = n.holdRun := rfl
@[simp] theorem withAu_up (n : Node) (f : AuState → AuState) : (withAu n f).up = n.up := rfl
@[simp] theorem rd_withAu (n : Node) (f : AuState → AuState) (r : Nat) : rd (withAu n f) r = rd n r := rfl
@[simp] theorem gf_withAu (n : Node) (f : AuState → AuState) (r : Nat) (g : Field) : gf (withAu n f) r g = gf n r g := rfl
@[simp] theorem ff_withAu (n : Node) (f : AuState → AuState) (r : Nat) (g : Field) : ff (withAu n f) r g = ff n r g := rfl

@[simp] theorem withCf_uid (n : Node) (f : CfState → CfState) : (withCf n f).uid = n.uid := rfl
@[simp] theorem withCf_regs (n : Node) (f : CfState → CfState) : (withCf n f).regs = n.regs := rfl
@[simp] theorem withCf_force (n : Node) (f : CfState → CfState) : (withCf n f).force = n.force := rfl
@[simp] theorem withCf_shadow (n : Node) (f : CfState → CfState) : (withCf n f).shadow = n.shadow := rfl
@[simp] theorem withCf_dram (n : Node) (f : CfState → CfState) : (withCf n f).dram = n.dram := rfl
@[simp] theorem withCf_image (n : Node) (f : CfState → CfState) : (withCf n f).image = n.image := rfl
@[simp] theorem withCf_view (n : Node) (f : CfState → CfState) : (withCf n f).view = n.view := rfl
@[simp] theorem withCf_free (n : Node) (f : CfState → CfState) : (withCf n f).free = n.free := rfl
@[simp] theorem withCf_out (n : Node) (f : CfState → CfState) : (withCf n f).out = n.out := rfl
@[simp] theorem withCf_qm (n : Node) (f : CfState → CfState) : (withCf n f).qm = n.qm := rfl
@[simp] theorem withCf_mil (n : Node) (f : CfState → CfState) : (withCf n f).mil = n.mil := rfl
@[simp] theorem withCf_tb (n : Node) (f : CfState → CfState) : (withCf n f).tb = n.tb := rfl
@[simp] theorem withCf_line (n : Node) (f : CfState → CfState) : (withCf n f).line = n.line := rfl
@[simp] theorem withCf_inn (n : Node) (f : CfState → CfState) : (withCf n f).inn = n.inn := rfl
@[simp] theorem withCf_du (n : Node) (f : CfState → CfState) : (withCf n f).du = n.du := rfl
@[simp] theorem withCf_au (n : Node) (f : CfState → CfState) : (withCf n f).au = n.au := rfl
@[simp] theorem withCf_cf (n : Node) (f : CfState → CfState) : (withCf n f).cf = f n.cf := rfl
@[simp] theorem withCf_se (n : Node) (f : CfState → CfState) : (withCf n f).se = n.se := rfl
@[simp] theorem withCf_st (n : Node) (f : CfState → CfState) : (withCf n f).st = n.st := rfl
@[simp] theorem withCf_em (n : Node) (f : CfState → CfState) : (withCf n f).em = n.em := rfl
@[simp] theorem withCf_cb (n : Node) (f : CfState → CfState) : (withCf n f).cb = n.cb := rfl
@[simp] theorem withCf_sa (n : Node) (f : CfState → CfState) : (withCf n f).sa = n.sa := rfl
@[simp] theorem withCf_ls (n : Node) (f : CfState → CfState) : (withCf n f).ls = n.ls := rfl
@[simp] theorem withCf_pw (n : Node) (f : CfState → CfState) : (withCf n f).pw = n.pw := rfl
@[simp] theorem withCf_hb (n : Node) (f : CfState → CfState) : (withCf n f).hb = n.hb := rfl
@[simp] theorem withCf_holdRun (n : Node) (f : CfState → CfState) : (withCf n f).holdRun = n.holdRun := rfl
@[simp] theorem withCf_up (n : Node) (f : CfState → CfState) : (withCf n f).up = n.up := rfl
@[simp] theorem rd_withCf (n : Node) (f : CfState → CfState) (r : Nat) : rd (withCf n f) r = rd n r := rfl
@[simp] theorem gf_withCf (n : Node) (f : CfState → CfState) (r : Nat) (g : Field) : gf (withCf n f) r g = gf n r g := rfl
@[simp] theorem ff_withCf (n : Node) (f : CfState → CfState) (r : Nat) (g : Field) : ff (withCf n f) r g = ff n r g := rfl

@[simp] theorem withSe_uid (n : Node) (f : SeState → SeState) : (withSe n f).uid = n.uid := rfl
@[simp] theorem withSe_regs (n : Node) (f : SeState → SeState) : (withSe n f).regs = n.regs := rfl
@[simp] theorem withSe_force (n : Node) (f : SeState → SeState) : (withSe n f).force = n.force := rfl
@[simp] theorem withSe_shadow (n : Node) (f : SeState → SeState) : (withSe n f).shadow = n.shadow := rfl
@[simp] theorem withSe_dram (n : Node) (f : SeState → SeState) : (withSe n f).dram = n.dram := rfl
@[simp] theorem withSe_image (n : Node) (f : SeState → SeState) : (withSe n f).image = n.image := rfl
@[simp] theorem withSe_view (n : Node) (f : SeState → SeState) : (withSe n f).view = n.view := rfl
@[simp] theorem withSe_free (n : Node) (f : SeState → SeState) : (withSe n f).free = n.free := rfl
@[simp] theorem withSe_out (n : Node) (f : SeState → SeState) : (withSe n f).out = n.out := rfl
@[simp] theorem withSe_qm (n : Node) (f : SeState → SeState) : (withSe n f).qm = n.qm := rfl
@[simp] theorem withSe_mil (n : Node) (f : SeState → SeState) : (withSe n f).mil = n.mil := rfl
@[simp] theorem withSe_tb (n : Node) (f : SeState → SeState) : (withSe n f).tb = n.tb := rfl
@[simp] theorem withSe_line (n : Node) (f : SeState → SeState) : (withSe n f).line = n.line := rfl
@[simp] theorem withSe_inn (n : Node) (f : SeState → SeState) : (withSe n f).inn = n.inn := rfl
@[simp] theorem withSe_du (n : Node) (f : SeState → SeState) : (withSe n f).du = n.du := rfl
@[simp] theorem withSe_au (n : Node) (f : SeState → SeState) : (withSe n f).au = n.au := rfl
@[simp] theorem withSe_cf (n : Node) (f : SeState → SeState) : (withSe n f).cf = n.cf := rfl
@[simp] theorem withSe_se (n : Node) (f : SeState → SeState) : (withSe n f).se = f n.se := rfl
@[simp] theorem withSe_st (n : Node) (f : SeState → SeState) : (withSe n f).st = n.st := rfl
@[simp] theorem withSe_em (n : Node) (f : SeState → SeState) : (withSe n f).em = n.em := rfl
@[simp] theorem withSe_cb (n : Node) (f : SeState → SeState) : (withSe n f).cb = n.cb := rfl
@[simp] theorem withSe_sa (n : Node) (f : SeState → SeState) : (withSe n f).sa = n.sa := rfl
@[simp] theorem withSe_ls (n : Node) (f : SeState → SeState) : (withSe n f).ls = n.ls := rfl
@[simp] theorem withSe_pw (n : Node) (f : SeState → SeState) : (withSe n f).pw = n.pw := rfl
@[simp] theorem withSe_hb (n : Node) (f : SeState → SeState) : (withSe n f).hb = n.hb := rfl
@[simp] theorem withSe_holdRun (n : Node) (f : SeState → SeState) : (withSe n f).holdRun = n.holdRun := rfl
@[simp] theorem withSe_up (n : Node) (f : SeState → SeState) : (withSe n f).up = n.up := rfl
@[simp] theorem rd_withSe (n : Node) (f : SeState → SeState) (r : Nat) : rd (withSe n f) r = rd n r := rfl
@[simp] theorem gf_withSe (n : Node) (f : SeState → SeState) (r : Nat) (g : Field) : gf (withSe n f) r g = gf n r g := rfl
@[simp] theorem ff_withSe (n : Node) (f : SeState → SeState) (r : Nat) (g : Field) : ff (withSe n f) r g = ff n r g := rfl

@[simp] theorem withSf_uid (n : Node) (f : SafeState → SafeState) : (withSf n f).uid = n.uid := rfl
@[simp] theorem withSf_regs (n : Node) (f : SafeState → SafeState) : (withSf n f).regs = n.regs := rfl
@[simp] theorem withSf_force (n : Node) (f : SafeState → SafeState) : (withSf n f).force = n.force := rfl
@[simp] theorem withSf_shadow (n : Node) (f : SafeState → SafeState) : (withSf n f).shadow = n.shadow := rfl
@[simp] theorem withSf_dram (n : Node) (f : SafeState → SafeState) : (withSf n f).dram = n.dram := rfl
@[simp] theorem withSf_image (n : Node) (f : SafeState → SafeState) : (withSf n f).image = n.image := rfl
@[simp] theorem withSf_view (n : Node) (f : SafeState → SafeState) : (withSf n f).view = n.view := rfl
@[simp] theorem withSf_free (n : Node) (f : SafeState → SafeState) : (withSf n f).free = n.free := rfl
@[simp] theorem withSf_out (n : Node) (f : SafeState → SafeState) : (withSf n f).out = n.out := rfl
@[simp] theorem withSf_qm (n : Node) (f : SafeState → SafeState) : (withSf n f).qm = n.qm := rfl
@[simp] theorem withSf_mil (n : Node) (f : SafeState → SafeState) : (withSf n f).mil = n.mil := rfl
@[simp] theorem withSf_tb (n : Node) (f : SafeState → SafeState) : (withSf n f).tb = n.tb := rfl
@[simp] theorem withSf_line (n : Node) (f : SafeState → SafeState) : (withSf n f).line = n.line := rfl
@[simp] theorem withSf_inn (n : Node) (f : SafeState → SafeState) : (withSf n f).inn = n.inn := rfl
@[simp] theorem withSf_du (n : Node) (f : SafeState → SafeState) : (withSf n f).du = n.du := rfl
@[simp] theorem withSf_au (n : Node) (f : SafeState → SafeState) : (withSf n f).au = n.au := rfl
@[simp] theorem withSf_cf (n : Node) (f : SafeState → SafeState) : (withSf n f).cf = n.cf := rfl
@[simp] theorem withSf_se (n : Node) (f : SafeState → SafeState) : (withSf n f).se = n.se := rfl
@[simp] theorem withSf_st (n : Node) (f : SafeState → SafeState) : (withSf n f).st = n.st := rfl
@[simp] theorem withSf_em (n : Node) (f : SafeState → SafeState) : (withSf n f).em = n.em := rfl
@[simp] theorem withSf_cb (n : Node) (f : SafeState → SafeState) : (withSf n f).cb = n.cb := rfl
@[simp] theorem withSf_sa (n : Node) (f : SafeState → SafeState) : (withSf n f).sa = f n.sa := rfl
@[simp] theorem withSf_ls (n : Node) (f : SafeState → SafeState) : (withSf n f).ls = n.ls := rfl
@[simp] theorem withSf_pw (n : Node) (f : SafeState → SafeState) : (withSf n f).pw = n.pw := rfl
@[simp] theorem withSf_hb (n : Node) (f : SafeState → SafeState) : (withSf n f).hb = n.hb := rfl
@[simp] theorem withSf_holdRun (n : Node) (f : SafeState → SafeState) : (withSf n f).holdRun = n.holdRun := rfl
@[simp] theorem withSf_up (n : Node) (f : SafeState → SafeState) : (withSf n f).up = n.up := rfl
@[simp] theorem rd_withSf (n : Node) (f : SafeState → SafeState) (r : Nat) : rd (withSf n f) r = rd n r := rfl
@[simp] theorem gf_withSf (n : Node) (f : SafeState → SafeState) (r : Nat) (g : Field) : gf (withSf n f) r g = gf n r g := rfl
@[simp] theorem ff_withSf (n : Node) (f : SafeState → SafeState) (r : Nat) (g : Field) : ff (withSf n f) r g = ff n r g := rfl

@[simp] theorem withLs_uid (n : Node) (f : LoadState → LoadState) : (withLs n f).uid = n.uid := rfl
@[simp] theorem withLs_regs (n : Node) (f : LoadState → LoadState) : (withLs n f).regs = n.regs := rfl
@[simp] theorem withLs_force (n : Node) (f : LoadState → LoadState) : (withLs n f).force = n.force := rfl
@[simp] theorem withLs_shadow (n : Node) (f : LoadState → LoadState) : (withLs n f).shadow = n.shadow := rfl
@[simp] theorem withLs_dram (n : Node) (f : LoadState → LoadState) : (withLs n f).dram = n.dram := rfl
@[simp] theorem withLs_image (n : Node) (f : LoadState → LoadState) : (withLs n f).image = n.image := rfl
@[simp] theorem withLs_view (n : Node) (f : LoadState → LoadState) : (withLs n f).view = n.view := rfl
@[simp] theorem withLs_free (n : Node) (f : LoadState → LoadState) : (withLs n f).free = n.free := rfl
@[simp] theorem withLs_out (n : Node) (f : LoadState → LoadState) : (withLs n f).out = n.out := rfl
@[simp] theorem withLs_qm (n : Node) (f : LoadState → LoadState) : (withLs n f).qm = n.qm := rfl
@[simp] theorem withLs_mil (n : Node) (f : LoadState → LoadState) : (withLs n f).mil = n.mil := rfl
@[simp] theorem withLs_tb (n : Node) (f : LoadState → LoadState) : (withLs n f).tb = n.tb := rfl
@[simp] theorem withLs_line (n : Node) (f : LoadState → LoadState) : (withLs n f).line = n.line := rfl
@[simp] theorem withLs_inn (n : Node) (f : LoadState → LoadState) : (withLs n f).inn = n.inn := rfl
@[simp] theorem withLs_du (n : Node) (f : LoadState → LoadState) : (withLs n f).du = n.du := rfl
@[simp] theorem withLs_au (n : Node) (f : LoadState → LoadState) : (withLs n f).au = n.au := rfl
@[simp] theorem withLs_cf (n : Node) (f : LoadState → LoadState) : (withLs n f).cf = n.cf := rfl
@[simp] theorem withLs_se (n : Node) (f : LoadState → LoadState) : (withLs n f).se = n.se := rfl
@[simp] theorem withLs_st (n : Node) (f : LoadState → LoadState) : (withLs n f).st = n.st := rfl
@[simp] theorem withLs_em (n : Node) (f : LoadState → LoadState) : (withLs n f).em = n.em := rfl
@[simp] theorem withLs_cb (n : Node) (f : LoadState → LoadState) : (withLs n f).cb = n.cb := rfl
@[simp] theorem withLs_sa (n : Node) (f : LoadState → LoadState) : (withLs n f).sa = n.sa := rfl
@[simp] theorem withLs_ls (n : Node) (f : LoadState → LoadState) : (withLs n f).ls = f n.ls := rfl
@[simp] theorem withLs_pw (n : Node) (f : LoadState → LoadState) : (withLs n f).pw = n.pw := rfl
@[simp] theorem withLs_hb (n : Node) (f : LoadState → LoadState) : (withLs n f).hb = n.hb := rfl
@[simp] theorem withLs_holdRun (n : Node) (f : LoadState → LoadState) : (withLs n f).holdRun = n.holdRun := rfl
@[simp] theorem withLs_up (n : Node) (f : LoadState → LoadState) : (withLs n f).up = n.up := rfl
@[simp] theorem rd_withLs (n : Node) (f : LoadState → LoadState) (r : Nat) : rd (withLs n f) r = rd n r := rfl
@[simp] theorem gf_withLs (n : Node) (f : LoadState → LoadState) (r : Nat) (g : Field) : gf (withLs n f) r g = gf n r g := rfl
@[simp] theorem ff_withLs (n : Node) (f : LoadState → LoadState) (r : Nat) (g : Field) : ff (withLs n f) r g = ff n r g := rfl

@[simp] theorem withPw_uid (n : Node) (f : PowerState → PowerState) : (withPw n f).uid = n.uid := rfl
@[simp] theorem withPw_regs (n : Node) (f : PowerState → PowerState) : (withPw n f).regs = n.regs := rfl
@[simp] theorem withPw_force (n : Node) (f : PowerState → PowerState) : (withPw n f).force = n.force := rfl
@[simp] theorem withPw_shadow (n : Node) (f : PowerState → PowerState) : (withPw n f).shadow = n.shadow := rfl
@[simp] theorem withPw_dram (n : Node) (f : PowerState → PowerState) : (withPw n f).dram = n.dram := rfl
@[simp] theorem withPw_image (n : Node) (f : PowerState → PowerState) : (withPw n f).image = n.image := rfl
@[simp] theorem withPw_view (n : Node) (f : PowerState → PowerState) : (withPw n f).view = n.view := rfl
@[simp] theorem withPw_free (n : Node) (f : PowerState → PowerState) : (withPw n f).free = n.free := rfl
@[simp] theorem withPw_out (n : Node) (f : PowerState → PowerState) : (withPw n f).out = n.out := rfl
@[simp] theorem withPw_qm (n : Node) (f : PowerState → PowerState) : (withPw n f).qm = n.qm := rfl
@[simp] theorem withPw_mil (n : Node) (f : PowerState → PowerState) : (withPw n f).mil = n.mil := rfl
@[simp] theorem withPw_tb (n : Node) (f : PowerState → PowerState) : (withPw n f).tb = n.tb := rfl
@[simp] theorem withPw_line (n : Node) (f : PowerState → PowerState) : (withPw n f).line = n.line := rfl
@[simp] theorem withPw_inn (n : Node) (f : PowerState → PowerState) : (withPw n f).inn = n.inn := rfl
@[simp] theorem withPw_du (n : Node) (f : PowerState → PowerState) : (withPw n f).du = n.du := rfl
@[simp] theorem withPw_au (n : Node) (f : PowerState → PowerState) : (withPw n f).au = n.au := rfl
@[simp] theorem withPw_cf (n : Node) (f : PowerState → PowerState) : (withPw n f).cf = n.cf := rfl
@[simp] theorem withPw_se (n : Node) (f : PowerState → PowerState) : (withPw n f).se = n.se := rfl
@[simp] theorem withPw_st (n : Node) (f : PowerState → PowerState) : (withPw n f).st = n.st := rfl
@[simp] theorem withPw_em (n : Node) (f : PowerState → PowerState) : (withPw n f).em = n.em := rfl
@[simp] theorem withPw_cb (n : Node) (f : PowerState → PowerState) : (withPw n f).cb = n.cb := rfl
@[simp] theorem withPw_sa (n : Node) (f : PowerState → PowerState) : (withPw n f).sa = n.sa := rfl
@[simp] theorem withPw_ls (n : Node) (f : PowerState → PowerState) : (withPw n f).ls = n.ls := rfl
@[simp] theorem withPw_pw (n : Node) (f : PowerState → PowerState) : (withPw n f).pw = f n.pw := rfl
@[simp] theorem withPw_hb (n : Node) (f : PowerState → PowerState) : (withPw n f).hb = n.hb := rfl
@[simp] theorem withPw_holdRun (n : Node) (f : PowerState → PowerState) : (withPw n f).holdRun = n.holdRun := rfl
@[simp] theorem withPw_up (n : Node) (f : PowerState → PowerState) : (withPw n f).up = n.up := rfl
@[simp] theorem rd_withPw (n : Node) (f : PowerState → PowerState) (r : Nat) : rd (withPw n f) r = rd n r := rfl
@[simp] theorem gf_withPw (n : Node) (f : PowerState → PowerState) (r : Nat) (g : Field) : gf (withPw n f) r g = gf n r g := rfl
@[simp] theorem ff_withPw (n : Node) (f : PowerState → PowerState) (r : Nat) (g : Field) : ff (withPw n f) r g = ff n r g := rfl

@[simp] theorem withHb_uid (n : Node) (f : HbState → HbState) : (withHb n f).uid = n.uid := rfl
@[simp] theorem withHb_regs (n : Node) (f : HbState → HbState) : (withHb n f).regs = n.regs := rfl
@[simp] theorem withHb_force (n : Node) (f : HbState → HbState) : (withHb n f).force = n.force := rfl
@[simp] theorem withHb_shadow (n : Node) (f : HbState → HbState) : (withHb n f).shadow = n.shadow := rfl
@[simp] theorem withHb_dram (n : Node) (f : HbState → HbState) : (withHb n f).dram = n.dram := rfl
@[simp] theorem withHb_image (n : Node) (f : HbState → HbState) : (withHb n f).image = n.image := rfl
@[simp] theorem withHb_view (n : Node) (f : HbState → HbState) : (withHb n f).view = n.view := rfl
@[simp] theorem withHb_free (n : Node) (f : HbState → HbState) : (withHb n f).free = n.free := rfl
@[simp] theorem withHb_out (n : Node) (f : HbState → HbState) : (withHb n f).out = n.out := rfl
@[simp] theorem withHb_qm (n : Node) (f : HbState → HbState) : (withHb n f).qm = n.qm := rfl
@[simp] theorem withHb_mil (n : Node) (f : HbState → HbState) : (withHb n f).mil = n.mil := rfl
@[simp] theorem withHb_tb (n : Node) (f : HbState → HbState) : (withHb n f).tb = n.tb := rfl
@[simp] theorem withHb_line (n : Node) (f : HbState → HbState) : (withHb n f).line = n.line := rfl
@[simp] theorem withHb_inn (n : Node) (f : HbState → HbState) : (withHb n f).inn = n.inn := rfl
@[simp] theorem withHb_du (n : Node) (f : HbState → HbState) : (withHb n f).du = n.du := rfl
@[simp] theorem withHb_au (n : Node) (f : HbState → HbState) : (withHb n f).au = n.au := rfl
@[simp] theorem withHb_cf (n : Node) (f : HbState → HbState) : (withHb n f).cf = n.cf := rfl
@[simp] theorem withHb_se (n : Node) (f : HbState → HbState) : (withHb n f).se = n.se := rfl
@[simp] theorem withHb_st (n : Node) (f : HbState → HbState) : (withHb n f).st = n.st := rfl
@[simp] theorem withHb_em (n : Node) (f : HbState → HbState) : (withHb n f).em = n.em := rfl
@[simp] theorem withHb_cb (n : Node) (f : HbState → HbState) : (withHb n f).cb = n.cb := rfl
@[simp] theorem withHb_sa (n : Node) (f : HbState → HbState) : (withHb n f).sa = n.sa := rfl
@[simp] theorem withHb_ls (n : Node) (f : HbState → HbState) : (withHb n f).ls = n.ls := rfl
@[simp] theorem withHb_pw (n : Node) (f : HbState → HbState) : (withHb n f).pw = n.pw := rfl
@[simp] theorem withHb_hb (n : Node) (f : HbState → HbState) : (withHb n f).hb = f n.hb := rfl
@[simp] theorem withHb_holdRun (n : Node) (f : HbState → HbState) : (withHb n f).holdRun = n.holdRun := rfl
@[simp] theorem withHb_up (n : Node) (f : HbState → HbState) : (withHb n f).up = n.up := rfl
@[simp] theorem rd_withHb (n : Node) (f : HbState → HbState) (r : Nat) : rd (withHb n f) r = rd n r := rfl
@[simp] theorem gf_withHb (n : Node) (f : HbState → HbState) (r : Nat) (g : Field) : gf (withHb n f) r g = gf n r g := rfl
@[simp] theorem ff_withHb (n : Node) (f : HbState → HbState) (r : Nat) (g : Field) : ff (withHb n f) r g = ff n r g := rfl

/-! ### The identity a command keeps -/

@[simp] theorem keepId_uid (n m : Node) : (keepId n m).uid = n.uid := rfl
@[simp] theorem keepId_regs (n m : Node) : (keepId n m).regs = m.regs := rfl
@[simp] theorem keepId_force (n m : Node) : (keepId n m).force = m.force := rfl
@[simp] theorem keepId_shadow (n m : Node) : (keepId n m).shadow = m.shadow := rfl
@[simp] theorem keepId_dram (n m : Node) : (keepId n m).dram = m.dram := rfl
@[simp] theorem keepId_image (n m : Node) : (keepId n m).image = m.image := rfl
@[simp] theorem keepId_view (n m : Node) : (keepId n m).view = m.view := rfl
@[simp] theorem keepId_free (n m : Node) : (keepId n m).free = m.free := rfl
@[simp] theorem keepId_out (n m : Node) : (keepId n m).out = m.out := rfl
@[simp] theorem keepId_qm (n m : Node) : (keepId n m).qm = m.qm := rfl
@[simp] theorem keepId_mil (n m : Node) : (keepId n m).mil = m.mil := rfl
@[simp] theorem keepId_tb (n m : Node) : (keepId n m).tb = m.tb := rfl
@[simp] theorem keepId_line (n m : Node) : (keepId n m).line = m.line := rfl
@[simp] theorem keepId_inn (n m : Node) : (keepId n m).inn = m.inn := rfl
@[simp] theorem keepId_du (n m : Node) : (keepId n m).du = m.du := rfl
@[simp] theorem keepId_au (n m : Node) : (keepId n m).au = m.au := rfl
@[simp] theorem keepId_cf (n m : Node) : (keepId n m).cf = m.cf := rfl
@[simp] theorem keepId_se (n m : Node) : (keepId n m).se = m.se := rfl
@[simp] theorem keepId_st (n m : Node) : (keepId n m).st = m.st := rfl
@[simp] theorem keepId_em (n m : Node) : (keepId n m).em = m.em := rfl
@[simp] theorem keepId_cb (n m : Node) : (keepId n m).cb = m.cb := rfl
@[simp] theorem keepId_sa (n m : Node) : (keepId n m).sa = m.sa := rfl
@[simp] theorem keepId_ls (n m : Node) : (keepId n m).ls = m.ls := rfl
@[simp] theorem keepId_pw (n m : Node) : (keepId n m).pw = m.pw := rfl
@[simp] theorem keepId_hb (n m : Node) : (keepId n m).hb = m.hb := rfl
@[simp] theorem keepId_holdRun (n m : Node) : (keepId n m).holdRun = m.holdRun := rfl
@[simp] theorem keepId_up (n m : Node) : (keepId n m).up = m.up := rfl
@[simp] theorem rd_keepId (n m : Node) (r : Nat) : rd (keepId n m) r = rd m r := rfl
@[simp] theorem gf_keepId (n m : Node) (r : Nat) (g : Field) : gf (keepId n m) r g = gf m r g := rfl
@[simp] theorem ff_keepId (n m : Node) (r : Nat) (g : Field) : ff (keepId n m) r g = ff m r g := rfl

/-- What every command does to the state beside the node: it answers a next state, leaves the queue as it found it, and
keeps the factory identity. -/
theorem exec_next (c : Instr) (s : State) : ∃ n, exec c s = .next { s with node := keepId s.node n } := by
  cases c <;> exact ⟨_, rfl⟩

/-- A step on an empty queue is one tick, and otherwise runs the command in front. -/
theorem step_cons (c : Instr) (cs : List Instr) (s : State) :
    step { s with pending := c :: cs } = exec c { s with pending := cs } := rfl

theorem step_nil (s : State) (h : s.pending = []) : step s = idle s := by
  unfold step; rw [h]

end Sys2Proof.Machine
end

