-- ==== Sys2Proof/Laws/Log.lean ====
section
/-! SUPPORT. What an event record, a push, a pop and a firing may touch: `OnlyLog`, once for each shared operation. -/

namespace Sys2Proof.Machine

/-! ### Frames -/

theorem Frame.refl (P : List Part) (B : Nat → Bool) (n : Node) : Frame P B n n :=
  ⟨fun p _ => by cases p <;> rfl, fun _ _ => rfl⟩

theorem Frame.trans {P : List Part} {B : Nat → Bool} {a b c : Node} (h : Frame P B a b) (k : Frame P B b c) :
    Frame P B a c := by
  refine ⟨fun p hp => ?_, fun r hr => (k.2 r hr).trans (h.2 r hr)⟩
  have h1 := h.1 p hp
  have h2 := k.1 p hp
  cases p <;> exact Eq.trans h2 h1

/-- A frame holds with more parts and more registers named. -/
theorem Frame.mono {P Q : List Part} {B C : Nat → Bool} {n m : Node} (h : Frame P B n m) (hp : ∀ p ∈ P, p ∈ Q)
    (hb : ∀ a, B a = true → C a = true) : Frame Q C n m :=
  ⟨fun p hq => h.1 p (fun x => hq (hp p x)), fun a ha => h.2 a (by
    cases hB : B a with
    | false => rfl
    | true => rw [hb a hB] at ha; exact ha)⟩

/-- Blocks named within more blocks. -/
theorem blocks_mono {bs cs : List Nat} (h : ∀ b ∈ bs, b ∈ cs) (a : Nat) (ha : blocks bs a = true) :
    blocks cs a = true := by
  unfold blocks at *
  rw [List.contains_iff_mem] at *
  exact h _ ha

theorem Frame.ite {P : List Part} {B : Nat → Bool} {c : Prop} [Decidable c] {n a b : Node} (ha : Frame P B n a)
    (hb : Frame P B n b) : Frame P B n (if c then a else b) := by split <;> assumption

/-- A fold of steps that each keep the frame keeps it. -/
theorem Frame.foldl {β : Type} {P : List Part} {B : Nat → Bool} {f : Node → β → Node}
    (h : ∀ n x, Frame P B n (f n x)) (l : List β) (n : Node) : Frame P B n (l.foldl f n) := by
  induction l generalizing n with
  | nil => exact .refl _ _ n
  | cons x l ih => exact (h n x).trans (ih _)

/-- Writing a register the frame names. -/
theorem Frame.wr {P : List Part} {B : Nat → Bool} (n : Node) (a : Nat) (v : BitVec 32) (h : B a = true) :
    Frame P B n (wr n a v) :=
  ⟨fun p _ => by cases p <;> rfl, fun b hb => rd_wr_ne _ _ (by rintro rfl; rw [h] at hb; cases hb)⟩

theorem Frame.sf {P : List Part} {B : Nat → Bool} (n : Node) (a : Nat) (f : Field) (x : Nat) (h : B a = true) :
    Frame P B n (sf n a f x) := Frame.wr n a _ h

theorem Frame.count {P : List Part} {B : Nat → Bool} (n : Node) (a : Nat) (h : B a = true) :
    Frame P B n (count n a) := Frame.wr n a _ h

/-- What touches only the logs keeps every frame that names them. -/
theorem OnlyLog.frame {P : List Part} {B : Nat → Bool} {n m : Node} (h : OnlyLog n m) (hp : ∀ p ∈ logParts, p ∈ P)
    (hb : ∀ a, blocks logBlocks a = true → B a = true) : Frame P B n m := Frame.mono h hp hb

theorem blocks_of (bs : List Nat) (a : Nat) (h : blockOf a ∈ bs) : blocks bs a = true := by
  unfold blocks; rw [List.contains_iff_mem]; exact h

theorem not_logBlocks {a : Nat} (h6 : blockOf a ≠ 6) (h8 : blockOf a ≠ 8) : blocks logBlocks a = false := by
  unfold blocks logBlocks
  simp [h6, h8]

theorem onlyLog_wr (n : Node) (a : Nat) (v : BitVec 32) (h : blockOf a = 6 ∨ blockOf a = 8) : OnlyLog n (wr n a v) :=
  Frame.wr n a v (blocks_of _ _ (by rcases h with h | h <;> rw [h] <;> decide))

theorem onlyLog_sf (n : Node) (a : Nat) (f : Field) (x : Nat) (h : blockOf a = 6 ∨ blockOf a = 8) :
    OnlyLog n (sf n a f x) := onlyLog_wr n a _ h

theorem onlyLog_count (n : Node) (a : Nat) (h : blockOf a = 6 ∨ blockOf a = 8) : OnlyLog n (count n a) :=
  onlyLog_wr n a _ h

/-- A change that every part outside the logs and every register is blind to. -/
theorem onlyLog_of {n m : Node} (h : ∀ p, p ∉ logParts → p.same n m) (hr : m.regs = n.regs) : OnlyLog n m :=
  ⟨h, fun a _ => rd_congr hr a⟩

theorem onlyLog_setDesc (n : Node) (q : Nat) (d : Desc) : OnlyLog n (setDesc n q d) :=
  onlyLog_of (fun p hp => by cases p <;> first | rfl | exact absurd (by decide) hp) rfl

theorem onlyLog_setProg (n : Node) (k : Nat) (p : Prog) : OnlyLog n (setProg n k p) :=
  onlyLog_of (fun p hp => by cases p <;> first | rfl | exact absurd (by decide) hp) rfl

theorem onlyLog_dramStore (n : Node) (a : Nat) (bs : List Byte) : OnlyLog n (dramStore n a bs) :=
  onlyLog_of (fun p hp => by cases p <;> first | rfl | exact absurd (by decide) hp) rfl

theorem onlyLog_withLog (n : Node) (l : LogState) : OnlyLog n (withLog n l) :=
  onlyLog_of (fun p hp => by cases p <;> first | rfl | exact absurd (by decide) hp) rfl

theorem onlyLog_setLogPath (n : Node) (q : Nat) (p : LogPath) : OnlyLog n (setLogPath n q p) :=
  onlyLog_withLog _ _

theorem onlyLog_freshWord (n : Node) : OnlyLog n (freshWord n).2 :=
  onlyLog_of (fun p hp => by cases p <;> first | rfl | exact absurd (by decide) hp) rfl

/-! ### Registers of QM and MK -/

theorem block_QM_CNT (k : Nat) (h : k < 8) : blockOf (R.QM_CNT k) = 8 := by
  simp only [blockOf, R.QM_CNT]; omega
theorem block_QM_EVT : blockOf R.QM_EVT = 8 := by decide
theorem block_QM_LSEQ : blockOf R.QM_LSEQ = 8 := by decide
theorem block_MK_CNT (k : Nat) (h : k < 8) : blockOf (R.MK_CNT k) = 6 := by
  simp only [blockOf, R.MK_CNT]; omega
theorem block_MK_EVT : blockOf R.MK_EVT = 6 := by decide

/-! ### Firing -/

theorem onlyLog_fireProg (n : Node) (k : Nat) (d : BitVec 32) : OnlyLog n (fireProg n k d) := by
  unfold fireProg
  refine .ite (.refl _ _ n) (.ite ?_ ?_)
  · exact (onlyLog_count _ _ (.inl (block_MK_CNT 4 (by decide)))).trans (onlyLog_sf _ _ _ _ (.inl block_MK_EVT))
  · exact Frame.trans (.ite (.refl _ _ n) (onlyLog_count _ _ (.inl (block_MK_CNT 3 (by decide))))) (onlyLog_setProg _ _ _)

theorem onlyLog_fireSource (n : Node) (kind arg : Nat) (d : BitVec 32) : OnlyLog n (fireSource n kind arg d) :=
  .foldl (fun _ _ => onlyLog_fireProg _ _ _) _ _

theorem onlyLog_fireUnstated (n : Node) (kind arg : Nat) : OnlyLog n (fireUnstated n kind arg) :=
  (onlyLog_freshWord n).trans (onlyLog_fireSource _ _ _ _)

/-! ### Queues -/

theorem onlyLog_dropEntry (n : Node) (q : Nat) : OnlyLog n (dropEntry n q) :=
  ((onlyLog_setDesc _ _ _).trans (onlyLog_count _ _ (.inr (block_QM_CNT 2 (by decide))))).trans
    (onlyLog_sf _ _ _ _ (.inr block_QM_EVT))

theorem onlyLog_storeCells (n : Node) (d : Desc) (k : Nat) (bs : List Byte) (c : Nat) :
    OnlyLog n (storeCells n d k bs c) := by
  induction c generalizing n k bs with
  | zero => exact .refl _ _ n
  | succ c ih => exact (onlyLog_dramStore _ _ _).trans (ih _ _ _)

theorem onlyLog_addCells (n : Node) (q : Nat) (bs : List Byte) (c : Nat) : OnlyLog n (addCells n q bs c) := by
  unfold addCells
  have h := ((onlyLog_storeCells n (desc n q) (desc n q).tail bs c).trans
    (onlyLog_setDesc _ q { desc n q with tail := ((desc n q).tail + c) % 2 ^ 24 })).trans
    (onlyLog_count _ (R.QM_CNT 0) (.inr (block_QM_CNT 0 (by decide))))
  exact .ite (h.trans (onlyLog_fireUnstated _ _ _)) h

/-- A push touches only what `OnlyLog` names. -/
theorem onlyLog_pushCell (n : Node) (q : Nat) (bs : List Byte) : OnlyLog n (pushCell n q bs).1 := by
  unfold pushCell
  dsimp only
  split
  · exact onlyLog_dropEntry n q
  · exact onlyLog_addCells n q bs 1

theorem onlyLog_pushFrame (n : Node) (q : Nat) (h : FrameHeader) (p : List Byte) : OnlyLog n (pushFrame n q h p).1 := by
  unfold pushFrame
  dsimp only
  split
  · exact onlyLog_dropEntry n q
  · exact onlyLog_addCells n q _ _

theorem onlyLog_setWeir (n : Node) (w : Nat) (x : Weir) : OnlyLog n (setWeir n w x) :=
  onlyLog_of (fun p hp => by cases p <;> first | rfl | exact absurd (by decide) hp) rfl

theorem onlyLog_chargeWeir (n : Node) (d : Desc) (c : Nat) : OnlyLog n (chargeWeir n d c) := by
  unfold chargeWeir
  dsimp only
  split
  · exact .refl _ _ n
  · split
    · exact ((onlyLog_setWeir _ _ _).trans (onlyLog_count _ _ (.inr (block_QM_CNT 5 (by decide))))).trans
        (onlyLog_sf _ _ _ _ (.inr block_QM_EVT))
    · exact onlyLog_setWeir _ _ _

theorem onlyLog_popEmpty (n : Node) : OnlyLog n (popEmpty n) :=
  onlyLog_count _ _ (.inr (block_QM_CNT 3 (by decide)))

theorem onlyLog_removeHead (n : Node) (q : Nat) (h : HeadEntry) : OnlyLog n (removeHead n q h) := by
  unfold removeHead
  dsimp only
  have h1 := ((onlyLog_setDesc n q { desc n q with head := ((desc n q).head + h.cells) % 2 ^ 24 }).trans
    (onlyLog_count _ (R.QM_CNT 1) (.inr (block_QM_CNT 1 (by decide))))).trans
    (onlyLog_chargeWeir _ (desc n q) h.charge)
  split
  · exact (h1.trans (onlyLog_count _ _ (.inr (block_QM_CNT 4 (by decide))))).trans (onlyLog_sf _ _ _ _ (.inr block_QM_EVT))
  · exact h1

/-- The node a choice of two answers carries. -/
theorem onlyLog_ite_fst {c : Prop} [Decidable c] {β : Type} {n : Node} {a b : Node × β} (ha : OnlyLog n a.1)
    (hb : OnlyLog n b.1) : OnlyLog n (if c then a else b).1 := by
  by_cases h : c
  · rwa [if_pos h]
  · rwa [if_neg h]

/-- A pop touches only what `OnlyLog` names. -/
theorem onlyLog_popCell (n : Node) (q : Nat) : OnlyLog n (popCell n q).1 := by
  unfold popCell
  cases headEntry n q with
  | none => exact onlyLog_popEmpty n
  | some h =>
    have hr := onlyLog_removeHead n q h
    refine onlyLog_ite_fst hr (onlyLog_ite_fst ?_ hr)
    exact (hr.trans (onlyLog_count _ _ (.inr (block_QM_CNT 4 (by decide))))).trans
      (onlyLog_sf _ _ _ _ (.inr block_QM_EVT))

theorem onlyLog_popFrame (n : Node) (q : Nat) : OnlyLog n (popFrame n q).1 := by
  unfold popFrame
  cases headEntry n q with
  | none => exact onlyLog_popEmpty n
  | some h => exact onlyLog_ite_fst (onlyLog_removeHead n q h) (onlyLog_removeHead n q h)

/-! ### Event records -/

theorem onlyLog_padSlots (k : Nat) (n : Node) (bs : List Byte) : OnlyLog n (padSlots k n bs).1 := by
  induction k generalizing n bs with
  | zero => exact .refl _ _ n
  | succ k ih => exact ((onlyLog_freshWord n).trans (onlyLog_freshWord _)).trans (ih _ _)

theorem onlyLog_pushLogCell (n : Node) (q : Nat) : OnlyLog n (pushLogCell n q) := by
  unfold pushLogCell
  refine .ite (.refl _ _ n) (.ite (.refl _ _ n) ?_)
  exact ((onlyLog_padSlots _ n _).trans (onlyLog_setLogPath _ _ _)).trans (onlyLog_pushCell _ _ _)

theorem onlyLog_packRecord (n : Node) (q : Nat) (r : EventRecord) : OnlyLog n (packRecord n q r) := by
  unfold packRecord
  exact .ite ((onlyLog_setLogPath _ _ _).trans (onlyLog_pushLogCell _ _)) (onlyLog_setLogPath _ _ _)

theorem onlyLog_suppress (n : Node) (q : Nat) (r : EventRecord) : OnlyLog n (suppress n q r) :=
  ((onlyLog_setLogPath _ _ _).trans (onlyLog_count _ _ (.inr (block_QM_CNT 7 (by decide))))).trans
    (onlyLog_sf _ _ _ _ (.inr block_QM_EVT))

theorem onlyLog_deliver (n : Node) (q : Nat) (r : EventRecord) : OnlyLog n (deliver n q r) := by
  unfold deliver
  exact .ite (onlyLog_suppress _ _ _) (onlyLog_packRecord _ _ _)

/-- An event record touches only what `OnlyLog` names. -/
theorem onlyLog_record (n : Node) (c : Class) (code src : BitVec 16) (data : List Byte) (e : Option (Nat × Nat)) :
    OnlyLog n (record n c code src data e) := by
  have h := ((onlyLog_withLog n { n.qm.log with lseq := n.qm.log.lseq + 1#16 }).trans
    (onlyLog_sf _ R.QM_LSEQ F.QM_LSEQ_LSEQ (n.qm.log.lseq + 1#16).toNat (.inr block_QM_LSEQ))).trans
    (onlyLog_count _ (R.QM_CNT 6) (.inr (block_QM_CNT 6 (by decide))))
  unfold record
  dsimp only
  split
  · exact h.trans (onlyLog_withLog _ _)
  · refine Frame.trans ?_ (.foldl (fun _ _ => onlyLog_deliver _ _ _) _ _)
    refine Frame.trans (Frame.trans ?_ (onlyLog_withLog _ _)) (onlyLog_deliver _ _ _)
    split
    · exact h
    · exact h.trans (onlyLog_withLog _ _)

theorem onlyLog_recordCode (n : Node) (c : Class) (b i k r : Nat) (d : List Byte) :
    OnlyLog n (recordCode n c b i k r d) := by
  unfold recordCode; exact onlyLog_record _ _ _ _ _ _

theorem onlyLog_replaced (n : Node) (b i r : Nat) : OnlyLog n (replaced n b i r) := by
  unfold replaced; exact onlyLog_recordCode _ _ _ _ _ _ _

theorem onlyLog_statusChange (n : Node) (c : Class) (b i r : Nat) (d : List Byte) :
    OnlyLog n (statusChange n c b i r d) := by
  unfold statusChange; exact onlyLog_recordCode _ _ _ _ _ _ _

theorem onlyLog_otherEvent (n : Node) (c : Class) (b i r : Nat) (d : List Byte) :
    OnlyLog n (otherEvent n c b i r d) := by
  unfold otherEvent; exact onlyLog_recordCode _ _ _ _ _ _ _

/-- Raising an event of another class than S sets its bit, and beyond that touches only what `OnlyLog` names. -/
theorem onlyLog_raise (n : Node) (c : Class) (b i r : Nat) (f : Field) (d : List Byte) (h : c ≠ .s) :
    OnlyLog (sf n r f 1) (raise n c b i r f d) := by
  unfold raise
  cases c
  case s => exact absurd rfl h
  all_goals exact onlyLog_record _ _ _ _ _ _

/-- Raising an event of class S touches only what `OnlyLog` names: its bit waits for the caddy (R275). -/
theorem onlyLog_raise_s (n : Node) (b i r : Nat) (f : Field) (d : List Byte) :
    OnlyLog n (raise n .s b i r f d) := by
  unfold raise; exact onlyLog_record _ _ _ _ _ _

theorem rd_raise (n : Node) (c : Class) (b i r : Nat) (f : Field) (d : List Byte) (a : Nat) (h : c ≠ .s)
    (h6 : blockOf a ≠ 6) (h8 : blockOf a ≠ 8) : rd (raise n c b i r f d) a = rd (sf n r f 1) a :=
  (onlyLog_raise n c b i r f d h).2 a (not_logBlocks h6 h8)

end Sys2Proof.Machine
end

