-- ==== Sys2Proof/Tests/Slice0.lean ====
section
/-! SUPPORT. The model's own tests.  `wit_<statement>…` shows a state and operands that meet the hypotheses of a clause of
that statement, and what the command then does; `test_…` checks a value the spec gives; `wf_…` shows a malformed command
refused by each check of WellFormed. -/

section

set_option Elab.async false

open Sys2Proof Sys2Proof.Machine

/-- A state after reset with some registers set, and a factory identity. -/
def withRegs (l : List (Nat × BitVec 32)) : State := { node := l.foldl (fun n e => wr n e.1 e.2) { uid := 0x1122334455667788#64 } }

/-- The state with its node changed. -/
def onState (s : State) (f : Node → Node) : State := { s with node := f s.node }

/-- The hypothesis `h` holds and the command answers a next state with `p`. -/
def shows (c : Instr) (s : State) (h p : Node → Bool) : Bool :=
  h s.node && (match exec c s with | .next t => decide (t.pending = s.pending) && p t.node | _ => false)

/-- A node in LINE-ONLY, booted, with some registers set. -/
def booted (l : List (Nat × BitVec 32)) : State :=
  onState (withRegs ((R.PW_STAT, 3#32) :: l)) (fun n => { n with pw := { n.pw with unbooted := false } })

/-- The same with channel 5 of the load switches on demand and on. -/
def lamp : State :=
  onState (booted []) (fun n => { n with force := [(R.LS_CHCFG 5, 1#32)], ls := { n.ls with chans := [(5, { on := true })] } })

theorem wit_LoadSwitchDemands_swin :
    shows (.swinChange 11 true) lamp (fun n => lsOn n) (fun m => m.ls.swin == 2048 && (switch m 5).on) = true := by decide +kernel
theorem wit_LoadSwitchDemands_limp :
    shows .limpHomeStart lamp (fun n => lsOn n && !n.ls.limp)
      (fun m => m.ls.limp && gf m R.LS_EVT F.LS_EVT_LHON == 1 && rd m (R.LS_CNT 4) == 1) = true
    ∧ shows .limpHomeEnd (onState lamp (fun n => { n with ls := { n.ls with limp := true } })) (fun n => lsOn n && n.ls.limp)
      (fun m => !m.ls.limp && gf m R.LS_EVT F.LS_EVT_LHOFF == 1) = true := by decide +kernel
theorem wit_LoadSwitchDemands_vsw :
    shows .vswUndervoltage lamp (fun n => lsOn n && !n.ls.vswUv) (fun m => m.ls.vswUv && !(switch m 5).on) = true
    ∧ shows .vswRestored (onState lamp (fun n => { n with ls := { n.ls with vswUv := true } })) (fun n => lsOn n && n.ls.vswUv)
      (fun m => !m.ls.vswUv && (switch m 5).on) = true := by decide +kernel
theorem wit_LoadSwitchDemands_cxLoss :
    shows .loadSwitchCxLoss (onState lamp (fun n => { n with line := { n.line with cxLost := true } }))
      (fun n => lsOn n && !cxAlive n) (fun m => m.ls.cxOff && !(switch m 5).on) = true := by decide +kernel
theorem wit_LoadSwitchProtection_failure :
    shows (.channelFailure 5) lamp (fun n => lsOn n && (switch n 5).on && !n.ls.reversed)
      (fun m => !(switch m 5).on && (switch m 5).fails == 1 && (switch m 5).pause == some 8 && rd m (R.LS_CNT 0) == 1) = true := by
  decide +kernel
theorem wit_LoadSwitchProtection_latch :
    shows (.channelFailure 5) (onState lamp (fun n => setSwitch n 5 { on := true, fails := 6 }))
      (fun n => lsOn n && (switch n 5).on && decide (nlatch n 5 ≤ 7))
      (fun m => (switch m 5).latched && gf m R.LS_EVT F.LS_EVT_LATCH == 1 && rd m (R.LS_CNT 1) == 1) = true := by decide +kernel
theorem wit_LoadSwitchProtection_pause :
    shows (.retryPauseExpiry 5) (onState lamp (fun n => setSwitch n 5 { pause := some 8 }))
      (fun n => lsOn n && (switch n 5).pause.isSome) (fun m => (switch m 5).on && (switch m 5).pause.isNone) = true := by
  decide +kernel
theorem wit_LoadSwitchProtection_clear :
    shows (.latchClear 32) (onState lamp (fun n => setSwitch n 5 { latched := true, fails := 7 })) (fun n => lsOn n)
      (fun m => (switch m 5).on && (switch m 5).fails == 0) = true
    ∧ shows (.failureCountReset 5) (onState lamp (fun n => setSwitch n 5 { fails := 3 }))
      (fun n => lsOn n && (switch n 5).pause.isNone && !(switch n 5).latched && !(switch n 5).shed)
      (fun m => (switch m 5).fails == 0) = true := by decide +kernel
theorem wit_LoadSwitchProtection_shed :
    shows .overloadShed lamp (fun n => lsOn n && (which 12 (fun j => (switch n j).on && !underLimp n j)).getLast? == some 5)
      (fun m => (switch m 5).shed && !(switch m 5).on && rd m (R.LS_CNT 3) == 1) = true := by decide +kernel
theorem wit_LoadSwitchProtection_open :
    shows (.openLoadCompare 0 true)
      (onState lamp (fun n => setSwitch { n with force := put 0#32 n.force (R.LS_CHCFG 0) 4#32 } 0 { above := 7 }))
      (fun n => lsOn n && !(switch n 0).on && ff n (R.LS_CHCFG 0) F.LS_CHCFG_OLEN == 1 && !(switch n 0).open_)
      (fun m => (switch m 0).open_ && (switch m 0).above == 8 && rd m (R.LS_CNT 2) == 1) = true
    ∧ shows (.openLoadCompare 0 false)
      (onState lamp (fun n => setSwitch { n with force := put 0#32 n.force (R.LS_CHCFG 0) 4#32 } 0 { below := 7, open_ := true }))
      (fun n => lsOn n && !(switch n 0).on && ff n (R.LS_CHCFG 0) F.LS_CHCFG_OLEN == 1)
      (fun m => !(switch m 0).open_) = true := by decide +kernel

theorem wit_ResetState : State.reset.pending = [] ∧ State.reset.node.wf = true := by decide
theorem wit_IdentityKept : State.reset.idOk := by
  show Config.factoryId ≠ 0#64 ∧ Config.factoryId ≠ BitVec.allOnes 64
  unfold Config.factoryId
  split <;> simp_all
theorem wit_LockedOutIsOff : State.reset.node.lockSafe ∧ State.reset.node.sa.lock ≠ none := by decide
theorem test_resetValues :
    (rd State.reset.node (R.LS_CHCFG 11) == 0x0700 && rd State.reset.node (R.AU_ZONESTAT 15) == 0x80001C00
      && rd State.reset.node (R.LP_PORTCFG 3) == 9 && rd State.reset.node (R.EM_PREEMPT 5) == 0x0A00) = true := by decide +kernel
theorem wit_StepRunsCommand :
    (match step { withRegs [] with pending := [.sfrstRequest 2, .canWake 1] } with | .next t => t.pending == [.canWake 1] | _ => false) = true := by decide +kernel
theorem wit_ReservedAddresses :
    (!isRegister 0xFFFFC && !isRegister 0x3000000 && !nvFailed (withRegs []).node && isRegister 0x1000000) = true := by decide +kernel

theorem wit_LinePortTraining_pllLocked :
    shows (.pllLocked 3) (onState (withRegs [(R.LP_PORTSTAT 3, 1)]) (fun n => { n with force := [(R.LP_PORTCFG 3, 8)] }))
      (fun n => portState n 3 == 1 && ff n (R.LP_PORTCFG 3) F.LP_PORTCFG_WAKEFIRST == 1)
      (fun m => portState m 3 == 2 && m.out == [.wakeTone 3]) = true := by decide +kernel
theorem wit_LinePortTraining_energy :
    shows (.partnerEnergyDetect 0) (withRegs [(R.LP_PORTSTAT 0, 2)]) (fun n => portState n 0 == 2 && !(port n 0).hold)
      (fun m => portState m 0 == 3 && rd m (R.LP_CNT 0 5) == 1) = true := by decide +kernel
theorem wit_LinePortTraining_rate10 :
    shows (.ratesAgreed 1 true true) (withRegs [(R.LP_PORTSTAT 1, 3)]) (fun n => portState n 1 == 3 && (offeredRates n 1).1)
      (fun m => portState m 1 == 4 && gf m (R.LP_PORTSTAT 1) F.LP_PORTSTAT_RATE == 1) = true := by decide +kernel
theorem wit_LinePortTraining_rate1 :
    shows (.ratesAgreed 1 false true) (withRegs [(R.LP_PORTSTAT 1, 3)]) (fun n => portState n 1 == 3 && (offeredRates n 1).2)
      (fun m => portState m 1 == 4 && gf m (R.LP_PORTSTAT 1) F.LP_PORTSTAT_RATE == 2) = true := by decide +kernel
theorem wit_LinePortTraining_converged :
    shows (.trainingConverged 2) (withRegs [(R.LP_PORTSTAT 2, 4)]) (fun n => portState n 2 == 4)
      (fun m => portState m 2 == 5) = true := by decide +kernel
theorem wit_LinePortTraining_blockLock :
    shows (.blockLockAcquired 2) (withRegs [(R.LP_PORTSTAT 2, 5)]) (fun n => portState n 2 == 5)
      (fun m => portState m 2 == 6) = true := by decide +kernel
theorem wit_LinePortTraining_identities :
    shows (.identitiesExchanged 3 0x8000000000000005#64 true 1 2) (withRegs [(R.LP_PORTSTAT 3, 0x03000006)])
      (fun n => portState n 3 == 6)
      (fun m => portState m 3 == 7 && partnerUid m 3 == 0x8000000000000005 && gf m (R.LP_PORTEVT 3) F.LP_PORTEVT_UP == 1
        && rd m (R.LP_PARTNERPORT 3) == 0x80000016 && gf m (R.LP_PORTSTAT 3) F.LP_PORTSTAT_FAILCNT == 0) = true := by
  decide +kernel
theorem wit_LinePortTraining_failure :
    shows (.trainingStepFailure 3 true) (withRegs [(R.LP_PORTSTAT 3, 0x0F000003)]) (fun n => portState n 3 == 3)
      (fun m => rd m (R.LP_PORTSTAT 3) == 0x2F000008 && gf m (R.LP_PORTEVT 3) F.LP_PORTEVT_TRAINFAIL == 1
        && rd m (R.LP_CNT 3 6) == 1) = true := by decide +kernel
theorem wit_LinePortTraining_failureAtIdent :
    shows (.trainingStepFailure 3 true) (withRegs [(R.LP_PORTSTAT 3, 6)]) (fun n => portState n 3 == 6)
      (fun m => rd m (R.LP_PORTSTAT 3) == 0x51000008) = true := by decide +kernel
theorem wit_LinePortTraining_backoff :
    shows (.backoffExpiry 0) (withRegs [(R.LP_PORTSTAT 0, 8)]) (fun n => portState n 0 == 8)
      (fun m => portState m 0 == 2) = true := by decide +kernel
theorem wit_PairPortTraining :
    shows (.pllLocked 4) (withRegs [(R.DU_PPSTAT, 1)]) (fun n => pairPortState n == 1) (fun m => pairPortState m == 2)
    && shows (.partnerEnergyDetect 4) (withRegs [(R.DU_PPSTAT, 2)]) (fun n => pairPortState n == 2) (fun m => pairPortState m == 4)
    && shows (.trainingConverged 4) (withRegs [(R.DU_PPSTAT, 4)]) (fun n => pairPortState n == 4) (fun m => pairPortState m == 5)
    && shows (.blockLockAcquired 4) (withRegs [(R.DU_PPSTAT, 5)]) (fun n => pairPortState n == 5) (fun m => pairPortState m == 6)
    && shows (.backoffExpiry 4) (withRegs [(R.DU_PPSTAT, 8)]) (fun n => pairPortState n == 8) (fun m => pairPortState m == 2)
    && shows (.trainingStepFailure 4 true) (withRegs [(R.DU_PPSTAT, 6)]) (fun n => pairPortState n == 6) (fun m => pairPortState m == 8)
      = true := by decide +kernel
theorem wit_PairPortTraining_identities :
    shows (.identitiesExchanged 4 7#64 false 0 0) (withRegs [(R.DU_PPSTAT, 6)]) (fun n => pairPortState n == 6)
      (fun m => pairPortState m == 7 && m.du.partnerId == 7 && gf m R.DU_PPSTAT F.DU_PPSTAT_IDOK == 0) = true := by
  decide +kernel
theorem wit_PairPortTraining_loss :
    shows (.linkLoss 4 false) (withRegs [(R.DU_PPSTAT, 7)]) (fun n => pairPortState n == 7) (fun m => pairPortState m == 2)
    && shows (.linkDropReceived 4 false) (withRegs [(R.DU_PPSTAT, 7)]) (fun n => pairPortState n == 7)
      (fun m => pairPortState m == 2) = true := by decide +kernel
theorem wit_LinePortLinkLoss :
    shows (.linkLoss 3 true) (withRegs [(R.LP_PORTSTAT 3, 0x107)]) (fun n => portUp n 3)
      (fun m => portState m 3 == 2 && !portFwd m 3 && (port m 3).hold && gf m (R.LP_PORTEVT 3) F.LP_PORTEVT_DOWN == 1
        && gf m (R.LP_PORTEVT 3) F.LP_PORTEVT_ABORT == 1 && rd m (R.LP_CNT 3 4) == 1) = true := by decide +kernel
theorem wit_LinePortLinkLoss_drop :
    shows (.linkDropReceived 0 false) (withRegs [(R.LP_PORTSTAT 0, 7)]) (fun n => portUp n 0)
      (fun m => portState m 0 == 2 && gf m (R.LP_PORTEVT 0) F.LP_PORTEVT_DROP == 1 && rd m (R.LP_CNT 0 4) == 0) = true := by
  decide +kernel

theorem wit_BoundaryRuns :
    let s := onState (booted []) (fun n => { n with tb := { n.tb with running := true } })
    (lineOn s.node && s.node.tb.running && cxAlive s.node
      && !cxAlive (onState s (fun n => { n with line := { n.line with cxLost := true } })).node
      && !lineOn (withRegs []).node) = true := by decide +kernel
theorem wit_ImageHoldExpires :
    shows .imageHoldExpiry (onState (withRegs [(R.AC_IMGCTL, 1), (R.AC_IMGSTAT, 5)]) (fun n => { n with holdRun := 64 }))
      (fun n => gf n R.AC_IMGCTL F.AC_IMGCTL_HOLD == 1 && n.holdRun == 64)
      (fun m => rd m R.AC_IMGCTL == 0 && rd m R.AC_IMGSTAT == 9 && m.holdRun == 0) = true := by decide +kernel
theorem wit_DiesFail :
    (let n := (booted []).node; lineOn n && !dieFailed n 7 && !dieFailed n 3 && !isRun n) = true
    ∧ shows (.dieFailure 0 0 none) (booted [(R.AC_DIEHEALTH 0, 4)]) (fun n => lineOn n && dieFailed n 0)
      (fun m => rd m (R.AC_DIEHEALTH 0) == 4) = true
    ∧ shows .cxHeartbeatStop (onState (booted []) (fun n => setEngine n 3 { st := .running })) (fun n => lineOn n && cxAlive n)
      (fun m => !cxAlive m && !executing (engine m 3)) = true := by decide +kernel

/-- A powered node whose queue 300 is a cell queue of 4 cells, with some cells in it. -/
def queued (head tail : Nat) : State :=
  onState (booted [(R.QM_POOLCFG, 0x00010201)]) (fun n =>
    setDesc n 300 { kind := .cell, kindCode := 1, base := 8, size := 2, head := head, tail := tail })

theorem wit_QueueOperations_push :
    shows (.qselPush 300) (onState (queued 0xFFFFFF 0xFFFFFF) (fun n => wr n (R.QM_CELL 31) 0x01020304#32))
      (fun n => lineOn n && (desc n 300).room 1)
      (fun m => (desc m 300).tail == 0 && look 0#8 m.dram (cellAddr m (desc m 300) 0xFFFFFF + 124) == 4#8
        && gf m R.QM_QSEL F.QM_QSEL_RESULT == 0) = true := by decide +kernel
theorem wit_QueueOperations_pop :
    shows (.qselPop 300) (queued 0xFFFFFF 1)
      (fun n => lineOn n && (headEntry n 300).any (fun h => !h.damaged && h.cells == 1))
      (fun m => (desc m 300).head == 0 && rd m (R.QM_CNT 1) == 1) = true
    ∧ shows (.qselAdvance 300) (queued 0xFFFFFF 1)
      (fun n => lineOn n && (headEntry n 300).any (fun h => !h.damaged)) (fun m => (desc m 300).head == 0) = true := by
  decide +kernel
theorem wit_QueueOperations_write :
    shows (.qselWrite 256) (booted [(R.QM_POOLCFG, 0x00010201), (R.QM_QDATA 0, 0x44000008)])
      (fun n => lineOn n && (qdataDesc n).size == 2 && decide (12 ≤ poolCells n) && decide ((desc n 256).kind = .off))
      (fun m => (desc m 256).size == 2 && (desc m 256).base == 8 && gf m R.QM_QSEL F.QM_QSEL_RESULT == 0) = true
    ∧ shows (.qselFlush 300) (queued 3 5) (fun n => lineOn n) (fun m => (desc m 300).fill == 0) = true := by decide +kernel
theorem wit_QueueKeepsOrder :
    let n := (queued 0xFFFFFE 1).node
    ((desc n 300).kind == .cell && (desc n 300).fill == 3 && !inTable n (cellAddr n (desc n 300) 3 + 127)
      && !inTable n (cellAddr n (desc n 300) 0)) = true := by decide +kernel
theorem wit_WeirOperations :
    shows (.wselWrite 9) (booted [(R.QM_WRATE, 7), (R.QM_WBURST, 8)]) (fun n => lineOn n)
      (fun m => (weir m 9).writes == [(7, 8, 1)]) = true
    ∧ shows (.descriptorTableWrite 0x01000000) (queued 0 0) (fun n => lineOn n && inTable n 0x01000000)
      (fun m => rd m (R.QM_CNT 10) == 1 && m.qm.tabWrLogged) = true := by decide +kernel
theorem wit_LogPaths :
    shows .safetyRecordPersist
      (onState (booted []) (fun n => withLog n { n.qm.log with waiting := [{ record := {}, evtReg := some (R.SF_EVT, 3) }] }))
      (fun n => lineOn n && n.qm.log.waiting.length == 1)
      (fun m => m.qm.log.waiting.isEmpty && m.qm.log.safety.length == 1 && rbit m R.SF_EVT 3) = true
    ∧ shows .historyBatchWrite (onState (booted []) (fun n => withLog n { n.qm.log with batch := [{}] }))
      (fun n => lineOn n && !nvFailed n) (fun m => m.qm.log.history.length == 1 && m.qm.log.batch.isEmpty) = true
    ∧ shows .historyBatchWrite
      (onState (booted [(R.AC_DIEHEALTH 6, 4)]) (fun n => withLog n { n.qm.log with batch := [{}] }))
      (fun n => lineOn n && nvFailed n) (fun m => m.qm.log.history.isEmpty && m.qm.log.batch.isEmpty) = true := by
  decide +kernel
theorem wit_LogPaths_deliver :
    shows (.safetyRecordDeliver false)
      (onState (booted []) (fun n => setDesc (withLog n { n.qm.log with safety := [⟨4, {}, true⟩] }) 16 { kind := .cell, size := 1 }))
      (fun n => lineOn n && (desc n 16).room 1 && n.qm.log.safety.length == 1)
      (fun m => (logPath m 16).next == 5) = true
    ∧ shows (.summaryRecordEmit 0)
      (onState (booted []) (fun n => setDesc (setLogPath n 16 { supp := [{}] }) 16 { kind := .cell, size := 1 }))
      (fun n => lineOn n && (desc n 16).room 1 && (logPath n 16).supp.length == 1)
      (fun m => gf m R.QM_EVT F.QM_EVT_SUMMARY == 1 && (logPath m 16).supp.isEmpty) = true := by decide +kernel

theorem wit_RegisterReads :
    shows (.rcRead 0 0x000052#32) (booted [(R.AC_IMGCTL, 1)])
      (fun n => ifaceOn n 0 && isRegister 0x50 && (readEffect n 0x50).isNone && (regSpec 0x50).isSome)
      (fun m => m.out == [.word 1#32]) = true
    ∧ shows (.rcRead 1 (BitVec.ofNat 32 (R.LC_CNT 1 18))) (booted [(R.LC_CNT 1 18, 5)])
      (fun n => ifaceOn n 1 && (regSpec (R.LC_CNT 1 18)).any (fun r => r.rc != 0))
      (fun m => m.out == [.word 5#32] && rd m (R.LC_CNT 1 18) == 0#32) = true := by decide +kernel
theorem wit_RegisterReads_reserved :
    shows (.reservedAddressAccess 1 0x0FFFFFFD#32 false) (booted []) (fun n => ifaceOn n 1 && !isRegister 0x0FFFFFFC)
      (fun m => m.out == [.word 0#32] && m.qm.log.lseq == 1#16) = true
    ∧ shows (.reservedAddressAccess 1 0x01000000#32 true) (booted []) (fun n => ifaceOn n 1 && isRegister 0x1000000)
      (fun m => m.qm.log.lseq == 1#16) = true := by decide +kernel
theorem wit_RegisterWrites :
    shows (.registerWrite 0 (BitVec.ofNat 32 (R.LC_CFG 1)) 0x001A0FFF#32) (booted [])
      (fun n => ifaceOn n 0 && (regSpec (R.LC_CFG 1)).isSome && !writeLocked n { iface := 0 } (R.LC_CFG 1)
        && (protectedRoles (R.LC_CFG 1) 0x001A0FFF#32).isNone && lineMode n != 2
        && (writeCommand (defaultEvents (quiet n) (R.LC_CFG 1) 0x001A0FFF#32) { iface := 0 } (R.LC_CFG 1) 0x001A0FFF#32).isNone)
      (fun m => rd m (R.LC_CFG 1) == 0x001A0FFF#32 && inForce m (R.LC_CFG 1) == 0x100222#32 && m.shadow.length == 1) = true := by
  decide +kernel
theorem wit_RegisterWrites_w1c :
    shows (.registerWrite 1 (BitVec.ofNat 32 (R.LC_EVT 0)) 0x5#32) (booted [(R.LC_EVT 0, 7)])
      (fun n => ifaceOn n 1) (fun m => rd m (R.LC_EVT 0) == 2#32 && m.shadow.isEmpty) = true := by decide +kernel
theorem wit_RefusedWrites :
    shows (.protectedWrite 0 (BitVec.ofNat 32 R.CF_CMD)) (booted []) (fun n => ifaceOn n 0 && (protectedRoles R.CF_CMD 0#32).isSome)
      (fun m => gf m R.HB_EVT F.HB_EVT_PROTWR == 1 && rd m (R.HB_CNT 12) == 1) = true
    ∧ shows (.partialWrite 0x300000#32 7#4) (booted []) (fun n => ifaceOn n 0) (fun m => rd m (R.HB_CNT 12) == 1) = true
    ∧ shows (.remoteWindowWrite 1 0x10000004#32 9#32) (booted [])
      (fun n => ifaceOn n 1 && decide (reach n 0x10000004 = .unusable) && !writeLocked n { iface := 1 } 0x10000004)
      (fun m => rd m R.HB_RAWERR == 0xE0000004#32 && rd m (R.HB_CNT 7) == 1) = true := by decide +kernel

/-- A node of two, number 1, whose window 0 reaches node 2. -/
def windowed (fetch : List Request) : State :=
  onState (booted [(R.HB_RWCFG 0, 0x80000002), (R.IN_STAT, 0x00020004), (R.IN_EPOCH, 0x00010001)]) (fun n =>
    { n with image := writeBytes [] (rosterAt 2 + 10) [1#8], hb := { n.hb with fetch := fetch } })

theorem wit_RemoteWindows :
    shows (.remoteWindowRead 0 0x10000040#32) (windowed [])
      (fun n => ifaceOn n 0 && decide (reach n 0x10000040 = .there 2 0x40) && (fetchFor n 0 0x40).isNone)
      (fun m => m.out == [.word 0xFFFFFFFF#32] && m.hb.fetch.length == 1) = true
    ∧ shows (.remoteWindowRead 0 0x10000040#32)
      (windowed [{ ord := 3, value := none, who := 0, addr := 0x40, target := 2, raddr := 0x40, rseq := 1, st := .data 7#32 1 }])
      (fun n => ifaceOn n 0 && (fetchFor n 0 0x40).any (fun r => r.st == .data 7#32 1))
      (fun m => m.out == [.word 7#32] && m.hb.fetch.isEmpty) = true
    ∧ shows (.remoteWindowWrite 0 0x10000040#32 5#32) (windowed []) (fun n => !writeLocked n { iface := 0 } 0x10000040)
      (fun m => m.hb.writes.length == 1) = true := by decide +kernel
theorem wit_RingDoorbells :
    shows (.cmdDoorbell 0 5 0) (booted []) (fun n => ifaceOn n 0 && ownsRing 0 5 && !ringStopped n 5 && (tailDoorbell n 10 0).isNone)
      (fun m => ringStopped m 5) = true
    ∧ shows (.cmdDoorbell 1 6 2) (onState (booted []) (fun n => setDesc n 12 { kind := .frame, kindCode := 2, size := 3 }))
      (fun n => ifaceOn n 1 && ownsRing 1 6 && (tailDoorbell n 12 2).isSome)
      (fun m => (desc m 12).tail == 2 && !ringStopped m 6) = true
    ∧ shows (.rspDoorbell 1 6 1) (onState (booted []) (fun n => setDesc n 13 { kind := .frame, kindCode := 2, size := 3, tail := 1 }))
      (fun n => (headDoorbell n 13 1).isSome) (fun m => (desc m 13).fill == 0) = true
    ∧ shows (.rspDoorbell 1 6 2) (booted []) (fun n => (headDoorbell n 13 2).isNone) (fun m => ringStopped m 6) = true
    ∧ shows (.ringFlush 5) (booted [(R.HB_RINGSTAT 5, 0xFFFFFFFF)]) (fun n => ringStopped n 5) (fun m => !ringStopped m 5) = true
    ∧ shows (.irqAck 3) (onState (booted []) (fun n => withHb n (fun h => { h with armed := 0 }))) (fun n => ifaceOn n 0)
      (fun m => m.hb.armed == 3) = true := by decide +kernel
theorem wit_ApertureAndQspi :
    shows (.dramApertureAccess 1 0xFFFFFFF#28 4096 none) (booted []) (fun n => hostOn n && ifaceOn n 1)
      (fun m => m.out.length == 1) = true
    ∧ shows (.dramApertureAccess 0 8#28 0 (some [1#8, 2#8])) (booted [(R.QM_POOLCFG, 0x00FF0201)]) (fun n => !inTable n 8 && !inTable n 9)
      (fun m => look 0#8 m.dram 9 == 2#8) = true
    ∧ shows (.qspiWrite 0x80000000#32 [0x04030201#32]) (booted [(R.QM_POOLCFG, 0x00FF0201)]) (fun n => hostOn n)
      (fun m => look 0#8 m.dram 3 == 4#8 && m.hb.qspiLast == 0x80) = true
    ∧ shows (.qspiWrite 0x20000000#32 [0#32]) (booted []) (fun _ => !qspiDram 0x20000000 && !qspiReg 0x20000000)
      (fun m => m.hb.qspiLast == 0x90) = true := by decide +kernel
theorem wit_ApertureAndQspi_read :
    shows (.qspiRead 0x80000000#32 1 false) (onState (booted [(R.QM_POOLCFG, 0x00FF0201)]) (fun n => dramStore n 0 [7#8]))
      (fun n => hostOn n && n.hb.held.isNone) (fun m => m.out == [.bytes [0x80#8, 7#8, 0#8, 0#8, 0#8]]) = true
    ∧ shows (.qspiRead 0x8FFFFFFC#32 1 true) (booted []) (fun n => hostOn n && n.hb.held.isNone && qspiDram 0x8FFFFFFC)
      (fun m => m.hb.held.isSome) = true
    ∧ shows (.qspiRead 0x40#32 1 false) (onState (booted []) (fun n => withHb n (fun h => { h with held := some (0x40, 9#32, false) })))
      (fun n => n.hb.held.isSome) (fun m => m.out == [.bytes [0x80#8, 9#8, 0#8, 0#8, 0#8]] && m.hb.held.isNone) = true
    ∧ shows .qspiStatus (booted []) (fun n => hostOn n) (fun m => m.out == [.bytes [0x80#8]]) = true := by decide +kernel
theorem wit_InterfaceResets :
    shows .functionLevelReset (booted [(R.HB_DWIN, 5), (R.HB_RINGSTAT 0, 0xFFFFFFFF)]) (fun n => hostOn n && !n.hb.perst)
      (fun m => gf m R.HB_EVT F.HB_EVT_FLR == 1 && rd m R.HB_DWIN == resetValue R.HB_DWIN && !ringStopped m 0) = true
    ∧ shows .perstAssert (booted [(R.HB_STAT, 0xFFFFFFFF)]) (fun n => hostOn n && !n.hb.perst)
      (fun m => m.hb.perst && gf m R.HB_STAT F.HB_STAT_LINKUP == 0) = true
    ∧ shows (.perstRelease (some (2, 2))) (onState (booted []) (fun n => withHb n (fun h => { h with perst := true })))
      (fun n => hostOn n) (fun m => !m.hb.perst && gf m R.HB_STAT F.HB_STAT_WIDTH == 4) = true := by decide +kernel

/-- A node with an open SAFETY session at the console and a pending one at PCI Express. -/
def withSessions : State :=
  onState (booted []) (fun n => { n with se := { n.se with
    sessions := [{ id := 5, role := 4, iface := 2, isOpen := true, idle := 9 }, { id := 6, role := 1, iface := 0, idle := 16000 }] } })

/-- Ring 0 of a state with a command in progress. -/
def running (s : State) (op : Nat) (params : List Byte) : State :=
  onState s (fun n => setRing n 0 { cur := some { cmdid := 1, opcode := op, session := 0, role := 0, tagged := false, params := params } })

theorem wit_SessionTimes :
    shows .sessionPendingExpiry withSessions (fun _ => true) (fun m => m.se.sessions.map Session.id == [5] && rd m (R.SE_CNT 7) == 1)
      = true
    ∧ shows .sessionIdleClose (onState withSessions (fun n => { n with se := { n.se with
        sessions := n.se.sessions.map (fun x => { x with idle := 2400000 }) } })) (fun n => n.se.sessions.all (fun x => x.id != 0))
        (fun m => m.se.sessions.map Session.id == [6] && gf m R.SE_EVT F.SE_EVT_SESSCLOSE == 1) = true
    ∧ shows (.lockoutExpiry 2 4) (onState (booted []) (fun n => setLock n 2 { remain := 5, level := 3 }))
        (fun n => lineOn n && refusing n 2) (fun m => !refusing m 2 && (lockOf m 2).level == 3) = true
    ∧ shows (.lockoutLevelReset 1 86400) (onState (booted []) (fun n => setLock n 1 { level := 3, fails := 2 })) (fun n => lineOn n)
        (fun m => (lockOf m 1).level == 0 && (lockOf m 1).fails == 2) = true := by decide +kernel
theorem wit_SessionCommands_refused :
    shows (.sessionOpen 0) (running (onState (booted []) (fun n => setLock (putKey n 1 0 [1#8] false) 0 { remain := 5 })) 0x10
        (1#8 :: List.replicate 19 0#8))
      (fun n => hostOn n && refusing n 0 && (keyOf n 1).isSome) (fun m => rd m (R.SE_CNT 5) == 1 && rd m (R.HB_CNT 1) == 1) = true := by
  decide +kernel
theorem wit_SessionCommands_open :
    shows (.sessionOpen 0) (running (onState (booted []) (fun n => putKey n 1 0 [1#8] false)) 0x10 (1#8 :: List.replicate 19 0#8))
      (fun n => hostOn n && !refusing n 0 && (keyOf n 1).isSome && decide (n.se.sessions.length < 8))
      (fun m => m.se.sessions.length == 1) = true := by decide +kernel
theorem wit_KeyCommands :
    shows (.cmdKeyset 0) (running (booted []) 0x13 ([3#8, 0, 0, 0, 7, 0, 0, 0] ++ List.replicate 32 0x55#8))
      (fun n => hostOn n && !nvFailed n && (keyOf n 3).isNone && n.se.sessions.isEmpty)
      (fun m => keyOf m 3 == some (List.replicate 32 0x55#8) && (keyArea m).provisioned && rd m (R.SE_CNT 6) == 1) = true
    ∧ shows (.cmdRetire 0) (running (onState (booted []) (fun n => putKey n 2 0 [1#8] false)) 0x20
        (leBytes 8 (withRegs []).node.uid.toNat))
      (fun n => hostOn n && !nvFailed n) (fun m => keyOf m 2 == none && (keyArea m).retired) = true := by decide +kernel
theorem wit_ConsoleCommands :
    shows .consoleLogout withSessions (fun n => hostOn n && n.se.sessions.all (fun x => x.id != 0))
      (fun m => m.se.sessions.map Session.id == [6] && m.out == [.bytes prompt]) = true
    ∧ shows (.consoleLogin 0 []) withSessions (fun n => hostOn n && !refusing n 2) (fun m => (lockOf m 2).fails == 1) = true
    ∧ shows (.consoleConfirm 7 false) withSessions (fun n => hostOn n && (consoleSession n).any (fun x => x.role == 4))
      (fun m => m.out == [.bytes prompt]) = true
    ∧ shows (.consoleRead 0x50 1) withSessions (fun n => hostOn n && (ring n 7).cur.isNone)
      (fun m => (ring m 7).cur.isNone && rd m (R.HB_CNT 0) == 1) = true := by decide +kernel

/-- The conditions of the command statements on ring 0. -/
def cmdRuns (op : Nat) (n : Node) : Bool :=
  hostOn n && (ring n 0).cur.any (fun c => c.opcode == op) && (ring n 0).wait == .none && !n.pw.softReset

theorem wit_CommandSet :
    shows (.cmdNop 0) (running (booted []) 1 [7#8]) (cmdRuns 1) (fun m => rd m (R.HB_CNT 0) == 1 && (ring m 0).cur.isNone) = true
    ∧ shows (.cmdSummary 0) (running (booted []) 2 []) (cmdRuns 2) (fun m => (ring m 0).wait == .summary) = true
    ∧ shows (.cmdRegread 0) (running (booted []) 3 [0, 0, 0, 0, 1, 0, 0, 0]) (cmdRuns 3) (fun m => rd m (R.HB_CNT 0) == 1 && rd m (R.HB_CNT 1) == 0) = true
    ∧ shows (.cmdRegwrite 0) (running (booted []) 4 (leBytes 4 (R.LP_WAKECFG) ++ [1, 0, 0, 0] ++ [0x0F, 0, 0, 0])) (cmdRuns 4)
      (fun m => rd m R.LP_WAKECFG == 0x0F && rd m (R.HB_CNT 1) == 0) = true
    ∧ shows (.cmdRegmodify 0) (running (booted []) 5 (leBytes 4 (R.LP_WAKECFG) ++ [0xF0, 0, 0, 0] ++ [0, 0, 0, 0])) (cmdRuns 5)
      (fun m => rd m R.LP_WAKECFG == 0x0F) = true
    ∧ shows (.cmdImageread 0) (running (booted []) 6 [0, 0, 0, 0, 8, 0, 0, 0]) (cmdRuns 6) (fun m => rd m (R.HB_CNT 1) == 0 && rd m (R.HB_CNT 0) == 1) = true
    ∧ shows (.cmdLogread 0) (running (booted []) 7 [0, 0, 0, 0, 1, 0]) (cmdRuns 7) (fun m => rd m (R.HB_CNT 1) == 0 && rd m (R.HB_CNT 0) == 1) = true := by decide +kernel
theorem wit_CommandSet_propose :
    shows (.proposeCommand 0) (running (booted [(R.IN_STAT, fset 0 F.IN_STAT_STATE 4), (R.IN_EPOCH, fset (fset 0 F.IN_EPOCH_NODE 3) F.IN_EPOCH_EPOCH 1)]) 8
        ([3, 1, 0, 0, 0, 4, 0, 0] ++ List.replicate 32 0#8))
      (fun n => cmdRuns 8 n && mayPropose n) (fun m => m.inn.pseq == 1) = true := by decide +kernel

/-- Ring 0 holds one command of an opcode in its command queue, and its response queue has room. -/
def ringed (op : Byte) : State :=
  onState (booted [(R.QM_POOLCFG, 0x00010201)]) (fun n =>
    let n := setDesc (setDesc n (cmdQueue 0) { kind := .frame, kindCode := 2, base := 8, size := 2, tail := 1 })
      (rspQueue 0) { kind := .frame, kindCode := 2, base := 16, size := 6 }
    { n with dram := writeBytes n.dram (cellAddr n (desc n (cmdQueue 0)) 0) ([24, 0] ++ List.replicate 18 0#8 ++ [op]) })

theorem wit_CommandStarts :
    shows (.commandStart 0) (ringed 2) (fun n => hostOn n && !ringStopped n 0 && (ring n 0).cur.isNone && (peekFrame n (cmdQueue 0)).any (fun x =>
        (parseCmd x.2).opcode == 2 && (parseCmd x.2).lenOk && (parseCmd x.2).session == 0 && (desc n (rspQueue 0)).room (responseCells (parseCmd x.2))))
      (fun m => (ring m 0).cur.any (fun c => c.opcode == 2)) = true
    ∧ shows (.commandStart 0) (ringed 99) (fun n => hostOn n && !ringStopped n 0 && (peekFrame n (cmdQueue 0)).any (fun x =>
        (parseCmd x.2).opcode == 99 && (desc n (rspQueue 0)).room (responseCells (parseCmd x.2))))
      (fun m => (ring m 0).cur.isNone && rd m (R.HB_CNT 1) == 1) = true := by decide +kernel
theorem wit_ResponseEndsCommand :
    let n := (running (ringed 1) 1 []).node
    ((ring n 0).cur.any (fun c => c.session == 0 && !c.tagged) && !(ring n 0).flush && !n.pw.softReset
      && (desc n (rspQueue 0)).room (frameCells 24) && (ring (respond n 0 0 []) 0).cur.isNone) = true := by decide +kernel

/-- A fetch under way from node 2. -/
def fetching (st : ReqState) (age : Nat) : Request :=
  { ord := 3, value := none, who := 0, addr := 0x40, target := 2, raddr := 0x40, rseq := 9, st := st, age := age, started := true }

theorem wit_BridgeRecords :
    (let n := readResponse (windowed [fetching .sent 5]).node 2 { op := 0x81, rseq := 9, addr := 0x40, data := 77 }
     rd n (R.HB_CNT 2) == 1 && n.hb.fetch.map Request.st == [.data 77 64]) = true
    ∧ (let n := readResponse (windowed [fetching .sent 5]).node 3 { op := 0x81, rseq := 9 }
       rd n (R.HB_CNT 6) == 1) = true
    ∧ (let n := takeRequest (windowed []).node 2 { op := 1, rseq := 4, addr := 0xB00000 }
       n.hb.inbound == [{ op := 0x81, rstat := 2, rseq := 4, peer := 2, addr := 0xB00000 }]) = true := by decide +kernel
theorem wit_BridgeTimes :
    shows .fetchTimeout (windowed [fetching .sent 99]) (fun n => hostOn n && decide (bridgeTmo n ≤ 99))
      (fun m => m.hb.fetch.map Request.st == [.failed 2 64] && gf m R.HB_EVT F.HB_EVT_RTMO == 1) = true
    ∧ shows .busyRetry (windowed [fetching (.busy 0) 9]) (fun _ => true) (fun m => m.hb.fetch.map Request.st == [.due]) = true
    ∧ shows .fetchEntryExpiry (windowed [fetching (.data 1 0) 9, fetching .sent 9]) (fun _ => true)
      (fun m => m.hb.fetch.length == 0) = true
    ∧ shows (.pollStale 2) (onState (windowed []) (fun n => { n with hb := { n.hb with staleDue := [2] } }))
      (fun n => n.hb.staleDue.contains 2) (fun m => gf m R.HB_EVT F.HB_EVT_RPSTALE == 1 && m.hb.staleDue == []) = true := by
  decide +kernel
theorem wit_BridgeTimes_send :
    shows (.bridgeRequestSend 3 4) (windowed [{ fetching .due 0 with started := false }]) (fun n => bridgeOnLine n
        && !(dueRequests (allRequests n)).isEmpty) (fun m => m.hb.fetch.map Request.st == [.sent]) = true
    ∧ shows (.bridgeResponseSend 3 4) (onState (windowed []) (fun n => { n with hb := { n.hb with inbound := [{ op := 0x81 }] } }))
      (fun n => bridgeOnLine n) (fun m => m.hb.inbound == []) = true
    ∧ shows (.pollSend 3 4) (onState (windowed []) (fun n => wr n (R.HB_RPCFG 4) (fset 0 F.HB_RPCFG_EN 1)))
      (fun n => bridgeOnLine n && !(enabledPolls n).isEmpty) (fun m => m.hb.polls == [(4, 0)] && m.hb.rseq == 1) = true := by
  decide +kernel

theorem wit_NodeResets :
    shows .resetPin (booted [(R.LC_CNT 1 18, 5), (R.PW_WAKECFG, 1)]) (fun n => powerState n != 0)
      (fun m => gf m R.PW_RSTSTAT F.PW_RSTSTAT_KIND == 3 && m.pw.unbooted && rd m (R.LC_CNT 1 18) == 0 && rd m R.PW_WAKECFG == 1) = true
    ∧ shows .thermalReset (booted []) (fun n => powerState n != 0)
      (fun m => gf m R.PW_RSTSTAT F.PW_RSTSTAT_KIND == 6 && m.pw.thermal) = true
    ∧ shows (.softwareReset 2) (booted []) (fun n => lineOn n)
      (fun m => gf m R.PW_RSTSTAT F.PW_RSTSTAT_KIND == 4 && m.pw.unbooted) = true
    ∧ shows (.watchdogExpiry 9) (onState (booted [(R.PW_WDCFG, fset 0 F.PW_WDCFG_EN 1)]) (fun n =>
        { n with line := { n.line with cxLost := true }, pw := { n.pw with beatLost := 16, wdTimes := [0, 0] } }))
      (fun n => lineOn n && !cxAlive n && gf n R.PW_WDCFG F.PW_WDCFG_EN == 1 && decide (wdTime n ≤ n.pw.beatLost))
      (fun m => gf m R.PW_RSTSTAT F.PW_RSTSTAT_KIND == 5 && gf m R.PW_RSTSTAT F.PW_RSTSTAT_WDSTOP == 1) = true
    ∧ shows .islandSupplyLoss (booted []) (fun _ => true) (fun m => powerState m == 0 && gf m R.PW_RSTSTAT F.PW_RSTSTAT_BKLOST == 1)
      = true := by decide +kernel
theorem wit_Boots :
    shows (.bootStart false false) (withRegs []) (fun n => n.pw.unbooted && !n.pw.thermal && n.cf.j0.isNone && n.cf.j1.isNone)
      (fun m => lineOn m && powerState m == 3 && m.tb.running && gf m R.CF_STAT F.CF_STAT_NOBLEND == 1) = true := by decide +kernel

/-- A parked node with some registers set. -/
def parked (l : List (Nat × BitVec 32)) : State := booted ((R.PW_STAT, 1#32) :: l)

theorem wit_Wakes :
    shows (.wakeEvent 3) (parked [(R.PW_WAKECFG, 8)]) (fun n => wakeArmed n 3 && asleep n && !n.pw.unbooted)
      (fun m => gf m R.PW_WAKESRC F.PW_WAKESRC_FIRST == 3 && gf m R.PW_WAKESRC F.PW_WAKESRC_VALID == 1 && m.pw.unbooted) = true
    ∧ shows (.wakeEvent 6) (parked [(R.PW_WAKECFG, fset 0 F.PW_WAKECFG_ALMEN 1), (R.PW_ALARM_LO, 7)])
      (fun n => wakeArmed n 6 && decide (n.pw.slow.toNat < alarmAt n) && asleep n)
      (fun m => gf m R.PW_WAKESRC F.PW_WAKESRC_FIRST == 6 && m.pw.slow == 7 && gf m R.PW_WAKECFG F.PW_WAKECFG_ALMEN == 0) = true
    ∧ shows (.wakeToneDetect 3) (booted []) (fun n => bitOf (gf n R.LP_WAKECFG F.LP_WAKECFG_DETEN) 3 && lineOn n)
      (fun m => rd m (R.LP_CNT 3 7) == 1 && gf m R.LP_WAKESTAT F.LP_WAKESTAT_FIRST == 3) = true
    ∧ shows (.wakeToneDetect 0) (parked []) (fun n => bitOf (gf n R.LP_WAKECFG F.LP_WAKECFG_DETEN) 0 && asleep n)
      (fun m => gf m R.PW_WAKESRC F.PW_WAKESRC_FIRST == 4 && m.line.blanking && m.out.contains (.wakeTone 1)) = true := by
  decide +kernel
theorem wit_Wakes_frames :
    shows (.canDominantWake 2 5) (parked [(R.CB_WAKECFG, fset 0 F.CB_WAKECFG_WEDGE 4)])
      (fun n => bitOf (gf n R.CB_WAKECFG F.CB_WAKECFG_WEDGE) 2 && decide (domus n ≤ 5) && asleep n)
      (fun m => gf m R.PW_WAKESRC F.PW_WAKESRC_FIRST == 5 && m.pw.unbooted) = true := by decide +kernel
theorem wit_PowerTargets :
    shows (.targetParked 2) (booted []) (fun n => lineOn n && !anyUp n) (fun m => powerState m == 1 && !m.pw.unbooted) = true
    ∧ shows (.targetDoze 3) (booted [(R.LP_PORTSTAT 3, 7)]) (fun n => lineOn n && anyUp n)
      (fun m => gf m R.PW_EVT F.PW_EVT_REFUSED == 1 && powerState m == 3) = true
    ∧ shows (.targetLineOnly 3) (booted [(R.PW_STAT, 4)]) (fun n => isRun n) (fun m => m.pw.moveTo == some 3) = true
    ∧ shows (.targetRun 3) (onState (booted []) (fun n => { n with cf := { n.cf with running := [1#8] } }))
      (fun n => !isRun n && blendLoaded n) (fun m => m.pw.moveTo == some 4) = true
    ∧ shows (.roundWrite 1) (booted [(R.PW_SLEEPCFG, fset 0 F.PW_SLEEPCFG_AUTH 1)]) (fun n => lineOn n && n.pw.request.isNone)
      (fun m => m.pw.requestDue && m.pw.request.isSome) = true
    ∧ shows (.targetRun 0) (booted []) (fun n => lineOn n) (fun m => rd m (R.HB_CNT 12) == 1) = true := by decide +kernel
theorem wit_PowerEvents :
    shows .powerFailure (booted [(R.PW_HOLDCFG, fset 0 F.PW_HOLDCFG_EN 1), (R.PW_HOLDSTAT, fset 0 F.PW_HOLDSTAT_HOLDOK 1)])
      (fun n => lineOn n && heldUp n) (fun m => m.pw.failing == some 0 && gf m R.PW_HOLDSTAT F.PW_HOLDSTAT_PFAIL == 1) = true
    ∧ shows .powerFailure (booted [(R.PW_HOLDCFG, 0)]) (fun n => lineOn n && !heldUp n)
      (fun m => gf m R.PW_RSTSTAT F.PW_RSTSTAT_KIND == 1 && m.pw.unbooted) = true
    ∧ shows (.slowLoRead 7) (onState (booted []) (fun n => { n with pw := { n.pw with slow := 0x1FFFFFFFE } })) (fun n => lineOn n)
      (fun m => m.out == [.word 5] && m.pw.slowHi == 2) = true
    ∧ shows .parkVetoWake (onState (booted []) (fun n => { n with pw := { n.pw with vetoWake := some 160 } }))
      (fun n => lineOn n && !anyUp n) (fun m => m.pw.vetoWake == none && rd m (R.PW_CNT 7) == 1) = true
    ∧ shows .aloneExpiry (onState (booted [(R.PW_SLEEPCFG, fset 0 F.PW_SLEEPCFG_ALONE 1)]) (fun n =>
        { n with sa := {}, pw := { n.pw with aloneFor := 8000 } })) (fun n => lineOn n && decide (aloneCycles n ≤ n.pw.aloneFor)
          && aloneCycles n != 0 && !anyUp n && (uVetoes n).isEmpty) (fun m => powerState m == 1) = true
    ∧ shows .holdupCharged (booted []) (fun n => lineOn n) (fun m => gf m R.PW_HOLDSTAT F.PW_HOLDSTAT_HOLDOK == 1) = true := by
  decide +kernel

/-- Node 2 of 3 in native mode, intermediate on channel A, in cycle 5, with some registers set. -/
def member (l : List (Nat × BitVec 32)) : State :=
  onState (booted ([(R.LP_PORTSTAT 0, 0x107), (R.LP_PORTSTAT 1, 0x107), (R.LC_STAT 0, fset 0 F.LC_STAT_ROLE 4)
    , (R.IN_STAT, 0x00030004), (R.IN_EPOCH, 0x00000002)] ++ l)) (fun n =>
    let f := sf (sf n (R.LP_PORTSTAT 0) F.LP_PORTSTAT_FWD 1) (R.LP_PORTSTAT 1) F.LP_PORTSTAT_FWD 1
    setChan f 0 { chan f 0 with outCsf := some { cn := 5, nodes := 3 } })

/-- A frame of cycle 5 of a type, from node 1. -/
def cycleFrame (type index flags len : Nat) (payload : List Byte) : List Byte :=
  buildFrame 0 type (header type index 5 0 flags 1 len 0xFFFF 0) payload

theorem wit_NotPermittedDropped :
    shows (.audioContainerOutbound 0 (cycleFrame 15 9 0 0 [])) (member []) (fun n => hears n 0 (cycleFrame 15 9 0 0 []))
      (fun m => m.out == [.lineIdle 1] && rd m (R.LC_CNT 0 14) == 1 && gf m (R.LC_EVT 0) F.LC_EVT_RXVIOL == 1) = true := by
  decide +kernel
theorem wit_LineTimes :
    shows (.csfFlywheel 0 false) (member []) (fun n => lineOn n && !originates n 0 && role n 0 != 0)
      (fun m => (chan m 0).outMiss == 1 && ((chan m 0).outCsf.map Csf.cn) == some 6 && rd m (R.LC_CNT 0 16) == 1) = true
    ∧ shows (.upstreamLoss 0) (onState (member []) (fun n => setChan n 0 { chan n 0 with outMiss := 2 }))
      (fun n => !originates n 0) (fun m => gf m (R.LC_EVT 0) F.LC_EVT_UPLOSS == 1) = true
    ∧ shows (.quarantineExpiry 1) (onState (member []) (fun n => setPort n 1 { port n 1 with quar := some 0 }))
      (fun n => decide ((port n 1).quar = some 0)) (fun m => (port m 1).quar.isNone) = true
    ∧ shows (.quarantineClearWrite 1) (onState (member []) (fun n => setPort n 1 { port n 1 with quar := some 9 }))
      (fun n => (port n 1).quar.isSome) (fun m => (port m 1).quarClear) = true
    ∧ shows (.returnLoss 1) (onState (member []) (fun n => setPort n 1 { port n 1 with silent := 2 }))
      (fun n => lineOn n && role n 0 != 0 && portUp n 1 && portPasses n 1 && outerPort n 0 == 1)
      (fun m => (port m 1).quar.isSome && rd m (R.DU_CNT 9) == 1) = true
    ∧ shows (.receivedFrameViolation 3 .aborted) (member []) (fun n => lineOn n && lineDieOk n 1)
      (fun m => rd m (R.LP_CNT 3 3) == 1) = true
    ∧ shows (.starvedSet 1) (onState (member []) (fun n => setChan n 1 { chan n 1 with abandoned := 2 }))
      (fun n => !(chan n 1).starved) (fun m => (chan m 1).starved && gf m (R.LC_EVT 1) F.LC_EVT_STARVED == 1) = true
    ∧ shows .linkWaitExpiry (onState (booted [(R.IN_STAT, fset 0 F.IN_STAT_STATE 1), (R.IN_LOCAL, fset 0 F.IN_LOCAL_CSCAP 1)]) (fun n =>
        { n with line := { n.line with kt := some [1#8] } })) (fun n => inState n == 1 && isEndNode n && csCap n)
      (fun m => inState m == 2) = true := by decide +kernel
theorem wit_StaticSlots :
    shows (.rosterSlotOutbound 0 (cycleFrame 4 0 0 1440 [])) (member []) (fun n => hears n 0 (cycleFrame 4 0 0 1440 [])
        && passesCn n 0 (cycleFrame 4 0 0 1440 []) && rosterSlotOf 0 2 == 0 && ownNumber n == 2)
      (fun _ => true) = true := by decide +kernel
theorem wit_MiniSlots :
    shows (.minislotClaim 0 (cycleFrame 8 3 0 0 []) 64 7 0) (member []) (fun n => hears n 0 (cycleFrame 8 3 0 0 [])
        && passesCn n 0 (cycleFrame 8 3 0 0 []) && (chan n 0).chain.isNone)
      (fun _ => true) = true := by decide +kernel
theorem wit_CsfReceive :
    shows (.csfReceived 0 (cycleFrame 2 0 0 0 []) 0 0) (member []) (fun n => lineOn n && lineDieOk n 0 && portPasses n 0)
      (fun m => rd m (R.LC_CNT 0 14) == 1) = true := by decide +kernel
theorem wit_DelayExchanges :
    shows (.dreqTransmit 0 0x100 0x200) (member []) (fun n => lineOn n && portPasses n 0 && cxAlive n)
      (fun m => (port m 0).seq == 1 && (port m 0).dreqs.length == 1) = true
    ∧ shows (.drspReceived 0 (cycleFrame 0x11 0 0 20 []) 0 0) (member []) (fun n => (port n 0).dreqs.isEmpty)
      (fun m => rd m (R.TB_CNT 1) == 1) = true := by decide +kernel
theorem wit_OriginatorSlots :
    shows (.originatorSlotTransmit 0 83 64 7 0) (onState (member []) (fun n => sf (sf n (R.LC_STAT 0) F.LC_STAT_ROLE 1) R.IN_EPOCH F.IN_EPOCH_NODE 0))
      (fun n => lineOn n && originates n 0 && (chan n 0).chain.isNone && ownNumber n == 0)
      (fun m => m.out.any (fun o => match o with | .line 0 b => fType b == 8 && fIndex b == 3 | _ => false)) = true := by decide +kernel
theorem wit_LaneOperations :
    (laneAddSat 0x7FFFFFFF 5).1 = 0x7FFFFFFF ∧ (laneAddSat 0x80000000 0xFFFFFFFF).1 = 0x80000000 ∧ (laneAddSat 3 4).1 = 7 := by decide +kernel

/-- The same member with an epoch key. -/
def keyed : State := onState (member []) (fun n => { n with line := { n.line with key := some ⟨0, 0, [1#8]⟩ } })

/-- It after it has counted a good frame on port 0. -/
def heard : Node := countCrc (quiet keyed.node) 0 (cycleFrame 9 3 0 0 [])

/-- A tagged frame of one type and of 152 bytes before the tag, as node 1 sends it to `keyed` on channel A in cycle 5. -/
def keyedFrame (type : Nat) (body : List Byte) : List Byte := taggedFrame heard 0 type 3 5 0 1 1 0 body

/-- `keyed` hears it on the outbound pass, with good CRC, cycle number and tag. -/
theorem keyedFrame_ok (type : Nat) (ht : type = 9 ∨ type = 11 ∨ type = 12) (body : List Byte) (hb : body.length = 152) :
    hears keyed.node 0 (keyedFrame type body) = true ∧ fType (keyedFrame type body) = type
      ∧ fTurned (keyedFrame type body) = false ∧ crcClass (keyedFrame type body) = .good
      ∧ passesCn heard 0 (keyedFrame type body) = true ∧ singleTagOk heard 0 (keyedFrame type body) = true
      ∧ cut (keyedFrame type body) 24 152 = body
      ∧ countCrc (quiet keyed.node) (rxPort keyed.node 0 (keyedFrame type body)) (keyedFrame type body) = heard
      ∧ noteClaimed heard 0 (keyedFrame type body) = heard := by
  have hh := header_length type 3 5 0 0xB0 1 (152 + 8) 1 0
  have key (off k : Nat) (lo : 8 ≤ off) (hi : off + k ≤ 24) : be (keyedFrame type body) off k
      = be (header type 3 5 0 0xB0 1 (152 + 8) 1 0) (off - 8) k := by
    unfold keyedFrame taggedFrame
    simp only [hb]
    exact be_buildFrame _ _ _ _ hh off k lo hi
  have hT : fTurned (keyedFrame type body) = false := by
    rw [fTurned, fFlags, key 13 1 (by omega) (by omega)]
    rcases ht with rfl | rfl | rfl <;> decide +kernel
  have h8 : fType (keyedFrame type body) = type := by
    rw [fType, key 8 1 (by omega) (by omega)]
    rcases ht with rfl | rfl | rfl <;> decide +kernel
  have hC : fCnlo (keyedFrame type body) = 5 := by
    rw [fCnlo, key 10 2 (by omega) (by omega)]
    rcases ht with rfl | rfl | rfl <;> decide +kernel
  have hE : fEpochlo (keyedFrame type body) = 0 := by
    rw [fEpochlo, key 12 1 (by omega) (by omega)]
    rcases ht with rfl | rfl | rfl <;> decide +kernel
  have hG : crcClass (keyedFrame type body) = .good := by
    unfold keyedFrame taggedFrame
    simp only [hb]
    exact crcClass_buildFrame _ _ _ _ hh
  have hg : crcClass (cycleFrame 9 3 0 0 []) = .good := crcClass_buildFrame _ _ _ _ (header_length _ _ _ _ _ _ _ _ _)
  refine ⟨?_, h8, hT, hG, ?_, ?_, ?_, ?_, ?_⟩
  · unfold hears rxPort; rw [hT]; decide +kernel
  · unfold passesCn cnOf; rw [hT, hC, h8, hE, heard, countCrc, hg]
    rcases ht with rfl | rfl | rfl <;> decide +kernel
  · refine singleTagOk_taggedFrame _ _ _ _ _ _ _ _ _ _ (by omega) (by omega) ?_
    rw [hb, heard, countCrc, hg]
    rcases ht with rfl | rfl | rfl <;> decide +kernel
  · unfold keyedFrame taggedFrame
    simp only [hb]
    rw [cut_buildFrame_payload _ _ _ _ hh _ (by rcases ht with rfl | rfl | rfl <;> decide) (by simp [hb])]
    rw [← hb, List.take_left]
  · have : rxPort keyed.node 0 (keyedFrame type body) = 0 := by unfold rxPort; rw [hT]; decide +kernel
    rw [this, heard, countCrc, countCrc, hG, hg]
  · have : (chan heard 0).chain = none := by rw [heard, countCrc, hg]; decide +kernel
    rw [noteClaimed, this]

/-- A contender that holds K_T, with port 0 forwarding. -/
def contender (l : List (Nat × BitVec 32)) : State :=
  onState (booted ([(R.IN_STAT, fset 0 F.IN_STAT_STATE 2), (R.LP_PORTSTAT 0, 7)] ++ l)) (fun n =>
    sf { n with line := { n.line with kt := some [1#8] } } (R.LP_PORTSTAT 0) F.LP_PORTSTAT_FWD 1)

theorem wit_ColdStart :
    shows .beaconSend (contender []) (fun n => inState n == 2 && n.line.kt.isSome)
      (fun m => m.inn.bseq == 1 && m.out.length == 1) = true
    ∧ shows .beaconWindowExpiry (contender []) (fun n => inState n == 2 && !n.inn.portMoved)
      (fun m => inState m == 4 && isLeader m && ownNumber m == 1 && gf m R.IN_EVT F.IN_EVT_LEADER == 1) = true
    ∧ shows .formwaitExpiry (onState (member []) (fun n => { (sf n R.IN_STAT F.IN_STAT_LEADER 1) with inn := { n.inn with wonCn := some (2 ^ 48 - 400) } }))
      (fun n => isLeader n && epochNow n == 0 && decide ((formWait n : Int) ≤ cnDiff (cnNow n) (2 ^ 48 - 400)))
      (fun m => m.inn.wanted && m.inn.wonCn.isNone) = true := by decide +kernel

/-- A lone leader of epoch 0, with an inauguration wanted. -/
def leader (l : List (Nat × BitVec 32)) : State :=
  onState (booted ([(R.IN_STAT, 0x00010014), (R.IN_EPOCH, 1), (R.LC_STAT 0, fset 0 F.LC_STAT_ROLE 6), (R.LC_STAT 1, fset 0 F.LC_STAT_ROLE 6)] ++ l)) (fun n =>
    { n with line := { n.line with kt := some [1#8] }, inn := { n.inn with wanted := true } })

theorem wit_LapStarts :
    shows (.prepareSend 0 0) (leader []) (fun n => isLeader n && inState n == 4 && n.inn.inaug.isNone && !n.inn.forming && canLap n && cxAlive n
        && n.inn.yield.isNone && n.inn.wanted)
      (fun m => gf m R.IN_STAT F.IN_STAT_INAUG == 1 && m.inn.inaug.any (fun i => i.epoch == 1) && m.inn.prepared.any (fun p => p.number == 1)) = true
    ∧ shows .prepareReturnTimeout (onState (leader []) (fun n => { n with inn := { n.inn with inaug := some { epoch := 7, sentCn := 2 ^ 48 - 20, lm := 10 } } }))
      (fun n => n.inn.inaug.any (fun i => !i.returned && decide ((i.lm + 1 : Int) ≤ cnDiff (cnNow n) i.sentCn)))
      (fun m => m.inn.inaug.isNone && m.inn.maxEpoch == 7 && rd m (R.IN_CNT 1) == 1) = true
    ∧ shows (.commitSend 0 0) (onState (leader []) (fun n => { n with inn := { n.inn with inaug := some { epoch := 7, returned := true, lm := 3 } } }))
      (fun n => canLap n && cxAlive n && !n.inn.abandonNow) (fun m => m.inn.inaug.any (fun i => i.committed && i.commitCn == 4)) = true := by
  decide +kernel
theorem wit_Coupling :
    shows (.admissionRecordSend 0) (onState (leader [(R.LP_PORTSTAT 0, 7)]) (fun n => sf n (R.LP_PORTSTAT 0) F.LP_PORTSTAT_HOLDRSN 1))
      (fun n => portUp n 0 && holdReason n 0 == 1 && lineOn n) (fun m => (port m 0).admTx == 1) = true
    ∧ shows (.coupleSend 0) (onState (member [(R.IN_STAT, 0x00030004)]) (fun n =>
        setPort (sf n (R.LP_PORTSTAT 0) F.LP_PORTSTAT_HOLDRSN 1) 0 { port n 0 with admUsed := 2 }))
      (fun n => portUp n 0 && holdReason n 0 == 1 && !(port n 0).coupled && ownNumber n == 2 && inState n == 4)
      (fun m => (port m 0).coupled && (chan m 1).control.length == 1) = true
    ∧ shows (.mergePrepareSend 0 0) (onState (leader [(R.IN_EPOCH, 0x00050001)]) (fun n =>
        { n with inn := { n.inn with wanted := false, couples := [(List.replicate 56 0#8, true, false)] } }))
      (fun n => isLeader n && inState n == 4 && epochNow n == 5 && canLap n)
      (fun m => m.inn.couples.isEmpty && m.inn.inaug.any (fun i => i.epoch == 6 && i.commitCn == 64)) = true := by decide +kernel
theorem wit_LapChanges :
    (changePrepare (leader []).node 0 0 { op := 1, count := 4, delaySum := 9 }).count = 5 := by decide +kernel

theorem wit_SequencerCommands :
    shows (.proposalSubmit 0x01020000) (leader []) (fun n => lineOn n && mayPropose n && gf n R.IN_PROPSTAT F.IN_PROPSTAT_RESULT != 1)
      (fun m => gf m R.IN_PROPSTAT F.IN_PROPSTAT_PSEQ == 1 && m.inn.proposals.length == 1 && rd m (R.IN_CNT 2) == 1) = true
    ∧ shows (.proposalTimeout 4) (onState (leader []) (fun n => { n with inn := { n.inn with proposals :=
        [{ pseq := 4, sect := 5, op := 1, index := 0, boff := 0, data := [], cn := 2 ^ 48 - 9000, epoch := 0, tries := 3, origin := 0 }] } }))
      (fun n => decide ((proposalWait n : Int) ≤ cnDiff (cnNow n) (2 ^ 48 - 9000))) (fun m => m.inn.proposals.isEmpty && rd m (R.IN_CNT 5) == 1) = true
    ∧ shows .commitListPublish (leader []) (fun n => isLeader n && inState n == 4 && cxAlive n && lineOn n && n.inn.inaug.isNone
        && n.inn.published.isNone && n.inn.lastListCn == 0) (fun m => m.inn.lseq == 1 && m.inn.lists.length == 1) = true
    ∧ shows .resyncSend (onState (member []) (fun n => { (sf n R.AC_IMGSTAT F.AC_IMGSTAT_STALE 1) with inn := { n.inn with resync := true } }))
      (fun n => isStale n && ownNumber n == 2 && !isLeader n && cxAlive n) (fun m => !m.inn.resync && (chan m 0).control.length == 1) = true
    ∧ shows .snapMissed (onState (member []) (fun n => { (sf n R.AC_IMGSTAT F.AC_IMGSTAT_STALE 1) with inn := { n.inn with resyncCn := some (2 ^ 48 - 64) } }))
      (fun n => isStale n && n.inn.snap.isNone) (fun m => m.inn.resync) = true := by decide +kernel

/-- A node whose time base runs. -/
def ticking (l : List (Nat × BitVec 32)) (tb : TbState) : State := onState (booted l) (fun n => { n with tb := { tb with running := true } })

theorem wit_TimeBaseCommands :
    shows .holdoverEntry (ticking [(R.TB_STAT, fset (fset 0 F.TB_STAT_STEPPED 1) F.TB_STAT_STATE 3)] { noExch := 2 })
      (fun n => hasDomain n && !isRoot n) (fun m => gf m R.TB_STAT F.TB_STAT_STATE == 4 && rd m (R.TB_CNT 4) == 1) = true
    ∧ shows .nsWrap (ticking [(R.TB_WRAPCNT, 6)] { counter := 0xFFFFFFFFFFFFFFFF }) (fun n => n.tb.running && n.tb.incr != 0)
      (fun m => m.tb.counter == 0x1FFFFFFFF && rd m R.TB_WRAPCNT == 7) = true
    ∧ shows (.toutArm 3 false true) (ticking [(R.TB_TOUTWID 3, 7)] {}) (fun _ => true)
      (fun m => gf m (R.TB_TOUTSTAT 3) F.TB_TOUTSTAT_BADCFG == 1) = true
    ∧ shows (.toutArm 2 false true) (ticking [(R.TB_TOUTWID 2, 8), (R.TB_TOUTOFF 2, 124999)] {}) (fun _ => true)
      (fun m => (look {} m.tb.tout 2).armed && (look {} m.tb.tout 2).next == 124998) = true
    ∧ shows (.toutPulseStart 0) (ticking [] { tout := [(0, { armed := true, next := 124999, per := 16, wid := 8 })] })
      (fun n => inThisCycle n 124999) (fun m => m.out == [.tout 0 true] && (look {} m.tb.tout 0).active) = true
    ∧ shows (.toutPulseEnd 0) (ticking [] { tout := [(0, { armed := true, active := true, fired := true, stop := 8, next := 16, per := 16, wid := 8 })] })
      (fun n => inThisCycle n 8) (fun m => m.out == [.tout 0 false] && gf m (R.TB_TOUTSTAT 0) F.TB_TOUTSTAT_DONE == 1) = true := by
  decide +kernel
theorem wit_TimeBaseCommands_capture :
    shows (.tcapEdge 1 true 99) (ticking [(R.TB_TCAPCFG 1, fset (fset 0 F.TB_TCAPCFG_EN 1) F.TB_TCAPCFG_EDGE 1)] {})
      (fun n => gf n (R.TB_TCAPCFG 1) F.TB_TCAPCFG_EN == 1) (fun m => (look {} m.tb.tcap 1).fifo.length == 1) = true
    ∧ shows (.tcapLoRead 1) (ticking [] { tcap := [(1, { fifo := [⟨9, 1, true⟩], latched := some ⟨9, 1, true⟩ })] }) (fun _ => true)
      (fun m => m.out == [.word 9] && (look {} m.tb.tcap 1).fifo.isEmpty) = true := by decide +kernel
theorem wit_TickOnEmptyQueue :
    (match step (ticking [] {}) with | .next t => t.node.tb.counter == 0x200000000 | _ => false) = true := by decide +kernel

theorem wit_SleepRounds :
    shows .roundTimerExpiry (onState (member [(R.PW_STAT, 4), (R.PW_SLEEPCFG, fset 0 F.PW_SLEEPCFG_TMR 1)]) (fun n =>
        { n with sa := {}, pw := { n.pw with quietFor := 480000 } }))
      (fun n => isRun n && gf n R.PW_SLEEPCFG F.PW_SLEEPCFG_TMR != 0 && decide (480000 ≤ n.pw.quietFor) && (uVetoes n).isEmpty
        && n.pw.request.isNone && !isLeader n && ownNumber n != 0)
      (fun m => m.pw.request.isSome && !m.pw.requestDue && (chan m 0).control.length == 1) = true
    ∧ shows .roundRetryExpiry (onState (leader []) (fun n => { n with pw := { n.pw with retryIn := some 480000, request := some true } }))
      (fun n => isLeader n && lineOn n && decide (retryCycles n ≤ 480000)) (fun m => m.pw.retryIn.isNone && m.pw.held == [(1, true)]) = true
    ∧ shows .consentTimeout (onState (leader []) (fun n => { n with pw := { n.pw with round := some (3, 2 ^ 48 - 100, 2, 0, false, false) } }))
      (fun n => isLeader n && n.pw.consent.isEmpty && n.pw.parkSent.isNone && decide ((lapMax n + 1 : Int) < cnDiff (cnNow n) (2 ^ 48 - 100)))
      (fun m => m.pw.round.isNone && gf m R.PW_ROUNDSTAT F.PW_ROUNDSTAT_RESULT == 4 && rd m (R.PW_CNT 2) == 1) = true := by decide +kernel
theorem wit_SleepRounds_consent :
    shows .consentTimeout (onState (leader []) (fun n => { n with pw := { n.pw with
        round := some (3, 0, 2, 0, false, false), consent := ({ op := 2, rseq := 3, nodes := 2, consents := 1, mcount := 1, mnode := 2, mreason := 8 } : RoundMsg).bytes } }))
      (fun n => isLeader n && n.pw.parkSent.isNone) (fun m => gf m R.PW_ROUNDSTAT F.PW_ROUNDSTAT_RESULT == 3 && m.pw.retryIn == some 0) = true
    ∧ shows .consentTimeout (onState (leader []) (fun n => { n with pw := { n.pw with
        round := some (3, 0, 2, 0, true, false), consent := ({ op := 2, rseq := 3, nodes := 2, consents := 2 } : RoundMsg).bytes } }))
      (fun n => isLeader n && n.pw.parkSent.isNone && n.pw.park.isNone && epochNow n == 0)
      (fun m => gf m R.PW_ROUNDSTAT F.PW_ROUNDSTAT_RESULT == 1 && m.pw.park.isSome && gf m R.PW_EVT F.PW_EVT_PARKPEND == 1) = true
    ∧ shows .roundAbortSend (onState (member []) (fun n => { n with pw := { n.pw with park := some (3, 100, false) }, sa := { n.sa with lock := some { cause := 1 } } }))
      (fun n => !n.pw.aborted && !(uVetoes n).isEmpty && !isLeader n)
      (fun m => m.pw.aborted && (chan m 0).control.length == 1) = true := by decide +kernel
theorem wit_RoundVotes :
    let n := (member []).node
    let a := { n with sa := {} }
    (uVetoes a == [] && mVetoes a == [] && (castVote a { op := 2, consents := 4 }).consents == 5
      && (castVote (wr { a with sa := { a.sa with lock := some { cause := 1 } } } R.PW_VETO 0xFFFFFFFF#32) { op := 2 }).ureason == 1
      && (castVote (wr a R.PW_VETO 0xFFFFFFFF#32) { op := 2 }).unode == 2
      && (castVote (wr a R.PW_VETO 0xFFFFFFFF#32) { op := 2 }).mcount == 1) = true := by decide +kernel
theorem wit_RoundReads :
    let n := (leader []).node
    ((holdRequest n { op := 1, from_ := 7, flags := 64 }).pw.held == [(7, true)]
      && gf (takePark n { op := 3, rseq := 2 }) R.PW_EVT F.PW_EVT_PARKPEND == 1
      && (takeCancel (takePark n { op := 3, rseq := 2 }) { op := 5, rseq := 2 }).pw.park.isNone
      && rd (takeGasp n (beBytes 4 9)) (R.PW_CNT 6) == 1) = true := by decide +kernel
theorem wit_RoundFrames (op : Nat) (h : op ∈ ([1, 2, 3, 4, 5] : List Nat)) :
    ∃ b, hears keyed.node 0 b = true ∧ fType b = 0x0B ∧ fTurned b = false ∧ usable heard 0 b = true ∧ singleTagOk heard 0 b = true
      ∧ noteClaimed (countCrc (quiet keyed.node) (rxPort keyed.node 0 b) b) 0 b = heard ∧ (parseRound (cut b 24 152)).op = op
      ∧ ownNumber heard ≠ 0 := by
  have e : ∀ op ∈ ([1, 2, 3, 4, 5] : List Nat), (parseRound ({ op := op } : RoundMsg).bytes).op = op := by decide +kernel
  have hb : (({ op := op } : RoundMsg).bytes).length = 152 := cut_length _ _ _
  obtain ⟨h1, h2, h3, h4, h5, h6, h7, h8, h9⟩ := keyedFrame_ok 11 (by omega) _ hb
  refine ⟨_, h1, h2, h3, by simp [usable, h4, h5], h6, by rw [h8, h9], ?_, ?_⟩
  · rw [h7]; exact e op h
  · have hg : crcClass (cycleFrame 9 3 0 0 []) = .good := crcClass_buildFrame _ _ _ _ (header_length _ _ _ _ _ _ _ _ _)
    rw [heard, countCrc, hg]; decide +kernel
theorem wit_GaspPasses :
    ∃ b, hears keyed.node 0 b = true ∧ fType b = 0x0C ∧ usable heard 0 b = true ∧ singleTagOk heard 0 b = true
      ∧ noteClaimed (countCrc (quiet keyed.node) (rxPort keyed.node 0 b) b) 0 b = heard ∧ cut b 24 152 = cut [7] 0 152 := by
  obtain ⟨h1, h2, _, h4, h5, h6, h7, h8, h9⟩ := keyedFrame_ok 12 (by omega) (cut [7] 0 152) (cut_length _ _ _)
  exact ⟨_, h1, h2, by rw [usable, h4, h5]; rfl, h6, by rw [h8, h9], h7⟩
theorem wit_LapFrames (op : Nat) (h : op ∈ ([1, 2] : List Nat)) :
    ∃ b, hears keyed.node 0 b = true ∧ fType b = 0x0C ∧ crcClass b = .good ∧ passesCn heard 0 b = true ∧ singleTagOk heard 0 b = true
      ∧ countCrc (quiet keyed.node) (rxPort keyed.node 0 b) b = heard ∧ (parseLap (cut b 24 152)).op = op := by
  obtain ⟨h1, h2, _, h4, h5, h6, h7, h8, _⟩ := keyedFrame_ok 12 (by omega) (cut (beBytes 1 op) 0 152) (cut_length _ _ _)
  have e : ∀ op ∈ ([1, 2] : List Nat), (parseLap (cut (beBytes 1 op) 0 152)).op = op := by decide +kernel
  exact ⟨_, h1, h2, h4, h5, h6, h8, by rw [h7]; exact e op h⟩

/-- `keyed` as a member of a formed pair with a role, its pair port in UP. -/
def twin (r : Nat) (l : List (Nat × BitVec 32)) : State :=
  onState keyed (fun n => { l.foldl (fun n e => wr n e.1 e.2)
      (sf (sf (sf n R.DU_PAIRSTAT F.DU_PAIRSTAT_ROLE r) R.DU_PAIRSTAT F.DU_PAIRSTAT_FORMED 1) R.DU_PPSTAT F.DU_PPSTAT_STATE 7) with
    force := [(R.DU_PAIRCFG, fset (fset 0 F.DU_PAIRCFG_EN 1) F.DU_PAIRCFG_PREF 1)] })

/-- A pair record of node 9 for cycle 5 with a good tag, and no relay record. -/
theorem goodRecord (n : Node) (hk : (keyAt n 5).isSome) (hr : rebuildCn (refCn n 0) 5 = 5) :
    ∃ b, checkPairRec n 0 (cut b 0 14) = some ⟨9, 5, 0x81, 0⟩ ∧ (cut b 14 14).all (fun x => x == 0#8) = true := by
  have hl := makeTag_length n 5 0 6 0xFF 0xFFFE 9 [0, 9, 0, 5, 0x81, 0]
  have ht := tagOk_makeTag n 5 0 6 0xFF 0xFFFE 9 [0, 9, 0, 5, 0x81, 0] hk
  generalize makeTag n 5 0 6 0xFF 0xFFFE 9 [0, 9, 0, 5, 0x81, 0] = T at hl ht
  have h14 : ([0, 9, 0, 5, 0x81, 0] ++ T).length = 14 := by simp [hl]
  refine ⟨([0, 9, 0, 5, 0x81, 0] ++ T) ++ List.replicate 14 0#8, ?_, ?_⟩
  · rw [cut_append_left _ _ _ _ (by omega), cut_self _ _ h14]
    have e (o k : Nat) (h : o + k ≤ 6) : cut ([0, 9, 0, 5, 0x81, 0] ++ T) o k = cut [0, 9, 0, 5, 0x81, 0] o k :=
      cut_append_left _ _ _ _ (by simpa using h)
    have h0 : be ([0, 9, 0, 5, 0x81, 0] ++ T) 0 2 = 9 := by rw [be, e 0 2 (by omega)]; decide
    have h2 : be ([0, 9, 0, 5, 0x81, 0] ++ T) 2 2 = 5 := by rw [be, e 2 2 (by omega)]; decide
    have h4 : be ([0, 9, 0, 5, 0x81, 0] ++ T) 4 1 = 0x81 := by rw [be, e 4 1 (by omega)]; decide
    have h5 : be ([0, 9, 0, 5, 0x81, 0] ++ T) 5 1 = 0 := by rw [be, e 5 1 (by omega)]; decide
    have h6 : cut ([0, 9, 0, 5, 0x81, 0] ++ T) 0 6 = [0, 9, 0, 5, 0x81, 0] := by rw [e 0 6 (by omega)]; decide
    have h8 : cut ([0, 9, 0, 5, 0x81, 0] ++ T) 6 8 = T := by
      rw [cut_append_right _ _ _ _ (by simp)]; exact cut_self _ _ hl
    unfold checkPairRec
    rw [h0, h2, h4, h5, h6, h8, hr]
    exact if_pos ht
  · rw [cut_append_right _ _ _ _ (by omega), h14]; decide
theorem wit_PairRecords_record :
    (∃ b, checkPairRec keyed.node 0 (cut b 0 14) = some ⟨9, 5, 0x81, 0⟩ ∧ (cut b 14 14).all (fun x => x == 0#8) = true)
      ∧ lineOn keyed.node = true ∧ portPasses keyed.node 0 = true ∧ lineDieOk keyed.node 0 = true := by
  exact ⟨goodRecord _ (by decide +kernel) (by decide +kernel), by decide +kernel, by decide +kernel, by decide +kernel⟩
theorem wit_PairRecords_send :
    shows (.neighbourSignalSend 0) (onState keyed (fun n => sf n (R.LP_PARTNERPORT 0) F.LP_PARTNERPORT_VALID 1))
      (fun n => lineOn n && portPasses n 0 && lineDieOk n 0 && facesVt8400 n 0) (fun m => m.out.length == 1) = true
    ∧ shows (.neighbourSignalSend 4) (twin 1 []) (fun n => lineOn n && pairPortState n == 7 && cxAlive n) (fun m => m.out.length == 1) = true
    ∧ shows (.pairRecordReceived []) (onState (twin 1 []) (fun n => { n with line := { n.line with key := none } }))
      (fun n => lineOn n && pairPortState n == 7 && cxAlive n && (checkPairRec n 0 (cut [] 0 14)).isNone)
      (fun m => rd m (R.DU_CNT 11) == 1) = true := by decide +kernel
theorem wit_PairTakeOver :
    shows .grantReceived (onState (twin 2 []) (fun n => withDu n (fun d => { d with grantIn := some 0 })))
      (fun n => lineOn n && cxAlive n && n.du.grantIn == some (cnNow n) && pairRole n == 2 && !unfit n
        && !heartbeat n.du.partner (cnAgo n 1) && !heartbeat n.du.partner (cnAgo n 2))
      (fun m => pairRole m == 1 && m.du.takeoverCn == some 2) = true
    ∧ shows .grantReceived (onState (twin 2 []) (fun n => withDu n (fun d => { d with
        grantIn := some 0, partner := [⟨0, 0x81⟩, ⟨2 ^ 48 - 1, 0x81⟩] })))
      (fun n => heartbeat n.du.partner (cnNow n) && flagsOf n.du.partner (cnNow n) == some 0x81 && heartbeat n.du.partner (cnAgo n 1))
      (fun m => pairRole m == 2 && gf m R.DU_EVT F.DU_EVT_CONFLICT == 1) = true
    ∧ shows .noArbiterTakeover (onState (twin 2 []) (fun n => withDu n (fun d => { d with noArb := true })))
      (fun n => pairRole n == 2 && n.du.noArb && partnerSilent n 16 && !unfit n) (fun m => pairRole m == 1) = true
    ∧ shows .pairFormTimeout (onState (twin 0 [(R.DU_PAIRSTAT, 0)]) (fun n => withDu n (fun d => { d with numberCn := some (2 ^ 48 - 16) })))
      (fun n => pairMember n && !inPair n && pairRole n == 0 && decide (16 ≤ cnDiff (cnNow n) (2 ^ 48 - 16)))
      (fun m => pairRole m == 1 && gf m R.DU_PAIRSTAT F.DU_PAIRSTAT_TOKEN == 1) = true := by decide +kernel

/-- A standby that may ask for the token. -/
def returning : State :=
  twin 2 [(R.DU_HEALTH, fset (fset 0 F.DU_HEALTH_FIT 1) F.DU_HEALTH_SYNC 1)]

/-- The node with one arbitration record of an OP and a pair waiting, with CYC 9. -/
def withArb (n : Node) (op low : Nat) : Node :=
  withDu n (fun d => { d with arbIn := [(0, beBytes 1 (128 + op) ++ beBytes 2 7 ++ beBytes 2 low ++ beBytes 3 9)] })

theorem wit_HandBack :
    shows .handbackRequest returning (fun n => mayReturn n) (fun m => m.du.request && m.du.arbOut.length == 1) = true
    ∧ shows .revdlyExpiry (onState returning (fun n => withDu n (fun d => { d with syncCn := some (2 ^ 48 - 2040000) })))
      (fun n => mayReturn n && !n.du.request && decide ((revDelay n : Int) ≤ cnDiff (cnNow n) (2 ^ 48 - 2040000))) (fun m => m.du.request) = true
    ∧ shows .handbackRequestRepeat (onState returning (fun n => withDu n (fun d => { d with request := true, requestCn := 2 ^ 48 - 64 })))
      (fun n => mayReturn n && n.du.request && decide (64 ≤ cnDiff (cnNow n) n.du.requestCn)) (fun m => m.du.requestCn == 0) = true
    ∧ shows .handoverReceived (onState returning (fun n => withDu (withArb n 2 (pairLow n)) (fun d => { d with request := true })))
      (fun n => mayReturn n && n.du.request && (popArb n 2 (pairLow n)).isSome) (fun m => m.du.shadow == some 9 && !m.du.request) = true
    ∧ shows .declineReceived (onState returning (fun n => withDu (withArb n 3 (pairLow n)) (fun d => { d with request := true, syncCn := some 7 })))
      (fun n => lineOn n && n.du.request && (popArb n 3 (pairLow n)).isSome) (fun m => m.du.syncCn == some 0 && !m.du.request) = true
    ∧ shows .arbRequestReceived (onState (member []) (fun n => withDu (withArb n 1 4) (fun d => { d with arbLow := 4 })))
      (fun n => lineOn n && cxAlive n && n.du.arbLow == 4 && !n.du.arbSub && (popArb n 1 4).isSome)
      (fun m => m.du.arbIn.isEmpty && (m.du.arbOut.map (fun x => be x.body 0 1)) == [131]) = true
    ∧ shows .handbackRequest (member []) (fun n => !mayReturn n) (fun m => !m.du.request) = true := by decide +kernel
theorem wit_CheckpointsAndTests :
    shows .checkpointSend (onState (twin 1 []) (fun n => withDu n (fun d => { d with ckOut := [1#8] })))
      (fun n => lineOn n && cxAlive n && pairPortState n == 7 && !n.du.ckOut.isEmpty) (fun m => m.out == [.pairPort [1]] && rd m (R.DU_CNT 0) == 1) = true
    ∧ shows (.checkpointReceived []) (onState (twin 2 []) (fun n => withDu n (fun d => { d with ckBad := 7 })))
      (fun n => lineOn n && cxAlive n && pairPortState n == 7 && isStandby n && !checkpointGood [])
      (fun m => gf m R.DU_HEALTH F.DU_HEALTH_CKCRCERR == 1) = true
    ∧ shows (.linePathBist 1 true) (twin 2 []) (fun n => lineOn n && cxAlive n && isStandby n && lineDieOk n 1)
      (fun m => gf m R.DU_HEALTH F.DU_HEALTH_BISTFAIL == 1 && m.du.bistBad == 2) = true
    ∧ shows (.dramScrub 3 255 true) (twin 1 [(R.AC_DIEHEALTH 5, fset 0 F.AC_DIEHEALTH_CECNT 9)]) (fun n => lineOn n && cxAlive n && pairRole n != 0)
      (fun m => gf m (R.AC_DIEHEALTH 4) F.AC_DIEHEALTH_CECNT == 3 && gf m (R.AC_DIEHEALTH 5) F.AC_DIEHEALTH_CECNT == 255
        && gf m R.DU_HEALTH F.DU_HEALTH_SCRUBERR == 1) = true
    ∧ shows .standbyMilnakSelftest (twin 2 []) (fun n => isStandby n && n.mil.selftest.isNone && engineFree n 0 && !executing (engine n 0))
      (fun _ => true) = true
    ∧ shows (.moveQuery 0xFFFFFFFF) (member []) (fun n => lineOn n) (fun m => rd m R.DU_MOVEQ == 0x0001FFF8) = true := by decide +kernel
theorem wit_CheckpointsAndTests_good :
    let b := leBytes 6 9 ++ leBytes 2 1 ++ leBytes 4 5 ++ leBytes 4 36 ++ leBytes 16 0
    checkpointGood (b ++ leBytes 4 (crc32c b).toNat) = true := by decide +kernel

/-- A node in RUN whose engine e runs program k with some g registers; the program has a kind and grants all of memory. -/
def runningEng (e : Nat) (g : List (Nat × BitVec 32)) (kind : ProgKind) : State :=
  onState (member [(R.PW_STAT, 4)]) (fun n => { n with mil := { n.mil with
    engines := [(e, { st := .running, prog := 16 * e, g := g, v := [(8, 5#32), (9, 0x80000000#32)], pc := 10, lm := 0x3F })],
    progs := [(16 * e, { enable := true, hdr := { kind := kind, bound := 100000, entry := 3, grants :=
      [{ base := 0, len := 2 ^ 32, read := true, write := true }, { queues := true, base := 0, len := 2 ^ 20, read := true, write := true }] } })],
    cxram := [(0x40, 0xFE#8)], axram := [(0x40, 0xFE#8)] } })

/-- No memory error on engine e. -/
def iss (e : Fin 32) : Issue := ⟨e, false⟩

/-- The conditions of `CanRun`. -/
def canRun (i : Issue) (cost : Nat) (n : Node) : Bool :=
  executing (engine n i.engine.val) && !i.memErr && decide ((engine n i.engine.val).clk + cost ≤ (runHdr n i.engine.val).bound)

theorem wit_MilnakScalar :
    shows (.mkAdds (iss 3) 5 6 7) (runningEng 3 [(6, 0x7FFFFFFF), (7, 2)] .cycle) (canRun (iss 3) 1)
      (fun m => gReg (engine m 3) 5 == 0x7FFFFFFF && (engine m 3).pc == 11 && (engine m 3).clk == 1) = true
    ∧ shows (.mkRemu (iss 3) 5 6 7) (runningEng 3 [(6, 9)] .cycle) (canRun (iss 3) 36)
      (fun m => gReg (engine m 3) 5 == 0 && (engine m 3).dz) = true
    ∧ shows (.mkMulh (iss 3) 5 6 7) (runningEng 3 [(6, 0xFFFFFFFE), (7, 3)] .cycle) (canRun (iss 3) 2)
      (fun m => gReg (engine m 3) 5 == 0xFFFFFFFF) = true
    ∧ shows (.mkClz (iss 3) 5 6) (runningEng 3 [(6, 0x00010000)] .cycle) (canRun (iss 3) 1)
      (fun m => gReg (engine m 3) 5 == 15) = true
    ∧ shows (.mkAddi (iss 3) 0 6 0xFFFF) (runningEng 3 [(6, 1)] .cycle) (canRun (iss 3) 1)
      (fun m => gReg (engine m 3) 0 == 0 && (engine m 3).pc == 11) = true := by decide +kernel
theorem wit_MilnakControl :
    shows (.mkBlt (iss 3) 6 7 4) (runningEng 3 [(6, 0xFFFFFFFF)] .cycle) (canRun (iss 3) 2)
      (fun m => (engine m 3).pc == 15 && (engine m 3).clk == 2) = true
    ∧ shows (.mkBltu (iss 3) 6 7 4) (runningEng 3 [(6, 0xFFFFFFFF)] .cycle) (canRun (iss 3) 1) (fun m => (engine m 3).pc == 11) = true
    ∧ shows (.mkJal (iss 3) 31 0xFFFE) (runningEng 3 [] .cycle) (canRun (iss 3) 2)
      (fun m => (engine m 3).pc == 9 && gReg (engine m 3) 31 == 44) = true
    ∧ shows (.mkLoop (iss 3) 6 3 2) (runningEng 3 [(6, 3)] .cycle) (canRun (iss 3) 2)
      (fun m => (engine m 3).loops == [⟨11, 13, 3⟩]) = true
    ∧ shows (.mkLoop (iss 3) 6 2 2) (runningEng 3 [(6, 3)] .cycle) (canRun (iss 3) 2) (fun m => rd m (R.MK_CNT 1) == 1) = true
    ∧ shows (.mkBeq (iss 3) 6 7 0x8000) (runningEng 3 [] .cycle) (fun n => executing (engine n 3)) (fun m => gf m R.MK_TRAP_INFO F.MK_TRAP_INFO_CAUSE == 1)
      = true := by decide +kernel
theorem wit_LoopRepeats :
    let x : Engine := { loops := [⟨11, 13, 3⟩, ⟨8, 20, 2⟩] }
    (Nat.repeat (fun y => goTo y 13) 2 x).loops = [⟨11, 13, 1⟩, ⟨8, 20, 2⟩] ∧ (Nat.repeat (fun y => goTo y 13) 3 x).loops = [⟨8, 20, 2⟩] := by
  decide
theorem wit_MilnakMemory :
    shows (.mkLh (iss 3) 5 6 0x40) (runningEng 3 [(6, 0x10000000)] .cycle)
      (fun n => canRun (iss 3) 2 n && (access n 3 (runHdr n 3) 0x10000040 2 2 false).toOption == some (.cx, 0x40))
      (fun m => gReg (engine m 3) 5 == 0xFE) = true
    ∧ shows (.mkSb (iss 3) 5 6 0xFFFF) (runningEng 3 [(6, 0x10000041), (5, 0x1234)] .cycle)
      (fun n => canRun (iss 3) 1 n && (access n 3 (runHdr n 3) 0x10000040 1 1 true).toOption == some (.cx, 0x40))
      (fun m => look 0#8 m.mil.cxram 0x40 == 0x34) = true
    ∧ shows (.mkSw (iss 3) 5 6 1) (runningEng 3 [(6, 0x10000001)] .cycle) (fun n => executing (engine n 3))
      (fun m => gf m R.MK_TRAP_INFO F.MK_TRAP_INFO_CAUSE == 2) = true
    ∧ shows (.mkSw (iss 3) 5 6 0) (runningEng 3 [(6, 0x30000000)] .cycle) (fun n => executing (engine n 3))
      (fun m => gf m R.MK_TRAP_INFO F.MK_TRAP_INFO_CAUSE == 3 && rd m R.MK_TRAP_ADDR == 0x30000000) = true := by decide +kernel
theorem wit_MilnakVector :
    shows (.mkVabs (iss 20) 2 1) (runningEng 20 [] .cycle) (fun n => isV 20 && canRun (iss 20) 1 n)
      (fun m => vLane (engine m 20) 2 0 == 5 && vLane (engine m 20) 2 1 == 0x7FFFFFFF) = true
    ∧ shows (.mkVmac2 (iss 20) 0 1) (runningEng 20 [] .cycle) (canRun (iss 20) 1) (fun m => accLane (engine m 20) 1 1 == 0) = true
    ∧ shows (.mkVmac (iss 20) 1 1) (runningEng 20 [] .cycle) (canRun (iss 20) 1) (fun m => accLane (engine m 20) 0 1 == 0x4000000000000000) = true
    ∧ shows (.mkVsum (iss 20) 4 1) (runningEng 20 [] .cycle) (canRun (iss 20) 3) (fun m => gReg (engine m 20) 4 == 0x80000005) = true
    ∧ shows (.mkVins (iss 20) 3 6 7) (runningEng 20 [(6, 4)] .cycle) (canRun (iss 20) 1) (fun m => vLane (engine m 20) 3 7 == 4) = true
    ∧ shows (.mkVrda (iss 20) 3 4) (runningEng 20 [] .cycle) (canRun (iss 20) 2) (fun m => vLane (engine m 20) 3 0 == 0) = true := by decide +kernel
theorem wit_MilnakLanes :
    shows (.mkVst (iss 20) 1 6 0) (runningEng 20 [(6, 0x10000040)] .cycle)
      (fun n => canRun (iss 20) 1 n && (access n 20 (runHdr n 20) 0x10000040 32 4 true).toOption == some (.ax, 0x40))
      (fun m => look 0#8 m.mil.axram 0x40 == 5 && look 0#8 m.mil.axram 0x47 == 0x80) = true
    ∧ shows (.mkVld (iss 20) 2 6 0) (runningEng 20 [(6, 0x10000040)] .cycle)
      (fun n => canRun (iss 20) 2 n && (access n 20 (runHdr n 20) 0x10000040 32 4 false).toOption == some (.ax, 0x40))
      (fun m => vLane (engine m 20) 2 0 == 0xFE) = true
    ∧ shows (.mkLrd (iss 20) 2 6) (runningEng 20 [(6, 0x0800)] .cycle)
      (fun n => canRun (iss 20) 8 n && laneInRange (lineMode n) 8 0 && !laneReceived n (laneOf n 0x0800))
      (fun m => rd m (R.AU_CNT 8) == 1 && vLane (engine m 20) 2 6 == 0) = true
    ∧ shows (.mkLrd (iss 20) 2 6) (onState (runningEng 20 [(6, 0x0800)] .cycle) (fun n => { n with au := { n.au with rx := [laneOf n 0x0800] } }))
      (fun n => canRun (iss 20) 8 n && laneInRange (lineMode n) 8 0 && laneReceived n (laneOf n 0x0800)) (fun m => (engine m 20).pc == 11) = true
    ∧ shows (.mkLrd (iss 20) 2 6) (runningEng 20 [] .cycle) (fun n => canRun (iss 20) 8 n && !laneInRange (lineMode n) 0 0)
      (fun m => gf m R.MK_TRAP_INFO F.MK_TRAP_INFO_CAUSE == 9) = true
    ∧ shows (.mkLout (iss 20) 1 6) (runningEng 20 [(6, 0x0800)] .cycle) (fun n => canRun (iss 20) 8 n && laneInRange (lineMode n) 8 0)
      (fun m => (engine m 20).louts.length == 1) = true
    ∧ shows (.mkLout (iss 20) 1 6) (runningEng 20 [(6, 0x0800)] .event) (fun n => executing (engine n 20) && decide ((runHdr n 20).kind ≠ .cycle))
      (fun m => gf m R.MK_TRAP_INFO F.MK_TRAP_INFO_CAUSE == 1) = true := by decide +kernel

/-- Engine 3 with a cell queue 300 of 4 cells from `head` to `tail`. -/
def withQueue (head tail : Nat) (g : List (Nat × BitVec 32)) : State :=
  onState (runningEng 3 g .event) (fun n =>
    setDesc (wr n R.QM_POOLCFG 0x00010201#32) 300 { kind := .cell, kindCode := 1, base := 8, size := 2, head := head, tail := tail })

theorem wit_MilnakSystem_queue :
    shows (.mkQpush (iss 3) 5 6 7) (withQueue 0 1 [(6, 300), (7, 0x10000040)])
      (fun n => canRun (iss 3) 240 n && (cellPlace n 3 (runHdr n 3) 0x10000040 false).toOption == some 0x40 && queueGranted (runHdr n 3) 300 (fun g => g.write))
      (fun m => gReg (engine m 3) 5 == 0 && (desc m 300).fill == 2) = true
    ∧ shows (.mkQpop (iss 3) 5 6 7) (withQueue 0 1 [(6, 300), (7, 0x10000040)])
      (fun n => canRun (iss 3) 240 n && (cellPlace n 3 (runHdr n 3) 0x10000040 true).toOption == some 0x40 && queueGranted (runHdr n 3) 300 (fun g => g.read))
      (fun m => gReg (engine m 3) 5 == 1 && (desc m 300).fill == 0) = true
    ∧ shows (.mkQpop (iss 3) 5 6 7) (withQueue 1 1 [(6, 300), (7, 0x10000040)]) (fun n => canRun (iss 3) 240 n && (popCell n 300).2.isNone)
      (fun m => gReg (engine m 3) 5 == 0) = true
    ∧ shows (.mkQlen (iss 3) 5 6) (withQueue 0 3 [(6, 300)]) (fun n => canRun (iss 3) 240 n && queueGranted (runHdr n 3) 300 (fun g => g.read || g.write))
      (fun m => gReg (engine m 3) 5 == 3) = true
    ∧ shows (.mkQlen (iss 3) 5 6) (onState (withQueue 0 3 [(6, 300)]) (fun n => setProg n 48 { prog n 48 with hdr := { (prog n 48).hdr with grants := [] } }))
      (fun n => executing (engine n 3) && !queueGranted (runHdr n 3) 300 (fun g => g.read || g.write))
      (fun m => gf m R.MK_TRAP_INFO F.MK_TRAP_INFO_CAUSE == 4 && rd m R.MK_TRAP_ADDR == 300) = true := by decide +kernel
theorem wit_MilnakSystem_rest :
    shows (.mkRaise (iss 3) 6 7) (withQueue 0 0 []) (canRun (iss 3) 4) (fun m => (engine m 3).pc == 11) = true
    ∧ shows (.mkLog (iss 3) 6 7) (withQueue 0 0 [(6, 0x01020304)]) (canRun (iss 3) 240)
      (fun m => m.qm.log.recent.head?.any (fun r => r.code == 0x8007 && r.data == [0, 0, 0, 0, 4, 3, 2, 1, 0, 0, 0, 0])) = true
    ∧ shows (.mkPrstat (iss 3) 5 6) (onState (withQueue 0 0 [(6, 9)]) (fun n => { n with mil := { n.mil with proposals := [(9, .rejected 2)] } }))
      (canRun (iss 3) 4) (fun m => gReg (engine m 3) 5 == 0x202) = true
    ∧ shows (.mkCsrr (iss 3) 5 2) (withQueue 0 0 []) (canRun (iss 3) 1) (fun m => gReg (engine m 3) 5 == 100000) = true
    ∧ shows (.mkCsrw (iss 3) 6 3) (withQueue 0 0 []) (canRun (iss 3) 1) (fun m => gf m R.MK_TRAP_INFO F.MK_TRAP_INFO_CAUSE == 1) = true
    ∧ shows (.mkFence (iss 20)) (runningEng 20 [] .event) (canRun (iss 20) 400) (fun m => (engine m 20).clk == 400) = true
    ∧ shows (.mkPropose (iss 3) 5 6) (onState (withQueue 0 0 [(6, 0x10000080)]) (fun n => { n with mil := { n.mil with cxram := [(0x81, 1#8)] } }))
      (fun n => canRun (iss 3) 40 n && (access n 3 (runHdr n 3) 0x10000080 40 4 false).toOption == some (.cx, 0x80) && mayPropose n)
      (fun m => gReg (engine m 3) 5 == 0x80000001 && m.inn.pseq == 1) = true
    ∧ shows (.mkPropose (iss 3) 5 6) (onState (withQueue 0 0 [(6, 0x10000080)]) (fun n => sf n R.IN_STAT F.IN_STAT_JOINING 1))
      (fun n => canRun (iss 3) 40 n && !mayPropose n) (fun m => gReg (engine m 3) 5 == 1) = true := by decide +kernel
theorem wit_MilnakRunEnds :
    shows (.mkWaitc (iss 3)) (runningEng 3 [(6, 9)] .cycle) (fun n => canRun (iss 3) 16 n && decide ((runHdr n 3).kind = .cycle))
      (fun m => (engine m 3).st == .idle && (prog m 48).hasContext && le (readBytes m.mil.cxram (contextBase 3 0) 140) 128 4 == 11
        && gf m (R.MK_ENGHWM 3) F.MK_ENGHWM_BUSY == 16) = true
    ∧ shows (.mkWaitc (iss 3)) (runningEng 3 [] .event) (fun n => canRun (iss 3) 16 n && decide ((runHdr n 3).kind ≠ .cycle))
      (fun m => gf m R.MK_TRAP_INFO F.MK_TRAP_INFO_CAUSE == 1) = true := by decide +kernel
theorem wit_MilnakTraps :
    let n := (runningEng 3 [] .cycle).node
    ((engine n 3).st != .selftest && gf n R.MK_TRAP_INFO F.MK_TRAP_INFO_VALID == 0
      && (prog (trap (setProg n 48 { prog n 48 with traps := 7 }) 3 8 0) 48).fault && !(prog (trap n 3 8 0) 48).fault) = true := by decide +kernel
theorem wit_MilnakRuns :
    shows (.cycleProgramStart 48) (onState (runningEng 3 [] .cycle) (fun n => setEngine n 3 {st := .idle}))
      (fun n => decide ((prog n 48).hdr.kind = .cycle) && (prog n 48).enable && !(prog n 48).fault && !(prog n 48).ranThisCycle && firstOfPhase n 48 && !pausedNow n)
      (fun m => (engine m 3).st == .running && (engine m 3).pc == 3 && (engine m 3).lm == 0x3F && (prog m 48).ranThisCycle) = true
    ∧ shows (.eventProgramStart 3) (onState (runningEng 3 [] .event) (fun n => setProg (setEngine n 3 {st := .idle}) 48 { prog n 48 with pendCount := 2, firstData := 7 }))
      (fun n => !pausedNow n && (pendingEvents n 3).find? (fitsGap n 3) == some 48)
      (fun m => (engine m 3).evCount == 2 && (engine m 3).evData == 7 && (prog m 48).pendCount == 0) = true
    ∧ shows (.mkOverrun 3) (runningEng 3 [] .cycle) (fun n => executing (engine n 3)) (fun m => rd m (R.MK_CNT 2) == 1) = true
    ∧ shows (.mkIllegal (iss 3) 0xFFFFFFFF) (runningEng 3 [] .cycle) (fun n => executing (engine n 3) && !mkDefined (isV 3) 0xFFFFFFFF)
      (fun m => gf m R.MK_TRAP_INFO F.MK_TRAP_INFO_CAUSE == 1) = true
    ∧ shows (.eventPost 0) (onState (runningEng 3 [] .event) (fun n => wr n R.MK_EVTDATA 9#32))
      (fun n => firedBy n 0 0 == [48] && (prog n 48).enable && !(prog n 48).fault) (fun m => (prog m 48).pendCount == 1 && (prog m 48).firstData == 9) = true
    ∧ shows (.selftestRequest 3) (runningEng 3 [] .event) (fun n => decide ((engine n 3).st ≠ .idle)) (fun m => gf m R.MK_STSTAT F.MK_STSTAT_RESULT == 3) = true
    ∧ shows (.selftestRequest 3) (onState (runningEng 3 [] .selftest) (fun n => setEngine n 3 {st := .idle}))
      (fun n => engineFree n 3 && selftestProg n 3 == some 48) (fun m => (engine m 3).st == .selftest) = true := by decide +kernel
theorem wit_VectorNeedsVEngine :
    shows (.mkVadd (iss 3) 1 2 3) (runningEng 3 [] .cycle) (fun n => executing (engine n 3) && !isV 3)
      (fun m => gf m R.MK_TRAP_INFO F.MK_TRAP_INFO_CAUSE == 1) = true := by decide +kernel

/-- A node in RUN with some registers set. -/
def onAir (l : List (Nat × BitVec 32)) : State := booted ((R.PW_STAT, 4) :: l)

theorem wit_AudioCommands :
    shows .mixerPass (onState (onAir []) (fun n => { n with au := { n.au with passDone := true } })) (fun n => audioOn n && n.au.passDone) (fun m => m.out == []) = true
    ∧ shows .mixerPass (onAir []) (fun n => audioOn n && !n.au.passDone && ff n (R.AU_ZONECFG 3) F.AU_ZONECFG_EN == 0) (fun _ => true) = true
    ∧ shows (.tdmFrameStart 2 0 [0x00800000]) (onState (onAir []) (fun n => { n with force := [(R.AU_TDMCFG 2, fset (fset 0 F.AU_TDMCFG_EN 1) F.AU_TDMCFG_SLOTW 1)] }))
      (fun n => audioOn n && fget (inForce n (R.AU_TDMCFG 2)) F.AU_TDMCFG_EN == 1)
      (fun m => m.out == [.tdm 2 [0]] && look [] m.au.capture 32 == [0xFF800000]) = true
    ∧ shows (.converterFrameStart false 0 [5]) (onState (onAir []) (fun n => { n with force := [(R.AU_ANACFG 0, fset 0 F.AU_ANACFG_EN 1)] }))
      (fun n => isRun n && !dieFailed n 7 && audioOn n) (fun m => look [] m.au.capture 128 == [5]) = true
    ∧ shows (.converterFrameStart true 0 []) (onAir []) (fun n => isRun n && !dieFailed n 7 && audioOn n) (fun m => m.out.length == 8) = true
    ∧ shows (.converterFrameStart true 0 []) (onAir [(R.AC_DIEHEALTH 3, 4)]) (fun n => isRun n && !dieFailed n 7 && !audioOn n) (fun m => m.out.length == 8) = true
    ∧ shows .libraryScan (onAir [(R.AU_LIBBASE, 2), (R.AU_LIBSIZE, 1)]) (fun n => audioOn n && gf n R.AU_LIBSTAT F.AU_LIBSTAT_BUSY == 0)
      (fun m => m.au.scan == some (131072, 65536) && gf m R.AU_LIBSTAT F.AU_LIBSTAT_BUSY == 1) = true
    ∧ shows .libraryScan (onAir [(R.AU_LIBSTAT, fset 0 F.AU_LIBSTAT_BUSY 1)]) (fun n => audioOn n && gf n R.AU_LIBSTAT F.AU_LIBSTAT_BUSY == 1)
      (fun m => m.au.scan == none) = true
    ∧ shows (.playerGo 3) (onAir []) (fun n => audioOn n) (fun m => (player m 3).go) = true
    ∧ shows (.playerStop 3) (onState (onAir []) (fun n => setPlayer n 3 { st := .playing })) (fun n => audioOn n && (player n 3).st == .playing)
      (fun m => (player m 3).stopping) = true := by decide +kernel
theorem wit_AudioCommands_late :
    shows (.tdmFrameStart 2 5 [0x00800000]) (onState (onAir []) (fun n => { n with
        force := [(R.TB_TRIGPH 2, 30000), (R.AU_TDMCFG 2, fset (fset 0 F.AU_TDMCFG_EN 1) F.AU_TDMCFG_SLOTW 1)]
        au := { n.au with captureLast := [(32, [1, 2, 3, 4, 5])] } }))
      (fun n => audioOn n && fget (inForce n (R.AU_TDMCFG 2)) F.AU_TDMCFG_EN == 1 && frameLate n 2 5 && !frameLate n 2 4)
      (fun m => m.au.capture == [] && look [] m.au.captureLast 32 == [1, 2, 3, 4, 5, 0xFF800000]
        && (look {} m.au.inNow 32).st == .valid) = true
    ∧ shows (.converterFrameStart false 5 [5]) (onState (onAir []) (fun n => { n with
        force := [(R.TB_TRIGPH 8, 20834), (R.AU_ANACFG 0, fset 0 F.AU_ANACFG_EN 1)] }))
      (fun n => audioOn n && frameLate n 8 5) (fun m => look [] m.au.captureLast 128 == [5]) = true := by decide +kernel

theorem wit_AudioCommands_scan :
    shows .libraryScanComplete (onState (onAir []) (fun n => { n with
        dram := [(0x2000000, 1#8), (0x2000020, 7#8), (0x2000024, 64#8), (0x2000028, 1#8)] ++ (leBytes 4 (crc32c [0, 0]).toNat).zipIdx.map (fun (b, i) => (0x2000030 + i, b))
        au := { n.au with scan := some (0x2000000, 65536) } }))
      (fun n => audioOn n && n.au.scan == some (0x2000000, 65536)) (fun m => m.au.scanned.any (fun x => x.1.length == 1 && x.2 == 0)) = true := by decide +kernel

/-- A powered node whose caddy holds a valid blend in slot 0 and slot 1 in a state. -/
def caddied (st1 : SlotState) : State :=
  onState (booted []) (fun n => { n with cf := { n.cf with j0 := some { jseq := 3, st0 := .valid, st1 := st1, ver0 := 7, ver1 := 8 }, slot0 := [1#8], slot1 := [2#8] } })

/-- The conditions of BlendCommands. -/
def caddyOn (n : Node) : Bool := lineOn n && n.pw.failing.isNone

theorem wit_JournalKeepsOld :
    let n := (caddied .staged).node
    ((journal (writeJournal n { journal n with cur := 1 } false).1).jseq == 4 && n.cf.j0.isSome) = true := by decide +kernel
theorem wit_BlendCommands :
    shows (.blendStage 2 false) (onState (caddied .empty) (fun n => { n with cf := { n.cf with ka := some { keys := [(8, { key := [1#8] })] } } }))
      (fun n => caddyOn n && !nvFailed n && !cfBusy n && !cfPending n && (keyOf n 8).isSome)
      (fun m => cfBusy m && (journal m).st1 == .staging && rd m (R.CF_CNT 0) == 1) = true
    ∧ shows (.blendStage 3 true) (caddied .empty) (fun n => caddyOn n && !nvFailed n && !cfBusy n && !cfPending n && (keyOf n 8).isNone)
      (fun m => gf m R.CF_CMD F.CF_CMD_RESULT == 4) = true
    ∧ shows (.blendCommit 2 true false) (caddied .staged) (fun n => caddyOn n && !nvFailed n && !cfBusy n && !cfPending n && (journal n).st1 == .staged)
      (fun m => (journal m).cur == 1 && (journal m).st1 == .valid && gf m R.CF_CMD F.CF_CMD_RESULT == 0) = true
    ∧ shows (.blendRollback 2 false false) (onState (caddied .valid) (fun n => { n with cf := { n.cf with actAt := some 99 } }))
      (fun n => caddyOn n && !nvFailed n && !cfBusy n && cfPending n && (journal n).st1 == .valid)
      (fun m => (journal m).cur == 1 && !cfPending m) = true
    ∧ shows (.blendAbort 2 false) (caddied .staged) (fun n => caddyOn n && !nvFailed n && !cfBusy n && !cfPending n && (journal n).st1 == .staged)
      (fun m => (journal m).st1 == .empty) = true
    ∧ shows (.blendAbort 2 false) (caddied .empty) (fun n => caddyOn n && !nvFailed n && !cfBusy n && !cfPending n && (journal n).st1 != .staged)
      (fun m => gf m R.CF_CMD F.CF_CMD_RESULT == 4) = true
    ∧ shows (.blendVerify 2) (onState (caddied .empty) (fun n => { n with cf := { n.cf with j0 := none } })) (fun n => caddyOn n && !nvFailed n && !cfBusy n)
      (fun m => gf m R.CF_CMD F.CF_CMD_RESULT == 0) = true
    ∧ shows (.cfReservedOp 2 7) (caddied .empty) (fun n => caddyOn n && !nvFailed n && !cfBusy n) (fun m => gf m R.CF_CMD F.CF_CMD_RESULT == 4) = true
    ∧ shows (.stageComplete false false) (onState (caddied .staging) (fun n => { n with cf := { n.cf with staging := some 1 } }))
      (fun n => caddyOn n && n.cf.staging == some 1) (fun m => (journal m).st1 == .invalid && gf m R.CF_CMD F.CF_CMD_RESULT == 3) = true
    ∧ shows (.blendCommit 4 true false) (caddied .staged) (fun n => caddyOn n) (fun m => gf m R.CF_CMD F.CF_CMD_RESULT == 2) = true
    ∧ shows (.blendCommit 0 true false) (caddied .staged) (fun n => caddyOn n) (fun m => rd m (R.HB_CNT 12) == 1) = true := by decide +kernel
theorem wit_SafetyBlocks :
    shows (.safetyBlockSetpend 4) (booted [(R.CF_SPDATA 3, 9)]) (fun n => caddyOn n)
      (fun m => m.cf.sp.any (fun x => x.left == 600) && gf m R.CF_SPSTAT F.CF_SPSTAT_STATE == 1) = true
    ∧ shows .safetyBlockExpiry (onState (booted []) (fun n => { n with cf := { n.cf with sp := some ⟨[], 5#32, 0, 1⟩ } }))
      (fun n => caddyOn n && n.cf.sp.any (fun x => x.left == 0)) (fun m => m.cf.sp.isNone && rd m (R.CF_CNT 7) == 1) = true
    ∧ shows (.safetyBlockSetpend 2) (booted []) (fun n => caddyOn n) (fun m => m.cf.sp.isNone) = true := by decide +kernel

/-- A node in RUN whose branch 3 is as given. -/
def starry (x : Branch) (l : List (Nat × BitVec 32)) (f : List (Nat × BitVec 32)) : State :=
  onState (onAir l) (fun n => setBranch { n with force := f } 3 x)

/-- A star frame as an endpoint sends it. -/
def endpointFrame (body : List Byte) : List Byte := [0, 0, 0, 0] ++ body ++ beBytes 4 (crc32 body).toNat

/-- A STATUS of endpoint 0x22 for cycle 0. -/
def aStatus : List Byte := endpointFrame ([2, 0] ++ beBytes 8 0x22 ++ [7, 0] ++ [0, 0] ++ [0, 0, 0, 0, 0, 0])

theorem wit_StarBranches :
    shows (.branchLinkTrained 3) (starry { st := .train } [] []) (fun n => starPowered n && (branch n 3).st == .train) (fun m => (branch m 3).st == .sync) = true
    ∧ shows (.branchLinkLoss 3) (starry { st := .held } [] []) (fun n => starPowered n && (branch n 3).st == .held)
      (fun m => (branch m 3).st == .train && gf m R.ST_EVT F.ST_EVT_DOWN == 1) = true
    ∧ shows (.statusLost 3) (starry { st := .active, miss := 9 } [] []) (fun n => starOn n && (branch n 3).st == .active && decide (lostN n ≤ (branch n 3).miss))
      (fun m => (branch m 3).st == .sync) = true
    ∧ shows (.disconnectExpiry 3) (starry { st := .disc } [] []) (fun n => starPowered n && (branch n 3).st == .disc) (fun m => (branch m 3).st == .train) = true
    ∧ shows (.branchReconnect 3) (starry { st := .disc } [] []) (fun n => starPowered n && (branch n 3).st == .disc) (fun m => (branch m 3).st == .train) = true
    ∧ shows (.branchAdmit 3) (starry { st := .held } [] []) (fun n => starPowered n && (branch n 3).st == .held) (fun m => (branch m 3).st == .active) = true
    ∧ shows (.branchAdmit 3) (starry { st := .sync } [] []) (fun n => starPowered n && (branch n 3).st == .sync) (fun m => (branch m 3).st == .sync) = true
    ∧ shows (.starViolation 3) (starry { st := .held, viols := [5] } [] []) (fun n => starOn n && checked (branch n 3))
      (fun m => (branch m 3).viols == [0, 5] && rd m (R.ST_BRCNT 3 2) == 1) = true := by decide +kernel
theorem wit_StarBranches_third :
    let n := (starry { st := .held, viols := [0, 5, 9] } [] [(R.ST_BRCFG 3, fset 0 F.ST_BRCFG_EN 1)]).node
    (starPowered n && ff n (R.ST_BRCFG 3) F.ST_BRCFG_EN == 1 && (branch (branchBoundary n 3) 3).st == .disc) = true := by decide +kernel

/-- The conditions of StarSlots for a STATUS at branch 3. -/
def statusDue (f : List Byte) (st : BranchState) (n : Node) : Bool :=
  starOn n && (branch n 3).st == st && (branch n 3).egress == some 100 && statusInWindow n (branch n 3) ((2600#32 - 100#32).toInt - 2000) && be f 4 1 == 2

theorem wit_StarSlots_sync :
    shows (.syncSend 3 100) (starry { st := .held } [] []) (fun n => starOn n && (branch n 3).st == .held) (fun m => m.out.length == 1 && (branch m 3).egress == some 100) = true
    ∧ (starCrcOk aStatus && be aStatus 16 2 == 0) = true
    ∧ shows (.statusReceived 3 (aStatus.dropLast ++ [0#8]) 2600) (starry { st := .sync, egress := some 100 } [] [])
      (fun n => statusDue (aStatus.dropLast ++ [0#8]) .sync n && !starCrcOk (aStatus.dropLast ++ [0#8])) (fun m => rd m (R.ST_BRCNT 3 1) == 1) = true
    ∧ shows (.statusReceived 3 aStatus 2600) (starry { st := .active, egress := some 100 } [] [])
      (statusDue aStatus .active) (fun m => (branch m 3).statusOk && rd m (R.ST_BREUID_LO 3) == 0x22) = true
    ∧ shows (.statusReceived 3 aStatus 2600) (starry { st := .sync, egress := some 100 } [] [(R.ST_BRID_LO 3, 0x22)])
      (statusDue aStatus .sync) (fun m => (branch m 3).st == .active) = true
    ∧ shows (.statusReceived 3 aStatus 2600) (starry { st := .sync, egress := some 100 } [] [(R.ST_BRID_LO 3, 0x23)])
      (statusDue aStatus .sync) (fun m => (branch m 3).st == .held && gf m R.ST_EVT F.ST_EVT_MISMATCH == 1) = true
    ∧ shows (.statusReceived 3 aStatus 2600) (starry { st := .sync, egress := some 100 } [] [(R.ST_BRCFG 3, fset 0 F.ST_BRCFG_AUTO 1)])
      (statusDue aStatus .sync) (fun m => (branch m 3).st == .active) = true
    ∧ shows (.statusReceived 3 aStatus 2600) (starry { st := .sync, egress := some 100 } [] [(R.ST_BRCFG 3, 0)])
      (fun n => statusDue aStatus .sync n && ff n (R.ST_BRCFG 3) F.ST_BRCFG_AUTO != 1) (fun m => (branch m 3).st == .held && gf m R.ST_EVT F.ST_EVT_NEWEP == 1) = true
    ∧ shows (.statusReceived 3 aStatus 2600) (starry { st := .sync, egress := some 100, seen := true, lostAt := some 4, trainedAt := 9 } [(R.ST_BREUID_LO 3, 0x22)] [])
      (statusDue aStatus .sync) (fun m => (branch m 3).st == .active && gf m R.ST_EVT F.ST_EVT_REJOIN == 1) = true := by decide +kernel

/-- Slot 1 of branch 3 is of a kind, and position 0 of it names a lane whose mode is exclusive. -/
def slotted (k : Nat) (x : Branch) : State :=
  starry x [] [(R.LC_LANEMODE 0 8 0, 1), (R.ST_SLOTCFG 3, fset (fset 0 F.ST_SLOTCFG_ULKINDS (4 * k)) F.ST_SLOTCFG_DLKINDS (4 * k)),
    (R.ST_AUMAP 3 1 1 0, fset (fset 0 F.ST_AUMAP_EN 1) F.ST_AUMAP_LANE (256 * 8))]
/-- An uplink audio frame of slot 1 with block 0 for cycle c; the rest of its payload is left off, to keep the CRC short. -/
def anAudio (c : Nat) : List Byte := endpointFrame ([3, 1] ++ beBytes 2 c ++ [0, 0, 0, 1] ++ List.replicate 24 5#8)
/-- An uplink message frame of slot 1 with flags, its padding left off likewise. -/
def aMessage (fl : Byte) : List Byte := endpointFrame [4, 1, 0, 0, 0, 3, fl, 0, 1, 2, 3]

theorem wit_StarSlots_slots :
    shows (.downlinkSlotSend 3 1) (slotted 1 { st := .active }) (fun n => starOn n && (branch n 3).st == .active && dlKind n 3 1 == 1)
      (fun m => m.out.length == 1) = true
    ∧ shows (.downlinkSlotSend 3 1) (slotted 2 { st := .active }) (fun n => starOn n && (branch n 3).st == .active && dlKind n 3 1 == 2) (fun m => m.out.length == 1) = true
    ∧ shows (.downlinkSlotSend 3 1) (slotted 2 { st := .active, down := some (List.replicate 200 1#8, 0) })
      (fun n => starOn n && (branch n 3).st == .active && dlKind n 3 1 == 2 && holdsToken n) (fun m => (branch m 3).down.any (fun x => x.2 == 160)) = true
    ∧ shows (.uplinkAudioReceived 3 (anAudio 0)) (slotted 2 { st := .active }) (fun n => starOn n && checked (branch n 3) && ulKind n 3 1 != 1 && be (anAudio 0) 5 1 == 1)
      (fun m => (branch m 3).viols == [0]) = true
    ∧ shows (.uplinkMessageReceived 3 (aMessage 0x80) 7) (slotted 1 { st := .active }) (fun n => starOn n && checked (branch n 3) && ulKind n 3 1 != 2 && be (aMessage 0x80) 5 1 == 1)
      (fun m => (branch m 3).viols == [0]) = true
    ∧ shows (.uplinkAudioReceived 3 (anAudio 9)) (slotted 1 { st := .active })
      (fun n => starOn n && (branch n 3).st == .active && ulKind n 3 1 == 1 && be (anAudio 9) 4 1 == 3 && starCrcOk (anAudio 9) && be (anAudio 9) 6 2 != 0)
      (fun m => rd m (R.ST_BRCNT 3 4) == 1) = true
    ∧ shows (.uplinkAudioReceived 3 (anAudio 0)) (slotted 1 { st := .active, statusOk := true })
      (fun n => starOn n && (branch n 3).st == .active && ulKind n 3 1 == 1 && be (anAudio 0) 4 1 == 3 && starCrcOk (anAudio 0) && be (anAudio 0) 6 2 == 0
        && holdsToken n && gf n R.AU_STAT F.AU_STAT_PMUTE % 4 == 0 && auMap n 3 1 1 0 == some (false, 2048) && laneMode n.force 0 8 0 != 0)
      (fun m => m.mil.ownBlocks.any (fun e => e.1 == 2048 && e.2 == List.replicate 6 0x05050505#32)) = true
    ∧ shows (.uplinkMessageReceived 3 (aMessage 0x80) 7) (slotted 2 { st := .active })
      (fun n => starOn n && (branch n 3).st == .active && ulKind n 3 1 == 2 && be (aMessage 0x80) 4 1 == 4 && starCrcOk (aMessage 0x80) && holdsToken n
        && be (aMessage 0x80) 8 2 == 3 && bitOf (be (aMessage 0x80) 10 1) 7)
      (fun m => (branch m 3).up.any (fun u => u.payload == [1, 2, 3])) = true
    ∧ shows (.uplinkMessageReceived 3 (aMessage 0xC0) 7) (slotted 2 { st := .active })
      (fun n => starOn n && (branch n 3).st == .active && ulKind n 3 1 == 2 && starCrcOk (aMessage 0xC0) && holdsToken n && ff n (R.ST_ULQ 3) F.ST_ULQ_QUEUE < 256)
      (fun m => (branch m 3).up.isNone && rd m (R.ST_BRCNT 3 0) == 1) = true := by decide +kernel
theorem wit_StarFrame :
    (match exec (.branchAdmit 3) (starry { st := .held } [] []) with | .next t => t.pending == [] | _ => false) = true := by decide +kernel

/-- A node in RUN with MAC 1 enabled, its link up, receive queue 300 and transmit queue 301 of 4 cells each, and some
registers and values in force. -/
def linked (l f : List (Nat × BitVec 32)) : State :=
  onState (onAir ([(R.QM_POOLCFG, 0x00010201), (R.EM_MACSTAT 1, fset 0 F.EM_MACSTAT_LINK 1)] ++ l)) (fun n =>
    setDesc (setDesc { n with force := f ++ [(R.EM_MACCFG 1, fset (fset 0 F.EM_MACCFG_EN 1) F.EM_MACCFG_PROMISC 1), (R.EM_TXQ 1 0, 301), (R.EM_RXQ 1 0, 300)] }
      300 { kind := .frame, kindCode := 2, base := 8, size := 2 })
      301 { kind := .frame, kindCode := 2, base := 16, size := 2 })

/-- A frame of 60 bytes and its FCS. -/
def etherFrame (type : List Byte) : List Byte :=
  let b := List.replicate 12 2#8 ++ type ++ List.replicate 46 0#8
  b ++ etherFcs b

/-- The CRC-32 of the frame, evaluated once. -/
theorem etherFrame_ok : (etherFcsOk (etherFrame [8, 0]) && (etherBody (etherFrame [8, 0])).length == 60) = true := by decide +kernel

/-- A one-cell frame of 60 bytes stands at the head of transmit queue 301; its FFLAGS are given. -/
def sending (fl : Byte) (l f : List (Nat × BitVec 32)) : State :=
  onState (linked l f) (fun n =>
    let n := setDesc n 301 { desc n 301 with tail := 1 }
    { n with dram := writeBytes n.dram (cellAddr n (desc n 301) 0) [60, 0, 0, fl, 1, 0, 0, 0, 0, 0, 0, 0, 9, 0, 0, 0] })

theorem wit_EthernetReceive :
    (let n := (linked [] []).node;
      macOn n 1 && macLink n 1 && goodEther n 1 (etherFrame [8, 0]) && etherType (etherBody (etherFrame [8, 0])) != 0x8808
        && accepts n 1 (etherBody (etherFrame [8, 0])) && rxChoice n 1 (etherFrame [8, 0]) == 0 && (pushFrame n 300 { len := 60 } []).2) = true
    ∧ (let n := setDesc (linked [] []).node 300 {};
      macOn n 1 && goodEther n 1 (etherFrame [8, 0]) && !(pushFrame n 300 { len := 60 } []).2) = true
    ∧ (let n := { (linked [] []).node with force := [(R.EM_MACCFG 1, fset 0 F.EM_MACCFG_EN 1)] };
      macOn n 1 && goodEther n 1 (etherFrame [8, 0]) && !accepts n 1 (etherBody (etherFrame [8, 0]))) = true
    ∧ shows (.emFrameReceived 1 (List.replicate 20 1#8) false false false 0) (linked [] [])
      (fun n => macOn n 1 && macLink n 1 && !etherFcsOk (List.replicate 20 1#8) && ff n (R.EM_MACCFG 1) F.EM_MACCFG_KEEPBAD == 0)
      (fun m => rd m (R.EM_CNT 1 2) == 1 && rd m (R.EM_CNT 1 0) == 0) = true
    ∧ shows (.pauseReceived 1 5) (linked [] [(R.EM_MACCFG 1, fset (fset 0 F.EM_MACCFG_EN 1) F.EM_MACCFG_RXPAUSE 1)])
      (fun n => macOn n 1 && macLink n 1 && ff n (R.EM_MACCFG 1) F.EM_MACCFG_RXPAUSE == 1) (fun m => gf m (R.EM_MACSTAT 1) F.EM_MACSTAT_PAUSED == 1) = true
    ∧ shows (.pauseReceived 1 5) (linked [] []) (fun n => macOn n 1 && macLink n 1 && ff n (R.EM_MACCFG 1) F.EM_MACCFG_RXPAUSE == 0)
      (fun m => rd m (R.EM_CNT 1 8) == 1 && gf m (R.EM_MACSTAT 1) F.EM_MACSTAT_PAUSED == 0) = true
    ∧ shows (.pauseExpiry 1) (linked [(R.EM_MACSTAT 1, fset (fset 0 F.EM_MACSTAT_LINK 1) F.EM_MACSTAT_PAUSED 1)] []) (fun n => macOn n 1 && macLink n 1)
      (fun m => gf m (R.EM_MACSTAT 1) F.EM_MACSTAT_PAUSED == 0) = true
    ∧ shows (.controlFrameReceived 1) (linked [] []) (fun n => macOn n 1 && macLink n 1) (fun m => rd m (R.EM_CNT 1 8) == 1) = true := by decide +kernel
theorem wit_EthernetTransmit :
    shows (.emFrameTransmit 1 5000 1) (sending 3 [] [(R.EM_TXCQ 1, 400)])
      (fun n => macOn n 1 && nextTx n 1 == some (0, 301) && (popFrame n 301).2.isSome && macLink n 1) (fun m => m.out.length == 1 && (mac m 1).done.length == 1) = true
    ∧ shows (.emFrameTransmit 1 5000 1) (sending 0 [] [(R.EM_MACCFG 1, fset (fset 0 F.EM_MACCFG_EN 1) F.EM_MACCFG_MAXLEN 60), (R.EM_TXCQ 1, 400)])
      (fun n => macOn n 1 && nextTx n 1 == some (0, 301) && macLink n 1) (fun m => (desc m 301).fill == 0) = true
    ∧ shows (.emFrameTransmit 1 5000 1) (sending 0 [(R.EM_MACSTAT 1, 0)] [(R.EM_TXCQ 1, 400)])
      (fun n => macOn n 1 && nextTx n 1 == some (0, 301) && !macLink n 1)
      (fun m => m.out == [] && rd m (R.EM_CNT 1 14) == 1 && (mac m 1).done == [emRecord 9 0 0 1 2 0]) = true
    ∧ shows (.emFrameTransmit 1 5000 1) (sending 0 [(R.EM_MACSTAT 1, fset (fset 0 F.EM_MACSTAT_LINK 1) F.EM_MACSTAT_PAUSED 1)] [])
      (fun n => macOn n 1 && nextTx n 1 == some (0, 301) && macLink n 1 && gf n (R.EM_MACSTAT 1) F.EM_MACSTAT_PAUSED == 1) (fun m => m.out == []) = true := by decide +kernel
theorem wit_EthernetTransmit_long :
    let s := onState (sending 0 [] []) (fun n => { n with dram := writeBytes n.dram (cellAddr n (desc n 301) 0) [100] })
    shows (.emFrameTransmit 1 5000 1) (onState s (fun n => { n with force := (R.EM_MACCFG 1, fset (fset 0 F.EM_MACCFG_EN 1) F.EM_MACCFG_MAXLEN 64) :: n.force }))
      (fun n => macOn n 1 && nextTx n 1 == some (0, 301) && (popFrame n 301).2.any (fun x => decide (maxlen n 1 < x.1.len)))
      (fun m => m.out == [] && rd m (R.EM_CNT 1 13) == 1) = true := by decide +kernel
theorem wit_Doorbells :
    shows (.emTxDoorbell 1 0 1) (linked [] []) (fun n => isRun n && cxAlive n && !txStopped n 1 0 && (tailDoorbell n 301 1).isSome) (fun m => (desc m 301).tail == 1) = true
    ∧ shows (.emTxDoorbell 1 0 5) (linked [] []) (fun n => isRun n && cxAlive n && !txStopped n 1 0 && (tailDoorbell n 301 5).isNone) (fun m => txStopped m 1 0) = true
    ∧ shows (.emRxDoorbell 1 0 1) (onState (linked [] []) (fun n => setDesc n 300 { desc n 300 with tail := 2 }))
      (fun n => isRun n && cxAlive n && (headDoorbell n 300 1).isSome) (fun m => (desc m 300).head == 1) = true
    ∧ shows (.emRxDoorbell 1 0 1) (linked [] []) (fun n => isRun n && cxAlive n && (headDoorbell n 300 1).isNone) (fun m => (desc m 300).head == 0) = true
    ∧ shows (.emQueueFlush 1 5) (sending 0 [(R.EM_MACSTAT 1, fset 0 ⟨18, 1⟩ 1)] []) (fun n => isRun n && cxAlive n && txStopped n 1 0)
      (fun m => !txStopped m 1 0 && (desc m 301).fill == 0) = true
    ∧ shows (.canTxDoorbell 2 0 1) (linked [] [(R.CB_TXQ0 2, 301)]) (fun n => isRun n && cxAlive n && (tailDoorbell n 301 1).isSome) (fun m => (desc m 301).tail == 1) = true
    ∧ shows (.canTxDoorbell 2 0 9) (linked [] [(R.CB_TXQ0 2, 301)]) (fun n => isRun n && cxAlive n && (tailDoorbell n 301 9).isNone) (fun m => (desc m 301).tail == 0) = true
    ∧ shows (.canRxDoorbell 2 1) (onState (linked [] [(R.CB_RXQ 2, 300)]) (fun n => setDesc n 300 { desc n 300 with tail := 2 }))
      (fun n => isRun n && cxAlive n && (headDoorbell n 300 1).isSome) (fun m => (desc m 300).head == 1) = true
    ∧ shows (.canRxDoorbell 2 1) (linked [] [(R.CB_RXQ 2, 300)]) (fun n => isRun n && cxAlive n && (headDoorbell n 300 1).isNone) (fun m => (desc m 300).head == 0) = true := by
  decide +kernel
theorem wit_EthernetLink :
    shows (.emLinkUp 1 2) (linked [(R.EM_MACSTAT 1, 0)] [(R.EM_PREEMPT 1, fset 0 F.EM_PREEMPT_EN 1)])
      (fun n => macOn n 1 && !macLink n 1 && speedOk 1 (macIf n 1) 2) (fun m => macLink m 1 && gf m (R.EM_MACSTAT 1) F.EM_MACSTAT_VERIFY == 2) = true
    ∧ shows (.emLinkUp 1 5) (linked [(R.EM_MACSTAT 1, 0)] []) (fun n => macOn n 1 && !macLink n 1 && !speedOk 1 (macIf n 1) 5) (fun m => !macLink m 1) = true
    ∧ shows (.emLinkDown 1) (linked [] []) (fun n => macOn n 1 && macLink n 1) (fun m => !macLink m 1) = true
    ∧ shows (.verifyFrameReceived 1) (linked [] [(R.EM_PREEMPT 1, fset 0 F.EM_PREEMPT_EN 1)]) (fun n => macOn n 1 && macLink n 1) (fun m => m.out == [.verify 1 true]) = true
    ∧ shows (.verifyFrameSend 1) (linked [(R.EM_MACSTAT 1, fset 0 F.EM_MACSTAT_VERIFY 2)] []) (fun n => verifying n 1) (fun m => (mac m 1).verifySent == 1) = true
    ∧ shows (.verifyResponseReceived 1) (linked [(R.EM_MACSTAT 1, fset 0 F.EM_MACSTAT_VERIFY 2)] []) (fun n => verifying n 1) (fun m => preempting m 1) = true
    ∧ shows (.verifyFail 1) (onState (linked [(R.EM_MACSTAT 1, fset 0 F.EM_MACSTAT_VERIFY 2)] []) (fun n => setMac n 1 { verifySent := 3 }))
      (fun n => verifying n 1 && (mac n 1).verifySent == 3) (fun m => rd m (R.EM_CNT 1 12) == 1) = true := by decide +kernel

/-- A node in RUN with CAN controller 2 enabled and as given, some registers and values in force. -/
def canned (x : Can) (l f : List (Nat × BitVec 32)) : State :=
  onState (onAir ([(R.QM_POOLCFG, 0x00010201), (R.CB_STAT 2, 0)] ++ l)) (fun n =>
    setDesc (setCan { n with force := f ++ [(R.CB_CFG 2, fset 0 F.CB_CFG_EN 1)] } 2 x) 301 { kind := .frame, kindCode := 2, base := 16, size := 2 })

/-- A base frame with identifier 5. -/
def canFive : CanFrame := { id := 5, dlc := 2, data := [1, 2] }
/-- A register that gives object 7 of controller 2 identifier 5. -/
def objSeven : Nat × BitVec 32 := (R.CB_OBJCFG 2 7, fset (fset 0 F.CB_OBJCFG_EN 1) F.CB_OBJCFG_ID 5)
/-- A frame on its way. -/
def aJob (act : Bool) : CanJob := { frame := canFive, tag := 5, tsreq := false, once := false, active := act }

/-- What CanReceive asks. -/
def canHears (n : Node) : Bool := canLive n 2 && cbCfg n 2 F.CB_CFG_MODE != 3

theorem wit_CanReceive_none :
    shows (.canFrameReceived 2 canFive .error 7) (canned { rec_ := 127 } [] []) canHears
      (fun m => (can m 2).rec_ == 128 && cbState m 2 == 1) = true
    ∧ shows (.canFrameReceived 2 canFive .dominantAfterFlag 7) (canned {} [] []) canHears (fun m => (can m 2).rec_ == 9) = true
    ∧ shows (.protocolException 2) (canned {} [] [(R.CB_CFG 2, fset (fset 0 F.CB_CFG_EN 1) F.CB_CFG_PEXEN 1)])
      (fun n => canHears n && cbCfg n 2 F.CB_CFG_PEXEN == 1) (fun m => rd m (R.CB_CNT 2 9) == 1) = true
    ∧ shows (.protocolException 2) (canned {} [] []) (fun n => canHears n && cbCfg n 2 F.CB_CFG_PEXEN == 0) (fun m => (can m 2).rec_ == 1) = true := by
  decide +kernel
theorem wit_CanReceive_object :
    shows (.canFrameReceived 2 canFive .good 7) (canned {} [objSeven] []) (fun n => canHears n && objFor n 2 canFive == some 7 && ff n (R.CB_RXQ 2) F.CB_RXQ_QUEUE == 0)
      (fun m => objWord m 2 7 0 == 0x80000005 && objWord m 2 7 4 == 0x0201) = true
    ∧ shows (.canFrameReceived 2 canFive .good 7) (canned { lock := some 7 } [objSeven] []) (fun n => canHears n && objFor n 2 canFive == some 7)
      (fun m => (can m 2).pend.length == 1) = true := by decide +kernel
theorem wit_CanReceive_queue :
    shows (.canFrameReceived 2 canFive .good 7) (canned {} [] [(R.CB_RXQ 2, 301)]) (fun n => canHears n && objFor n 2 canFive == none
        && (pushFrame n 301 { len := 2, ts := 7, port := 2, aux := 5 } [1, 2]).2) (fun m => rd m (R.CB_CNT 2 2) == 1 && (desc m 301).tail == 1) = true
    ∧ shows (.canFrameReceived 2 canFive .good 7) (canned {} [] [(R.CB_RXQ 2, 302)]) (fun n => canHears n && objFor n 2 canFive == none
        && !(pushFrame n 302 { len := 2, ts := 7, port := 2, aux := 5 } [1, 2]).2) (fun m => gf m (R.CB_EVT 2) F.CB_EVT_RXDROP == 1) = true
    ∧ shows (.canFrameReceived 2 canFive .good 7) (canned {} [] []) (fun n => canHears n && objFor n 2 canFive == none) (fun m => rd m (R.CB_CNT 2 3) == 1) = true := by
  decide +kernel
theorem wit_ObjectLocks :
    shows (.objectLock 2 7) (canned {} [] []) (fun n => isRun n && cxAlive n) (fun m => (can m 2).lock == some 7 && m.out == [.word 0]) = true
    ∧ shows (.objectLock 2 7) (canned { lock := some 9 } [] []) (fun n => isRun n && cxAlive n)
      (fun m => (can m 2).lock == some 7 && gf m (R.CB_EVT 2) F.CB_EVT_LOCKBRK == 1) = true
    ∧ shows (.objectRelease 2 7) (canned { lock := some 9 } [] []) (fun n => isRun n && cxAlive n) (fun m => (can m 2).lock == some 9) = true
    ∧ shows (.objectRelease 2 7) (canned { lock := some 7, objs := [(140, 0xC0000005)] } [] []) (fun n => isRun n && cxAlive n) (fun m => objWord m 2 7 0 == 5) = true
    ∧ shows (.objectRelease 2 7) (canned { lock := some 7, pend := [⟨7, canFive, 9, false, false⟩] } [] []) (fun n => isRun n && cxAlive n)
      (fun m => objWord m 2 7 0 == 0x80000005) = true
    ∧ shows (.objectLockTimeout 2) (canned { lock := some 7 } [] []) (fun n => isRun n && cxAlive n) (fun m => (can m 2).lock == none) = true := by decide +kernel
theorem wit_CanTransmit_start :
    shows (.canFrameTransmit 2 7 0) (onState (canned {} [] [(R.CB_TXQ0 2, 301)]) (fun n => let n := setDesc n 301 { desc n 301 with tail := 1 }
        { n with dram := writeBytes n.dram (cellAddr n (desc n 301) 0) [2, 0, 0, 0, 0, 0, 0, 0, 0, 0, 0, 0, 5, 0, 0, 0, 1, 2] }))
      (fun n => canSends n 2 && canQueue n 2 == some 301 && peekJob n 2 301 == some (aJob false) && mayStart n 2 canFive 7) (fun m => m.out == [.can 2 canFive]) = true
    ∧ shows (.canFrameTransmit 2 7 0) (onState (canned {} [] [(R.CB_TXQ0 2, 301)]) (fun n => let n := setDesc n 301 { desc n 301 with tail := 1 }
        { n with dram := writeBytes n.dram (cellAddr n (desc n 301) 0) [9, 0, 0, 0, 0, 0, 0, 0, 0, 0, 0, 0, 5, 0, 0, 0] }))
      (fun n => canSends n 2 && canQueue n 2 == some 301 && (peekFrame n 301).isSome && (peekJob n 2 301).isNone && !ttOn n 2) (fun m => rd m (R.CB_CNT 2 6) == 1) = true := by
  decide +kernel
theorem wit_CanTransmit_end :
    shows (.canTransmitComplete 2 .sent) (canned { jobs := [aJob true], tec := 5 } [] []) (fun n => canOn n 2 && cbCfg n 2 F.CB_CFG_MODE != 3)
      (fun m => (can m 2).jobs == [] && (can m 2).tec == 4) = true
    ∧ shows (.canTransmitComplete 2 .lostArbitration) (canned { jobs := [aJob true] } [] []) (fun n => canOn n 2) (fun m => (can m 2).jobs == [aJob false]) = true
    ∧ shows (.canTransmitComplete 2 .error) (canned { jobs := [aJob true], tec := 250 } [] []) (fun n => canOn n 2) (fun m => cbState m 2 == 2) = true
    ∧ shows (.canTransmitComplete 2 .noAck) (canned { jobs := [aJob true] } [] []) (fun n => canOn n 2) (fun m => (can m 2).tec == 8) = true
    ∧ shows (.canTransmitComplete 2 .noAck) (canned { jobs := [{ aJob true with noAcks := 15 }] } [] []) (fun n => canOn n 2)
      (fun m => gf m (R.CB_STAT 2) F.CB_STAT_NOACK == 1 && (can m 2).jobs == [{ aJob false with noAcks := 16 }]) = true
    ∧ shows (.canTransmitComplete 2 .lostArbitration) (canned { jobs := [{ aJob true with abort := true }] } [] []) (fun n => canOn n 2)
      (fun m => (can m 2).jobs == [] && rd m (R.CB_CNT 2 6) == 1) = true := by decide +kernel
theorem wit_CanTransmit_control :
    shows (.canAbort 2) (canned { jobs := [aJob true] } [] []) (fun n => canOn n 2) (fun m => (can m 2).jobs == [{ aJob true with abort := true }]) = true
    ∧ shows (.canAbort 2) (canned { jobs := [aJob false] } [] []) (fun n => canOn n 2) (fun m => (can m 2).jobs == []) = true
    ∧ shows (.canRecover 2) (canned {} [(R.CB_STAT 2, fset 0 F.CB_STAT_STATE 2)] []) (fun n => canOn n 2 && cbState n 2 == 2)
      (fun m => gf m (R.CB_STAT 2) F.CB_STAT_RECOV == 1) = true
    ∧ shows (.busoffRecoveryComplete 2) (canned { tec := 256 } [(R.CB_STAT 2, fset (fset 0 F.CB_STAT_STATE 2) F.CB_STAT_RECOV 1)] [])
      (fun n => canOn n 2 && cbState n 2 == 2 && gf n (R.CB_STAT 2) F.CB_STAT_RECOV == 1) (fun m => (can m 2).tec == 0 && cbState m 2 == 0) = true
    ∧ shows (.canSleep 2) (canned {} [] []) (fun n => canOn n 2) (fun m => canAsleep m 2) = true
    ∧ shows (.canSleep 2) (canned { jobs := [aJob true] } [] []) (fun n => canOn n 2) (fun m => (can m 2).sleepReq && !canAsleep m 2) = true
    ∧ shows (.canWake 2) (canned {} [(R.CB_STAT 2, fset 0 F.CB_STAT_SLEEP 1)] []) (fun n => canOn n 2 && canAsleep n 2) (fun m => !canAsleep m 2) = true := by decide +kernel

/-- Controller 2 in time-triggered operation as a potential master. -/
def timed (x : Can) (l f : List (Nat × BitVec 32)) : State :=
  canned x l (f ++ [(R.CB_CFG 2, fset (fset 0 F.CB_CFG_EN 1) F.CB_CFG_TTEN 1),
    (R.CB_TTCFG 2, fset (fset (fset 0 F.CB_TTCFG_MASTER 1) F.CB_TTCFG_NCOL 4) F.CB_TTCFG_PRIO 3)])
/-- The same, an exclusive column 1 whose queue 301 holds a frame; the last reference message came at a time. -/
def excl (r : Option (BitVec 32)) : State :=
  onState (timed { refTs := r } [] [(R.CB_TTMAT 2 0 1, fset (fset 0 F.CB_TTMAT_TYPE 1) F.CB_TTMAT_QUEUE 301), (R.CB_TTCOL 2 2, 5000)]) (fun n =>
    let n := setDesc n 301 { desc n 301 with tail := 1 }
    { n with dram := writeBytes n.dram (cellAddr n (desc n 301) 0) [2, 0, 0, 0, 0, 0, 0, 0, 0, 0, 0, 0, 5, 0, 0, 0, 1, 2] })

theorem wit_CanTimeTriggered :
    shows (.ttReferenceSend 2 9) (timed {} [] []) (fun n => ttOn n 2 && canSends n 2 && ff n (R.CB_TTCFG 2) F.CB_TTCFG_MASTER == 1 && cnNow n % bcLen n 2 == 0)
      (fun m => gf m (R.CB_TTSTAT 2) F.CB_TTSTAT_CURPRIO == 3 && (can m 2).refTs == some 9 && m.out.length == 1) = true
    ∧ shows (.ttReferenceReceived 2 1 0 9) (timed { misses := 1 } [] []) (fun n => ttOn n 2 && canHears n)
      (fun m => gf m (R.CB_TTSTAT 2) F.CB_TTSTAT_CURPRIO == 1 && (can m 2).misses == 0) = true
    ∧ shows (.ttColumnOpen 2 3 9 0) (timed {} [] []) (fun n => ttOn n 2 && canLive n 2 && decide (3 < ncol n 2) && columnType n 2 3 != 1) (fun m => (can m 2).col == 3) = true
    ∧ shows (.ttColumnOpen 2 1 9 0) (excl (some 9)) (fun n => ttOn n 2 && canLive n 2 && canSends n 2 && columnType n 2 1 == 1 && (popFrame n 301).2.isSome
        && fitsColumn (setCan n 2 { can n 2 with col := 1 }) 2 canFive 9) (fun m => m.out == [.can 2 canFive]) = true
    ∧ shows (.ttColumnOpen 2 1 9 0) (excl none) (fun n => ttOn n 2 && canLive n 2 && canSends n 2 && columnType n 2 1 == 1 && (popFrame n 301).2.isSome
        && !fitsColumn (setCan n 2 { can n 2 with col := 1 }) 2 canFive 9) (fun m => m.out == [] && rd m (R.CB_CNT 2 6) == 1) = true
    ∧ shows (.ttReferenceMissed 2) (timed { misses := 1 } [] []) (fun n => ttOn n 2 && canLive n 2)
      (fun m => gf m (R.CB_TTSTAT 2) F.CB_TTSTAT_TTSTOP == 1) = true := by decide +kernel

/-- A node whose safety channel runs with a block that puts pair 0 in use, tripping both outputs, and is as given beside. -/
def guarded (f : SafeState → SafeState) : State :=
  onState (booted []) (fun n => { n with sa := f { n.sa with
    powered := true, started := true, lock := none, block := some (List.replicate 24 0#8 ++ [3#8] ++ List.replicate 39 0#8), pairs := [(0, { st := .rest })]
    outs := [(0, { on := true, high := true }), (1, { on := true, high := true })] } })

theorem wit_SafetySample :
    shows (.safetyInputSample 1200 (0 :: List.replicate 15 1200) 1200 1200) (guarded (fun x => { x with contacts := [(0, { last := true, cnt := 99 })] }))
      (fun n => sfOn n && (pairOf n 0).st == .rest)
      (fun m => (pairOf m 0).st == .one && !(safeOut m 0).on && !(safeOut m 1).on) = true
    ∧ shows (.safetyInputSample 400 (List.replicate 16 400) 400 400) (guarded id) (fun n => sfOn n)
      (fun m => m.sa.uvlo && !(safeOut m 0).on && (pairOf m 0).st == .rest) = true := by decide +kernel
theorem test_tableSF1 : tableSF1 .one true true = .tripped ∧ tableSF1 .tripped true false = .return ∧ tableSF1 .return false false = .rest := by decide
theorem wit_SafetyFaults :
    shows (.testPulse 0 1) (guarded (fun x => { x with contacts := [(0, { tpBad := 1 })] })) (fun n => sfOn n && feeds n 0 == 0 && (contact n 0).tpBad == 1)
      (fun m => m.sa.lock == some ⟨2, 0, 0⟩ && !(safeOut m 0).on && (contact m 0).tpErr) = true
    ∧ shows (.testPulse 0 1) (guarded id) (fun n => sfOn n && feeds n 0 == 0 && (contact n 0).tpBad == 0) (fun m => m.sa.lock == none && (contact m 0).tpBad == 1) = true
    ∧ shows (.discrepancyExpiry 0) (guarded (fun x => { x with pairs := [(0, { st := .one, disc := some 2000 })] }))
      (fun n => sfOn n && decide (discSamples n 0 ≤ 2000) && !n.sa.uvlo) (fun m => m.sa.lock == some ⟨1, 0, 0⟩ && (pairOf m 0).st == .fault) = true
    ∧ shows (.darkTest 1 true) (guarded id) (fun n => sfOn n && (safeOut n 1).on) (fun m => m.sa.lock == some ⟨4, 1, 0⟩) = true
    ∧ shows (.darkTest 1 false) (guarded id) (fun n => sfOn n && (safeOut n 1).on) (fun m => (safeOut m 1).darkOk && (safeOut m 1).on) = true
    ∧ shows (.periodicDiagnostic 3 true) (guarded id) (fun n => sfOn n) (fun m => m.sa.lock == none) = true
    ∧ shows (.periodicDiagnostic 3 false) (guarded (fun x => { x with lock := some ⟨1, 0, 4⟩ })) (fun n => sfOn n) (fun m => m.sa.lock == some ⟨1, 0, 4⟩ && rd m (R.SF_CNT 2) == 1) = true
    ∧ shows (.startupTest 0 0 0) (guarded (fun x => { x with testing := true, started := false, outs := [] })) (fun n => sfOn n && n.sa.testing)
      (fun m => m.sa.started && (safeOut m 0).on) = true
    ∧ shows (.startupTest 2 0 0) (guarded (fun x => { x with testing := true })) (fun n => sfOn n && n.sa.testing && (pairOf n 0).st != .unused)
      (fun m => m.sa.lock == some ⟨2, 1, 0⟩) = true
    ∧ shows (.startupTest 0 2 0) (guarded (fun x => { x with testing := true })) (fun n => sfOn n && n.sa.testing) (fun m => m.sa.lock == some ⟨3, 1, 0⟩) = true
    ∧ shows (.startupTest 0 0 4) (guarded (fun x => { x with testing := true })) (fun n => sfOn n && n.sa.testing) (fun m => m.sa.lock == some ⟨5, 4, 0⟩) = true
    ∧ shows (.vbatRecovery 450) (guarded (fun x => { x with uvlo := true })) (fun n => sfOn n && n.sa.uvlo) (fun m => m.sa.testing && !m.sa.uvlo) = true := by decide +kernel
theorem wit_SafetyReset :
    shows (.sresetRelease 500 true) (guarded (fun x => { x with lock := some ⟨1, 0, 4⟩, outs := [], pairs := [(0, { st := .fault })] })) (fun n => sfOn n && noFault n)
      (fun m => m.sa.lock == none && (pairOf m 0).st == .rest && m.sa.testing) = true
    ∧ shows (.sresetRelease 2000 true) (guarded (fun x => { x with lock := some ⟨1, 0, 4⟩, contacts := [(1, { filt := true })] })) (fun n => sfOn n && !noFault n)
      (fun m => m.sa.lock.isSome && gf m R.SF_RSTSTAT F.SF_RSTSTAT_REJECT == 1) = true
    ∧ shows (.sresetRelease 2001 true) (guarded (fun x => { x with lock := some ⟨1, 0, 4⟩ })) (fun n => sfOn n) (fun m => gf m R.SF_RSTSTAT F.SF_RSTSTAT_REJECT == 2) = true
    ∧ shows (.sresetRelease 499 true) (guarded (fun x => { x with lock := some ⟨1, 0, 4⟩ })) (fun n => sfOn n) (fun m => m.sa.lock.isSome) = true
    ∧ shows (.sfrstRequest 4) (guarded (fun x => { x with lock := some ⟨1, 0, 4⟩ })) (fun n => sfOn n && lineOn n) (fun m => m.sa.code.isSome && m.out.length == 1) = true
    ∧ shows (.sfrstRequest 2) (guarded (fun x => { x with lock := some ⟨1, 0, 4⟩ })) (fun n => lineOn n) (fun m => m.sa.code.isNone) = true
    ∧ shows .resetCodeExpiry (guarded (fun x => { x with code := some (5, 0) })) (fun n => sfOn n) (fun m => m.sa.code.isNone) = true
    ∧ shows (.safetyNodeTimeout 9) (guarded (fun x => { x with mons := [(9, { mon := true, age := 160, seq := 3 })] })) (fun n => sfOn n && (mon n 9).mon && !(mon n 9).tmo)
      (fun m => (mon m 9).tmo && m.sa.line.isSome && !(safeOut m 0).on) = true := by decide +kernel

/-- Frames of a length. -/
def octets (k : Nat) : List Byte := List.replicate k 0#8

theorem wf_accepts :
    Instr.wf .imageHoldExpiry ∧ Instr.wf (.csfReceived 0 (octets 100) 0 0) ∧ Instr.wf (.beaconReceived 0 (octets 52))
      ∧ Instr.wf (.dreqReceived 0 (octets 48) 0) ∧ Instr.wf (.consentReceived 0 (octets 188))
      ∧ Instr.wf (.canFrameReceived 0 { id := 2047, dlc := 2, data := [1, 2] } .good 0) ∧ Instr.wf (.localBoundary {})
      ∧ Instr.wf (.qspiWrite 0 [7]) ∧ Instr.wf (.statusReceived 0 (octets 28) 0) := by decide +kernel
theorem wf_accepts_container : containerOk (octets 1196) = true ∧ Instr.wf (.sequencerReceived 1 (octets 1484)) = true := by decide +kernel
theorem wf_refuses_container : Instr.wf (.sequencerReceived 1 (octets 1483)) = false ∧ Instr.wf (.audioContainerOutbound 1 (octets 1197)) = false := by decide +kernel
theorem wf_refuses_csf : Instr.wf (.csfReceived 0 (octets 99) 0 0) = false := by decide +kernel
theorem wf_refuses_beacon : Instr.wf (.beaconReceived 0 (octets 48)) = false := by decide +kernel
theorem wf_refuses_delay : Instr.wf (.dreqReceived 0 (octets 52) 0) = false ∧ Instr.wf (.drspReceived 0 (octets 48) 0 (2 ^ 48)) = false := by decide +kernel
theorem wf_refuses_minislot : Instr.wf (.consentReceived 0 (octets 187)) = false ∧ Instr.wf (.minislotClaim 0 (octets 189) 0 0 0) = false := by decide +kernel
theorem wf_refuses_admission : Instr.wf (.admissionRecordReceived 0 (octets 55)) = false := by decide +kernel
theorem wf_refuses_neighbour : Instr.wf (.neighbourSignalReceived 0 (octets 14)) = false := by decide +kernel
theorem wf_refuses_pair : Instr.wf (.pairRecordReceived (octets 13)) = false ∧ Instr.wf (.checkpointReceived (octets 35)) = false := by decide +kernel
theorem wf_refuses_boundary : Instr.wf (.localBoundary { egress := [0, 0, 0] }) = false ∧ Instr.wf (.localBoundary { temps := octets 9 }) = false
    ∧ Instr.wf (.localBoundary { ces := octets 9 }) = false ∧ Instr.wf (.localBoundary { ma := List.replicate 13 0 }) = false
    ∧ Instr.wf (.localBoundary { ids := List.replicate 513 0 }) = false := by decide +kernel
theorem wf_refuses_audio : Instr.wf (.tdmFrameStart 0 0 (List.replicate 17 0)) = false ∧ Instr.wf (.converterFrameStart false 0 (List.replicate 9 0)) = false := by
  decide +kernel
theorem wf_refuses_host : Instr.wf (.dramApertureAccess 0 0 4 (some [1])) = false ∧ Instr.wf (.qspiWrite 0 []) = false
    ∧ Instr.wf (.qspiWrite 0 (List.replicate 257 0)) = false ∧ Instr.wf (.qspiRead 0 0 false) = false ∧ Instr.wf (.consoleRead 0 0) = false
    ∧ Instr.wf (.consoleLogin 1 (octets 65)) = false ∧ Instr.wf (.partialWrite 0 15) = false ∧ Instr.wf (.partialWrite 0 0) = false := by decide +kernel
theorem wf_refuses_star : Instr.wf (.statusReceived 0 (octets 24) 0) = false ∧ Instr.wf (.uplinkAudioReceived 0 (octets 175)) = false
    ∧ Instr.wf (.uplinkMessageReceived 0 (octets 177) 0) = false := by decide +kernel
theorem wf_refuses_ethernet : Instr.wf (.emFrameReceived 0 [] false false false 0) = false ∧ Instr.wf (.wakePatternMatch [(0, [])]) = false := by decide +kernel
theorem wf_refuses_can : Instr.wf (.canFrameReceived 0 { id := 2048 } .good 0) = false ∧ Instr.wf (.canFrameReceived 0 { brs := true } .good 0) = false
    ∧ Instr.wf (.canFrameReceived 0 { fdf := true, rtr := true } .good 0) = false ∧ Instr.wf (.canFrameReceived 0 { dlc := 3, data := [1] } .good 0) = false
    ∧ Instr.wf (.canWakeFrame [(0, { esi := true })]) = false := by decide +kernel
theorem wf_refuses_samples : Instr.wf (.safetyInputSample 0 [] 0 0) = false := by decide +kernel
theorem wf_refuses_loop : Instr.wf (.mkLoop ⟨0, false⟩ 1 0 1) = false ∧ Instr.wf (.mkLoop ⟨0, false⟩ 1 4096 1) = false ∧ Instr.wf (.mkLoop ⟨0, false⟩ 1 1 0) = false
    ∧ Instr.wf (.mkLoop ⟨0, false⟩ 1 1 512) = false := by decide +kernel

/-- Check values of the cyclic redundancy checks over "123456789" (the catalogued values of these checks). -/
theorem test_crc :
    crc32 (ascii "123456789") = 0xCBF43926#32 ∧ crc32c (ascii "123456789") = 0xE3069283#32 ∧ crc16 (ascii "123456789") = 0x29B1#16 := by decide +kernel

end
end

section
/-! PROOFS. The objects and the transmitter of a CAN controller (spec/15_can.md, R381 and R387). -/

namespace Sys2Proof.Machine

/-! ### Bits and bytes -/

theorem bitOf_toNat_eq_getLsbD {w : Nat} (v : BitVec w) (i : Nat) : bitOf v.toNat i = v.getLsbD i := by
  rw [BitVec.getLsbD, Nat.testBit_eq_decide_div_mod_eq, bitOf, bits, Nat.pow_one]
  exact Bool.beq_eq_decide_eq _ _

theorem getLsbD_of_div_mod {w : Nat} (v : BitVec w) {i : Nat} {b : Bool} (h : v.toNat / 2 ^ i % 2 = b2n b) : v.getLsbD i = b := by
  rw [← bitOf_toNat_eq_getLsbD, bitOf, bits, Nat.pow_one, h]
  cases b <;> rfl

theorem b2n_le_one (b : Bool) : b2n b ≤ 1 := by cases b <;> decide

/-- Bytes taken by `cut`, one by one: those past the end of the list read 0. -/
theorem cut_getD (b : List Byte) (off n i : Nat) : (cut b off n).getD i 0#8 = if i < n then b.getD (off + i) 0#8 else 0#8 := by
  simp only [cut, List.getD_eq_getElem?_getD, List.getElem?_append, List.length_take, List.length_drop, List.getElem?_take,
    List.getElem?_drop, List.getElem?_replicate]
  by_cases hn : i < n
  · by_cases hb : off + i < b.length
    · have hi : i < min n (b.length - off) := by omega
      rw [if_pos hi, if_pos hn, if_pos hn]
    · have hi : ¬ i < min n (b.length - off) := by omega
      rw [if_neg hi, if_pos hn, List.getElem?_eq_none (by omega)]
      split <;> rfl
  · have hi : ¬ i < min n (b.length - off) := by omega
    rw [if_neg hi, if_neg hn, if_neg (by omega)]
    rfl

theorem leVal_lt (bs : List Byte) : leVal bs < 256 ^ bs.length := by
  induction bs with
  | nil => decide
  | cons b bs ih =>
    have hb := b.isLt
    simp only [leVal, List.length_cons, Nat.pow_succ]
    omega

/-- Byte i of the number some bytes spell is the i-th of them. -/
theorem leVal_div_mod (bs : List Byte) (i : Nat) : leVal bs / 256 ^ i % 256 = (bs.getD i 0#8).toNat := by
  induction bs generalizing i with
  | nil => simp [leVal]
  | cons b bs ih =>
    have hb := b.isLt
    cases i with
    | zero => simp only [leVal, Nat.pow_zero, Nat.div_one, List.getD_cons_zero]; omega
    | succ i =>
      rw [List.getD_cons_succ, ← ih, leVal, Nat.pow_succ', ← Nat.div_div_eq_div_mul,
        show (b.toNat + 256 * leVal bs) / 256 = leVal bs by omega]

theorem le_four_lt (b : List Byte) (off : Nat) : le b off 4 < 2 ^ 32 := by
  have h := leVal_lt (cut b off 4)
  rwa [cut_length] at h

/-! ### Controllers and objects -/

@[simp] theorem can_setCan (n : Node) (c : Nat) (x : Can) : can (setCan n c x) c = x := look_put_self _ _ _ _

theorem can_congr {n m : Node} (h : m.cb = n.cb) (c : Nat) : can m c = can n c := by rw [can, can, h]

theorem canLen_le (f : CanFrame) : canLen f ≤ 64 := by
  have h : ∀ (fdf : Bool) (d : BitVec 4), dlcLen fdf d.toNat ≤ 64 := by decide
  unfold canLen
  split
  · exact Nat.zero_le _
  · exact h _ _

theorem stampCnlo_lt (n : Node) (ts : BitVec 32) : stampCnlo n ts < 65536 := by
  unfold stampCnlo
  dsimp only
  omega

/-- The object store after words are set in an object: those words, and every other as it was. -/
theorem look_objs_setObj (n : Node) (c o w : Nat) (vs : List (BitVec 32)) (i : Nat) :
    look 0#32 (can (setObj n c o w vs) c).objs i =
      if 20 * o + w ≤ i ∧ i < 20 * o + w + vs.length then vs.getD (i - (20 * o + w)) 0#32 else look 0#32 (can n c).objs i := by
  induction vs generalizing n w with
  | nil => rw [setObj, List.length_nil, if_neg (by omega)]
  | cons v vs ih =>
    rw [setObj, ih, can_setCan, look_put, List.length_cons]
    by_cases he : i = 20 * o + w
    · rw [if_neg (by omega), if_pos he, if_pos (by omega), he, Nat.sub_self, List.getD_cons_zero]
    · rw [if_neg he]
      by_cases hin : 20 * o + (w + 1) ≤ i ∧ i < 20 * o + (w + 1) + vs.length
      · rw [if_pos hin, if_pos (by omega), show i - (20 * o + w) = i - (20 * o + (w + 1)) + 1 by omega, List.getD_cons_succ]
      · rw [if_neg hin, if_neg (by omega)]

theorem objWords_length (n : Node) (c o : Nat) (f : CanFrame) (ts : BitVec 32) (dom lost : Bool) :
    (objWords n c o f ts dom lost).length = 20 := by simp [objWords]

/-- A stored object holds the words of its frame. -/
theorem objWord_objStore_self (n : Node) (c o : Nat) (f : CanFrame) (ts : BitVec 32) (dom lost : Bool) {w : Nat} (hw : w < 20) :
    objWord (objStore n c o f ts dom lost) c o w = (objWords n c o f ts dom lost).getD w 0#32 := by
  rw [objWord, objStore, look_objs_setObj, objWords_length, if_pos (by omega), Nat.add_zero, Nat.add_sub_cancel_left]

/-- A store leaves every other object as it was. -/
theorem objWord_objStore_ne (n : Node) (c o p : Nat) (f : CanFrame) (ts : BitVec 32) (dom lost : Bool) {w : Nat} (hw : w < 20)
    (hp : p ≠ o) : objWord (objStore n c o f ts dom lost) c p w = objWord n c p w := by
  rw [objWord, objStore, look_objs_setObj, objWords_length, if_neg (by omega)]
  rfl

/-! ### The words of a stored frame (Table CB-2) -/

section Words
variable (n : Node) (c o : Nat) (f : CanFrame) (ts : BitVec 32) (dom : Bool)

/-- Word 0: VALID, LOST where VALID was already 1, IDE and the identifier. -/
theorem objWords_head : ((objWords n c o f ts dom false).getD 0 0#32).toNat
    = 2 ^ 31 + 2 ^ 30 * b2n ((objWord n c o 0).getLsbD 31) + 2 ^ 29 * b2n f.ide + f.id.toNat := by
  have hv := b2n_le_one ((objWord n c o 0).getLsbD 31)
  have hi := b2n_le_one f.ide
  have hid := f.id.isLt
  simp only [objWords, bitOf_toNat_eq_getLsbD, Bool.false_or, List.cons_append, List.getD_cons_zero, BitVec.toNat_ofNat]
  omega

/-- Word 1: CNLO, the flags and LEN. -/
theorem objWords_flags : ((objWords n c o f ts dom false).getD 1 0#32).toNat
    = stampCnlo n ts * 65536 + 1024 * b2n f.esi + 512 * b2n (f.brs && f.fdf) + 256 * b2n f.fdf + canLen f := by
  have hc := stampCnlo_lt n ts
  have hl := canLen_le f
  have he := b2n_le_one f.esi
  have hb := b2n_le_one (f.brs && f.fdf)
  have hf := b2n_le_one f.fdf
  simp only [objWords, List.cons_append, List.getD_cons_succ, List.getD_cons_zero, BitVec.toNat_ofNat]
  omega

/-- Word 3: TSDOM and the number of frames stored, wrapping. -/
theorem objWords_count : ((objWords n c o f ts dom false).getD 3 0#32).toNat
    = 65536 * b2n dom + ((objWord n c o 3).toNat % 65536 + 1) % 65536 := by
  have hd := b2n_le_one dom
  simp only [objWords, bits, Nat.pow_zero, Nat.div_one, List.cons_append, List.getD_cons_succ, List.getD_cons_zero,
    BitVec.toNat_ofNat]
  omega

/-- Words 4 to 19: the data bytes, and zeros beyond LEN. -/
theorem objWords_data {i : Nat} (hi : i < 64) : ((objWords n c o f ts dom false).getD (4 + i / 4) 0#32).toNat / 256 ^ (i % 4) % 256
    = if i < canLen f then (f.data.getD i 0#8).toNat else 0 := by
  have hw : (objWords n c o f ts dom false).getD (4 + i / 4) 0#32
      = BitVec.ofNat 32 (le (cut (cut f.data 0 (canLen f)) 0 64) (4 * (i / 4)) 4) := by
    have hk : i / 4 < 16 := by omega
    simp [objWords, Nat.add_comm 4, hk]
  have hm : i % 4 < 4 := Nat.mod_lt _ (by decide)
  rw [hw, BitVec.toNat_ofNat, Nat.mod_eq_of_lt (le_four_lt _ _), le, leVal_div_mod, cut_getD, if_pos hm, Nat.div_add_mod,
    cut_getD, if_pos hi, Nat.zero_add, cut_getD, Nat.zero_add]
  split <;> rfl

end Words

/-- The fields of a word laid out as word 0 of Table CB-2. -/
theorem object_head_fields {v : BitVec 32} {lost ide : Bool} {id : BitVec 29}
    (h : v.toNat = 2 ^ 31 + 2 ^ 30 * b2n lost + 2 ^ 29 * b2n ide + id.toNat) :
    v.getLsbD 31 = true ∧ v.getLsbD 30 = lost ∧ v.getLsbD 29 = ide ∧ v.toNat % 2 ^ 29 = id.toNat := by
  have hl := b2n_le_one lost
  have hi := b2n_le_one ide
  have hid := id.isLt
  exact ⟨getLsbD_of_div_mod v (b := true) (by change _ = 1; omega), getLsbD_of_div_mod v (by omega),
    getLsbD_of_div_mod v (by omega), by omega⟩

/-- Settles O7: each word of the stored object is the one Table CB-2 gives, and the keys of other objects are not among the words
written. -/
theorem storedObject : Obligations.StoredObject := by
  unfold Obligations.StoredObject
  rintro n _ c o f ts dom - rfl
  have hself {w : Nat} (hw : w < 20) := objWord_objStore_self n c o f ts dom false hw
  obtain ⟨hvalid, hlost, hide, hid⟩ := object_head_fields (objWords_head n c o f ts dom)
  rw [hself (w := 0) (by decide), hself (w := 1) (by decide), hself (w := 2) (by decide), hself (w := 3) (by decide)]
  refine ⟨hvalid, hlost, hide, hid, objWords_flags n c o f ts dom, rfl, objWords_count n c o f ts dom, ?_, ?_⟩
  · intro i hi
    rw [hself (by omega)]
    exact objWords_data n c o f ts dom hi
  · intro p w _ hw hp
    exact objWord_objStore_ne n c o p f ts dom false hw hp

end Sys2Proof.Machine
end

section
/-! PROOFS. What the end of an attempt to send leaves alone, and what removing a frame does (R386, R387). -/

namespace Sys2Proof.Machine

/-! ### Steps beside the transmitter -/

theorem tsdom_congr {n m : Node} (ht : m.tb = n.tb) (hr : rd m R.TB_STAT = rd n R.TB_STAT) : tsdom m = tsdom n := by
  rw [tsdom, tsdom, gf, gf, hr, ht]

/-- A register other than the counters of frames sent and removed of controller c, and other than the one TSDOM comes from. -/
def besideSending (c a : Nat) : Bool := a != R.CB_CNT c 5 && a != R.CB_CNT c 6 && a != R.TB_STAT

theorem besideSending_iff (c a : Nat) : besideSending c a = true ↔ a ≠ R.CB_CNT c 5 ∧ a ≠ R.CB_CNT c 6 ∧ a ≠ R.TB_STAT := by
  simp [besideSending, and_assoc]

theorem besideSending_stat (c : Nat) : besideSending c (R.CB_STAT c) = true := by
  rw [besideSending_iff]; simp only [R.CB_STAT, R.CB_CNT, R.TB_STAT]; omega

theorem besideSending_evt (c : Nat) : besideSending c (R.CB_EVT c) = true := by
  rw [besideSending_iff]; simp only [R.CB_EVT, R.CB_CNT, R.TB_STAT]; omega

theorem besideSending_cnt (c : Nat) {k : Nat} (h5 : k ≠ 5) (h6 : k ≠ 6) : besideSending c (R.CB_CNT c k) = true := by
  rw [besideSending_iff]; simp only [R.CB_CNT, R.TB_STAT]; omega

theorem besideSending_of_logBlocks (c a : Nat) (h : blocks logBlocks a = true) : besideSending c a = true := by
  have hb : blockOf a = 6 ∨ blockOf a = 8 := Decidable.byContradiction fun hn => by
    rw [not_logBlocks (fun h6 => hn (.inl h6)) (fun h8 => hn (.inr h8))] at h
    exact Bool.noConfusion h
  rw [besideSending_iff]
  simp only [blockOf, R.CB_CNT, R.TB_STAT] at hb ⊢
  omega

/-- Node m differs from n at most in the logs, the outputs, the controllers and registers beside sending, and controller c holds the
same frames and packed completion records. -/
structure KeepsSending (c : Nat) (n m : Node) : Prop where
  frame : Frame (.cb :: .out :: logParts) (besideSending c) n m
  jobs : (can m c).jobs = (can n c).jobs
  done : (can m c).done = (can n c).done

namespace KeepsSending

variable {c : Nat} {n m k : Node}

theorem refl (c : Nat) (n : Node) : KeepsSending c n n := ⟨.refl _ _ n, rfl, rfl⟩

theorem trans (h : KeepsSending c n m) (g : KeepsSending c m k) : KeepsSending c n k :=
  ⟨h.frame.trans g.frame, g.jobs.trans h.jobs, g.done.trans h.done⟩

theorem ite {p : Prop} [Decidable p] {a b : Node} (ha : KeepsSending c n a) (hb : KeepsSending c n b) :
    KeepsSending c n (if p then a else b) := by split <;> assumption

theorem of_onlyLog (h : OnlyLog n m) : KeepsSending c n m := by
  have hc : can m c = can n c := can_congr (h.1 .cb (by decide)) c
  exact ⟨h.frame (by decide) (besideSending_of_logBlocks c), by rw [hc], by rw [hc]⟩

theorem wr (n : Node) {a : Nat} (v : BitVec 32) (h : besideSending c a = true) : KeepsSending c n (wr n a v) :=
  ⟨.wr n a v h, rfl, rfl⟩

theorem sf (n : Node) {a : Nat} (f : Field) (x : Nat) (h : besideSending c a = true) : KeepsSending c n (sf n a f x) := wr n _ h

theorem cbCount (n : Node) {k : Nat} (h5 : k ≠ 5) (h6 : k ≠ 6) : KeepsSending c n (cbCount n c k) :=
  wr n _ (besideSending_cnt c h5 h6)

theorem cbEvt (n : Node) (f : Field) : KeepsSending c n (cbEvt n c f) := sf n f 1 (besideSending_evt c)

theorem cbRaise (n : Node) (f : Field) : KeepsSending c n (cbRaise n c f) :=
  (sf n f 1 (besideSending_evt c)).trans (of_onlyLog (onlyLog_raise n .n 14 c (R.CB_EVT c) f [] (by decide)))

theorem setCan (n : Node) {x : Can} (hj : x.jobs = (can n c).jobs) (hd : x.done = (can n c).done) :
    KeepsSending c n (setCan n c x) :=
  ⟨⟨fun p hp => by
    cases p
    case cb => exact absurd (by decide) hp
    all_goals rfl, fun _ _ => rfl⟩, by rw [can_setCan, hj], by rw [can_setCan, hd]⟩

theorem emit (n : Node) (o : Output) : KeepsSending c n (emit n o) :=
  ⟨⟨fun p hp => by
    cases p
    case out => exact absurd (by decide) hp
    all_goals rfl, fun _ _ => rfl⟩, rfl, rfl⟩

/-! What it keeps of the rest of the node. -/

theorem ff (h : KeepsSending c n m) (a : Nat) (f : Field) : ff m a f = ff n a f := by
  have hf : m.force = n.force := h.frame.1 .force (by decide)
  rw [Machine.ff, Machine.ff, inForce, inForce, hf]

theorem stampCnlo (h : KeepsSending c n m) (ts : BitVec 32) : stampCnlo m ts = stampCnlo n ts := by
  have ht : m.tb = n.tb := h.frame.1 .tb (by decide)
  rw [Machine.stampCnlo, Machine.stampCnlo, cnNow, cnNow, ht]

theorem tsdom (h : KeepsSending c n m) : tsdom m = tsdom n :=
  tsdom_congr (h.frame.1 .tb (by decide)) (h.frame.2 _ (by simp [besideSending]))

theorem rd_sent (h : KeepsSending c n m) : rd m (R.CB_CNT c 5) = rd n (R.CB_CNT c 5) := h.frame.2 _ (by simp [besideSending])

theorem rd_removed (h : KeepsSending c n m) : rd m (R.CB_CNT c 6) = rd n (R.CB_CNT c 6) := h.frame.2 _ (by simp [besideSending])

end KeepsSending

/-! ### Steps of a controller that keep what it sends -/

theorem keepsSending_setErrors (n : Node) (c tec rec_ : Nat) : KeepsSending c n (setErrors n c tec rec_) := by
  have hs (m : Node) (f : Field) (x : Nat) : KeepsSending c m (sf m (R.CB_STAT c) f x) := .sf m f x (besideSending_stat c)
  have hcounters := ((KeepsSending.setCan n (x := { can n c with tec := tec, rec_ := rec_ }) rfl rfl).trans
    (hs _ F.CB_STAT_TEC (min tec 255))).trans (hs _ F.CB_STAT_REC (min rec_ 255))
  refine .ite hcounters (.trans (hcounters.trans (hs _ _ _)) (.ite (.cbRaise _ _) (.ite (.cbRaise _ _) ?_)))
  have hbusoff (m : Node) : KeepsSending c m (cbCount (cbRaise m c F.CB_EVT_BUSOFF) c 8) :=
    (KeepsSending.cbRaise m _).trans (.cbCount _ (by decide) (by decide))
  exact .ite ((hbusoff _).trans (hs _ _ _)) (hbusoff _)

theorem keepsSending_setObj (n : Node) (c o w : Nat) (vs : List (BitVec 32)) : KeepsSending c n (setObj n c o w vs) := by
  induction vs generalizing n w with
  | nil => exact .refl c n
  | cons v vs ih => exact (KeepsSending.setCan n (by rfl) (by rfl)).trans (ih _ _)

theorem keepsSending_objStore (n : Node) (c o : Nat) (f : CanFrame) (ts : BitVec 32) (dom lost : Bool) :
    KeepsSending c n (objStore n c o f ts dom lost) :=
  (KeepsSending.cbCount n (by decide) (by decide)).trans (keepsSending_setObj _ _ _ _ _)

theorem keepsSending_objArrive (n : Node) (c o : Nat) (f : CanFrame) (ts : BitVec 32) : KeepsSending c n (objArrive n c o f ts) :=
  .ite (keepsSending_objStore _ _ _ _ _ _ _) (.ite (.setCan n rfl rfl) (.ite (.setCan n rfl rfl)
    ((KeepsSending.setCan n (by rfl) (by rfl)).trans (.cbCount _ (k := 4) (by decide) (by decide)))))

theorem keepsSending_canPush (n : Node) (c q : Nat) (f : CanFrame) (ts : BitVec 32) : KeepsSending c n (canPush n c q f ts) := by
  unfold canPush
  dsimp only
  generalize hp : pushFrame n q _ f.data = r
  have hlog : KeepsSending c n r.1 := hp ▸ .of_onlyLog (onlyLog_pushFrame n q _ f.data)
  obtain ⟨m, queued⟩ := r
  cases queued with
  | true => exact hlog.trans (.cbCount m (by decide) (by decide))
  | false => exact hlog.trans (.cbEvt m _)

theorem keepsSending_canStore (n : Node) (c : Nat) (f : CanFrame) (ts : BitVec 32) : KeepsSending c n (canStore n c f ts) := by
  unfold canStore
  dsimp only
  refine (KeepsSending.cbCount n (k := 0) (by decide) (by decide)).trans ?_
  generalize cbCount n c 0 = m
  generalize namedQueue _ = q
  have hqueue : KeepsSending c m (match q with | none => cbCount m c 3 | some q => canPush m c q f ts) := by
    cases q with
    | none => exact .cbCount m (by decide) (by decide)
    | some q => exact keepsSending_canPush m c q f ts
  refine .ite hqueue ?_
  cases objFor m c f with
  | none => exact hqueue
  | some o =>
    have hobj := keepsSending_objArrive m c o f ts
    cases q with
    | none => exact hobj
    | some q => exact .ite (hobj.trans (keepsSending_canPush _ c q f ts)) hobj

theorem keepsSending_afterAttempt (n : Node) (c : Nat) : KeepsSending c n (afterAttempt n c) :=
  .ite (((KeepsSending.sf n _ _ (besideSending_stat c)).trans (.setCan _ (by rfl) (by rfl))).trans (.emit _ _)) (.refl c n)

/-! ### The end of an attempt -/

/-- With a completion queue and room beside it, a completion record is packed and no cell is pushed (R386). -/
theorem completeCan_of_room (n : Node) (c : Nat) (r : List Byte) (hq : 256 ≤ ff n (R.CB_TXCQ c) F.CB_TXCQ_QUEUE)
    (hd : (can n c).done.length < 7) : completeCan n c r = setCan n c { can n c with done := (can n c).done ++ [r] } := by
  have hnamed : ¬ (namedQueue (ff n (R.CB_TXCQ c) F.CB_TXCQ_QUEUE)).isNone := by
    rw [namedQueue, if_neg (by omega)]
    exact Bool.false_ne_true
  unfold completeCan
  rw [if_neg hnamed]
  exact if_neg (by omega)

/-- A failed attempt of an aborted frame removes it with TSTAT 2, however it failed, the sixteenth without acknowledgement
included: what goes before the removal keeps what the controller sends. -/
theorem canComplete_aborted (n : Node) (c : Nat) {j : CanJob} {how : CanTx} (ha : j.abort) (hh : how ≠ .sent) :
    ∃ m, KeepsSending c n m ∧ canComplete n c j how = removedCan (dropJob m c) c j.tag 2 := by
  have hfailed (m : Node) (k : Nat) : attemptFailed m c { j with noAcks := k } = removedCan (dropJob m c) c j.tag 2 := if_pos ha
  have herr (t r : Nat) : KeepsSending c n (setErrors (cbCount n c 7) c t r) :=
    (KeepsSending.cbCount n (by decide) (by decide)).trans (keepsSending_setErrors _ _ _ _)
  cases how with
  | sent => exact absurd rfl hh
  | lostArbitration => exact ⟨n, .refl c n, hfailed n 0⟩
  | error => exact ⟨_, herr _ _, hfailed _ 0⟩
  | noAck =>
    unfold canComplete
    dsimp only
    by_cases h16 : j.noAcks + 1 = 16
    · rw [if_pos h16, if_neg (by simp [ha])]
      exact ⟨_, (herr _ _).trans ((KeepsSending.sf _ _ _ (besideSending_stat c)).trans (.cbRaise _ _)), hfailed _ _⟩
    · rw [if_neg h16]
      exact ⟨_, herr _ _, hfailed _ _⟩

/-- What packing a record changes of the controller: the record is added, and the frames it holds and every register stay. -/
theorem completeCan_packs (n : Node) (c : Nat) (r : List Byte) (hq : 256 ≤ ff n (R.CB_TXCQ c) F.CB_TXCQ_QUEUE)
    (hd : (can n c).done.length < 7) :
    (can (completeCan n c r) c).jobs = (can n c).jobs ∧ (can (completeCan n c r) c).done = (can n c).done ++ [r]
      ∧ ∀ a, rd (completeCan n c r) a = rd n a := by
  rw [completeCan_of_room n c r hq hd, can_setCan]
  exact ⟨rfl, rfl, fun _ => rfl⟩

theorem can_dropJob (n : Node) (c : Nat) : can (dropJob n c) c = { can n c with jobs := (can n c).jobs.drop 1 } := can_setCan _ _ _

theorem can_cbCount (n : Node) (c k : Nat) : can (cbCount n c k) c = can n c := rfl

/-- The removal of the job in front: it is gone, CB_CNT[c][6] counts, and a completion record with the TSTAT is packed. -/
theorem removedCan_dropJob (n : Node) (c tag tstat : Nat) (hq : 256 ≤ ff n (R.CB_TXCQ c) F.CB_TXCQ_QUEUE)
    (hd : (can n c).done.length < 7) :
    (can (removedCan (dropJob n c) c tag tstat) c).jobs = (can n c).jobs.drop 1
      ∧ Counted n (removedCan (dropJob n c) c tag tstat) (R.CB_CNT c 6)
      ∧ (can (removedCan (dropJob n c) c tag tstat) c).done = (can n c).done ++ [emRecord tag 0 0 (c + 16) tstat 0] := by
  have hcan : can (cbCount (dropJob n c) c 6) c = { can n c with jobs := (can n c).jobs.drop 1 } := can_dropJob n c
  obtain ⟨hjobs, hdone, hrd⟩ := completeCan_packs (cbCount (dropJob n c) c 6) c (emRecord tag 0 0 (c + 16) tstat 0) hq
    (by rw [hcan]; exact hd)
  rw [removedCan, hjobs, hdone, Counted, hrd, hcan]
  exact ⟨rfl, rd_count_self (dropJob n c) _, rfl⟩

/-- The completion records of a frame sent: one where TSREQ asks for it (R386). -/
def sentRecords (n : Node) (c : Nat) (j : CanJob) : List (List Byte) :=
  if j.tsreq then [emRecord j.tag j.ts.toNat (stampCnlo n j.ts) (c + 16) 0 (b2n (tsdom n))] else []

/-- A frame sent: the job in front is gone, CB_CNT[c][5] counts and CB_CNT[c][6] does not, and its completion record is packed. -/
theorem canComplete_sent (n : Node) (c : Nat) (j : CanJob) (hq : 256 ≤ ff n (R.CB_TXCQ c) F.CB_TXCQ_QUEUE)
    (hd : (can n c).done.length < 7) :
    (can (canComplete n c j .sent) c).jobs = (can n c).jobs.drop 1 ∧ Counted n (canComplete n c j .sent) (R.CB_CNT c 5)
      ∧ rd (canComplete n c j .sent) (R.CB_CNT c 6) = rd n (R.CB_CNT c 6)
      ∧ (can (canComplete n c j .sent) c).done = (can n c).done ++ sentRecords n c j := by
  unfold canComplete
  dsimp only
  have hm : KeepsSending c (dropJob n c) (sf (setErrors (dropJob n c) c ((can n c).tec - 1) (can n c).rec_) (R.CB_STAT c)
      F.CB_STAT_NOACK 0) := (keepsSending_setErrors _ _ _ _).trans (.sf _ _ _ (besideSending_stat c))
  generalize sf (setErrors _ _ _ _) _ _ _ = m at hm ⊢
  have hjobs : (can m c).jobs = (can n c).jobs.drop 1 := by rw [hm.jobs, can_dropJob]
  have hdone : (can m c).done = (can n c).done := by rw [hm.done, can_dropJob]
  have hsent : Counted n (cbCount m c 5) (R.CB_CNT c 5) := by
    have h := rd_count_self m (R.CB_CNT c 5)
    rwa [hm.rd_sent] at h
  have hremoved : rd (cbCount m c 5) (R.CB_CNT c 6) = rd n (R.CB_CNT c 6) :=
    (rd_count_ne m (by simp only [R.CB_CNT]; omega)).trans hm.rd_removed
  have hstamp : stampCnlo (cbCount m c 5) j.ts = stampCnlo n j.ts := hm.stampCnlo j.ts
  have hdom : tsdom (cbCount m c 5) = tsdom n := by
    have hcnt : R.TB_STAT ≠ R.CB_CNT c 5 := by simp only [R.CB_CNT, R.TB_STAT]; omega
    exact (tsdom_congr (n := m) (m := cbCount m c 5) rfl (rd_count_ne m hcnt)).trans hm.tsdom
  rw [hstamp, hdom]
  have hstore (p : Node) : KeepsSending c p (if cbCfg p c F.CB_CFG_MODE = 3 then canStore p c j.frame j.ts else p) :=
    .ite (keepsSending_canStore p c _ _) (.refl c p)
  rw [(hstore _).jobs, (hstore _).done, (hstore _).rd_removed, Counted, (hstore _).rd_sent]
  unfold sentRecords
  cases j.tsreq with
  | false => exact ⟨hjobs, hsent, hremoved, hdone.trans (List.append_nil _).symm⟩
  | true =>
    obtain ⟨hj, hdn, hrd⟩ := completeCan_packs (cbCount m c 5) c
      (emRecord j.tag j.ts.toNat (stampCnlo n j.ts) (c + 16) 0 (b2n (tsdom n))) (le_of_le_of_eq hq (hm.ff _ _).symm)
      (by rw [can_cbCount, hdone]; exact hd)
    rw [if_pos rfl, if_pos rfl, hj, hdn, hrd, hrd, can_cbCount, hjobs, hdone]
    exact ⟨rfl, hsent, hremoved, rfl⟩

/-- An attempt of an aborted frame that fails: the frame is removed with TSTAT 2. -/
theorem canComplete_failed (n : Node) (c : Nat) {j : CanJob} {how : CanTx} (ha : j.abort) (hh : how ≠ .sent)
    (hq : 256 ≤ ff n (R.CB_TXCQ c) F.CB_TXCQ_QUEUE) (hd : (can n c).done.length < 7) :
    (can (canComplete n c j how) c).jobs = (can n c).jobs.drop 1 ∧ Counted n (canComplete n c j how) (R.CB_CNT c 6)
      ∧ (can (canComplete n c j how) c).done = (can n c).done ++ [emRecord j.tag 0 0 (c + 16) 2 0] := by
  obtain ⟨m, hm, heq⟩ := canComplete_aborted n c ha hh
  obtain ⟨hjobs, hcount, hdone⟩ := removedCan_dropJob m c j.tag 2 (le_of_le_of_eq hq (hm.ff _ _).symm) (by rw [hm.done]; exact hd)
  rw [Counted, hm.rd_removed] at hcount
  rw [heq, hjobs, hdone, hm.jobs, hm.done]
  exact ⟨rfl, hcount, rfl⟩

/-! ### The commands -/

/-- A write of CB_CTL.ABORT while a frame is on the bus marks it, and nothing else. -/
theorem cbCtlWrite_abort (n : Node) (c : Nat) {j : CanJob} {js : List CanJob} (hon : canOn n c) (hjobs : (can n c).jobs = j :: js)
    (hactive : j.active) : cbCtlWrite n c 8#32 = setCan n c { can n c with jobs := { j with abort := true } :: js } := by
  have hctl : cbCtlWrite n c 8#32 = canAbort n c := by
    unfold cbCtlWrite
    rw [hon]
    rfl
  rw [hctl, canAbort, hjobs]
  dsimp only
  rw [if_pos hactive, setJob, hjobs, List.drop_one, List.tail_cons]

/-- A change of controller c and of the outputs alone. -/
theorem frame_keepId_setCan_quiet (n : Node) (c : Nat) (x : Can) :
    Frame [.out, .cb] (fun _ => false) n (keepId n (setCan (quiet n) c x)) := by
  refine ⟨fun p hp => ?_, fun _ _ => rfl⟩
  cases p
  case out => exact absurd (by decide) hp
  case cb => exact absurd (by decide) hp
  all_goals rfl

/-- CAN_TRANSMIT_COMPLETE while a frame is on the bus ends its attempt. -/
theorem exec_canTransmitComplete (c : Fin 4) (how : CanTx) (s : State) {j : CanJob} {js : List CanJob}
    (hon : canOn s.node c.val) (hjobs : (can s.node c.val).jobs = j :: js) (hactive : j.active) :
    exec (.canTransmitComplete c how) s
      = .next { s with node := keepId s.node (afterAttempt (canComplete (quiet s.node) c.val j how) c.val) } := by
  have hon' : (canOn (quiet s.node) c.val && j.active) = true := by rw [hactive, Bool.and_true]; exact hon
  have hjobs' : (can (quiet s.node) c.val).jobs = j :: js := hjobs
  change execCanTransmitComplete c how s = _
  unfold execCanTransmitComplete onNode
  dsimp only
  rw [hjobs']
  dsimp only
  rw [if_pos hon']

/-- Settles O8: an attempt that fails comes to the removal with TSTAT 2, one that succeeds never looks at the abort, and what follows
either keeps what the controller sends. -/
theorem abortEndsAttempt : Obligations.AbortEndsAttempt := by
  unfold Obligations.AbortEndsAttempt
  rintro s c _ j js rfl hon hjobs hactive
  have hdrop : (can s.node c.val).jobs.drop 1 = js := by rw [hjobs]; rfl
  refine ⟨⟨_, rfl, rfl, ?_⟩, fun habort hdone hq => ⟨fun how hhow => ?_, ?_⟩⟩
  · dsimp only
    rw [cbCtlWrite_abort (quiet s.node) c.val hon hjobs hactive]
    exact ⟨can_setCan _ _ _, frame_keepId_setCan_quiet _ _ _⟩
  · refine ⟨_, exec_canTransmitComplete c how s hon hjobs hactive, rfl, ?_⟩
    have hafter := keepsSending_afterAttempt (canComplete (quiet s.node) c.val j how) c.val
    obtain ⟨hj, hcount, hd⟩ := canComplete_failed (quiet s.node) c.val habort hhow hq hdone
    exact ⟨(hafter.jobs.trans hj).trans hdrop, hafter.rd_removed.trans hcount, hafter.done.trans hd⟩
  · refine ⟨_, exec_canTransmitComplete c .sent s hon hjobs hactive, rfl, ?_⟩
    have hafter := keepsSending_afterAttempt (canComplete (quiet s.node) c.val j .sent) c.val
    obtain ⟨hj, hcount, hremoved, hd⟩ := canComplete_sent (quiet s.node) c.val j hq hdone
    exact ⟨(hafter.jobs.trans hj).trans hdrop, hafter.rd_sent.trans hcount, hafter.rd_removed.trans hremoved, hafter.done.trans hd⟩

end Sys2Proof.Machine
end
